-- ==== Sys2Proof/Word.lean ====
section
/-!
DEFINITION. Numbers, times and sparse tables: the plainest types of the model.
Amounts, indices and fields are natural numbers; a time is a number of quarter nanoseconds (one period of the
4.0 GHz root clock, 01 Table ARC-10); a sparse table lists its entries by rising key.
-/
namespace Sys2Proof

/-- A sparse table: pairs of a key and a value, keys strictly rising, no entry at the table's default value. -/
abbrev Tbl (α : Type) := List (Nat × α)

/-- The field of a number at [hi:lo]. -/
def bits (n hi lo : Nat) : Nat := (n >>> lo) % 2 ^ (hi + 1 - lo)

/-- Bit `k` of a number. -/
def bit (n k : Nat) : Bool := n.testBit k

/-- A number with its field at [hi:lo] replaced by `v`. -/
def setBits (n hi lo v : Nat) : Nat :=
  n - bits n hi lo * 2 ^ lo + (v % 2 ^ (hi + 1 - lo)) * 2 ^ lo

/-- A truth value as a bit. -/
def b2n (b : Bool) : Nat := if b then 1 else 0

/-- Times in quarter nanoseconds. [DESIGN CHOICE, log 5] -/
abbrev Time := Nat

def ns (n : Nat) : Time := 4 * n
def us (n : Nat) : Time := 4000 * n
def ms (n : Nat) : Time := 4000000 * n
def sec (n : Nat) : Time := 4000000000 * n

end Sys2Proof
end

