-- ==== Sys2Proof/Syntax.lean ====
section
/-!
DEFINITION. The commands the block takes (spec/opcode_table.json) and the operands they carry.
The table gives no bits to any row, so a command has no encoding. An operand that names a unit is a `Fin` of the
unit's count, so that no command can name a unit that does not exist.
-/
namespace Sys2Proof

/-- An instance path: pairs of an element kind (15 Table ODX-2) and its number, outermost first. -/
abbrev Path := List (Nat × Nat)

/-- Who asks for a management operation (15 Table ODX-4). `boot` stands for boot code, the only writer of BOOT objects. -/
inductive Role where
  | observer | manager | owner | boot
  | host (vcs : Fin 64)
  | engine (e : Fin 192)
  deriving DecidableEq, Repr

/-- The messages the datapath carries: the bulk messages of PCIe and CXL.io, and the CXL.mem and CXL.cache messages
of 06 Table COH-5; and a link management packet of PCIe (10 R303, R304), which ends at its port. -/
inductive MsgOp where
  | mWr | msg | mRd | cplD | cpl
  | memRd | memRdData | memInv | memInvNT | memClnEvct | memSpecRd | biConflict | memRdFwd | memWrFwd
  | memWr | memWrPtl
  | biRspI | biRspS | biRspE | biRspIBlk | biRspSBlk | biRspEBlk
  | biSnpCur | biSnpData | biSnpInv | biSnpCurBlk | biSnpDataBlk | biSnpInvBlk
  | cmp | cmpS | cmpE | biConflictAck
  | memData | memDataNXM
  | d2hReq | h2dReq | d2hRsp | h2dRsp | d2hData | h2dData
  | dllp
  deriving DecidableEq, Repr

/-- MetaValue of a CXL.mem request: no cached copy, shared, or exclusive (06 "Request handling in a homed range"). -/
inductive Meta where
  | i | s | a
  deriving DecidableEq, Repr

/-- A forme-level change (02 R67): a bind or an unbind of a vPPB of member `dev`, or a write of a domain slot. -/
inductive FChange where
  | bind (dev n v w : Nat) (far : Option Bool)
  | unbind (dev n v mode : Nat)
  | slot (d n w : Nat)
  deriving DecidableEq, Repr

/-- What one member of a forme tells another over Folio. The manual says what is told (02 R42, R59-R61, R66-R68, R71, R76) and gives the
messages no form. [DESIGN CHOICE, log 170] -/
inductive FMsg where
  /-- The lead has a change recorded by the standby, which says so; the lead says when it is carried out (R67). -/
  | record (id : Nat) (c : FChange)
  | recorded (id : Nat)
  | finished (id : Nat)
  /-- The lead has a change carried out; a bind takes its PBR ID. -/
  | carry (c : FChange) (pbr : Nat)
  /-- The lead's record of the domain memberships: domain, slot, member word (R68). -/
  | slots (l : List (Nat × Nat × Nat))
  /-- A member: its identity, whether it is lead-eligible and joined, and its Folio links, as members with ports (R65, R66). -/
  | member (pos : Fin 16) (ident : Nat) (eligible joined : Bool) (links : List (Nat × Nat))
  /-- The lead writes a route entry for a target: member, port, LD; none where the ID is free again (R61). -/
  | route (k : Nat) (e : Nat) (target : Option (Nat × Nat × Nat))
  /-- The lead is asked for an ID for a VCS or the target of a vPPB, gives it, or gets it back (R59). -/
  | askId (n : Nat) (v : Option Nat) (t : Nat × Nat × Nat)
  | giveId (n : Nat) (v : Option Nat) (k : Nat)
  | dropId (k : Nat)
  /-- A target of the receiver is bound to vPPB `v` of the sender's VCS `n`, or released (R42, R60). -/
  | target (r : Nat) (n v : Nat) (on : Bool)
  /-- The target of the receiver's vPPB: its device is there, and its link is up (Tables FAB-3, FAB-7). -/
  | slotView (n v : Nat) (there up : Bool)
  /-- An event at the receiver's slot: 0 an attention button pressed, 1 a power fault (02 Table FAB-7, 17 Table PWR-5). -/
  | slotEvent (n v bit : Nat)
  /-- A target of the receiver is reset, or its slot power goes on or off for the host it is bound to (R76). -/
  | reset (r : Nat)
  | power (r : Nat) (on : Bool)
  /-- The VCS that the receiver's target is bound to becomes viral (16 R465). -/
  | viral (r : Nat)
  /-- The state of a VCS of the sender, and its PBR ID. -/
  | vcs (n st pbr : Nat)
  /-- A capacity event to a VCS of the receiver (08 R231, R234), as in `Output.capacity`, and its host's answer. -/
  | capacity (vcs what block : Nat) (slot : Option Nat)
  | capacityAnswer (vcs what block : Nat) (ok : Bool)
  /-- The COLOUR of blocks of the sender, by base, and that the receiver's checkers use that of one (09 R259). -/
  | colours (l : List (Nat × Nat))
  | coloured (base colour : Nat)
  deriving DecidableEq, Repr

/-- One packet or message at a port. `addr` is the address it carries: the composite address of 06 Table COH-1 after
decoding, or the address in the port's own space; with `dpa` it is an address in a pool's virtual device (08 R226, R227): that of the VCS's
presentation, or the GFAM device of a domain. `len` is its data bytes, `data` the data as one number, lowest byte
first. `vppb` is the vPPB of the sender's VCS that address or ID routing selects, when it selects one; `dst` the port an
answer of the block itself is for. `srcOk` says that the requester ID lies in the bus range of the port it came through.
`status` is a completion's status: 0 successful, 1 Unsupported Request, 4 Completer Abort. `vcs` and `dev` name the VCS a
packet comes from and that VCS's forme member; `last` marks the last answer to a request; `forme` is what a message of the fabric
manager tells, with the member it is for; `toDev` is the member that a part of a ring message goes to; `inner` marks an express request
of an internal initiator, a Platen unit or an Imposition path (06 R165). [DESIGN CHOICE, log 24; DESIGN CHOICE, log 160] -/
structure Packet where
  op : MsgOp
  addr : Nat := 0
  len : Nat := 0
  dst : Option (Fin 128) := none
  tc : Fin 8 := 0
  vc : Fin 8 := 0
  ld : Fin 16 := 0
  tag : Nat := 0
  mval : Meta := .i
  pasid : Option Nat := none
  translated : Bool := false
  poison : Bool := false
  err : Bool := false
  vppb : Option (Fin 128) := none
  srcOk : Bool := true
  status : Nat := 0
  vcs : Option (Fin 64) := none
  dev : Fin 16 := 0
  last : Bool := true
  data : Nat := 0
  forme : Option (Fin 16 × FMsg) := none
  toDev : Option (Fin 16) := none
  inner : Bool := false
  dpa : Option (Option (Fin 16)) := none
  deriving DecidableEq, Repr

/-- An error of a stored word that the step finds (SECDED): of one bit, corrected, or of two. -/
inductive Ecc where
  | single | double
  deriving DecidableEq, Repr

/-- A stored or carried word that a step finds in error: at the quire, on the sheet (at an egress read, the place of the sort in
its packet), in a word of the sort (0 the header word), at a crossing (toward the spine or from it) or at the Galley read. `ptr` is
instead a bit of the two copies of the pointers, tail B lowest, of the queue that is pushed or popped there, which changes after the
push or pop (04 Table GAL-2, R116). -/
structure Upset where
  galley : Bool
  quire : Fin 8
  sheet : Fin 64
  word : Fin 8
  ecc : Ecc
  fromSpine : Bool := false
  ptr : Option (Fin 68) := none
  deriving DecidableEq, Repr

/-- The name of a Galley queue: a stage queue of a quire, a home stage queue of a quire, a bulk egress queue of a port, or
a class egress queue (RSP, DAT, SNP, REQ or MGT) of a port (04 R115, R587). -/
inductive QRef where
  | stage (m : Fin 8) (port : Fin 128) (cls : Fin 6)
  | home (m : Fin 8) (cls : Fin 4)
  | egress (port : Fin 128) (eq : Fin 256)
  | egressCls (port : Fin 128) (cls : Fin 6)
  deriving DecidableEq, Repr

/-- A fault word's parts at the source (16 Table FLT-1); the severity is that of the kind (Table FLT-3). -/
structure FaultMsg where
  source : Nat
  kind : Nat
  ctx : Nat
  deriving DecidableEq, Repr

/-- Damage that a plate check finds (09 Table FRK-8): the plate, in the master copy or in a checker's (0-7 the quires, 8 the
spine); an error of one or two bits, or a difference, overlap or broken order; the second plate of an overlap. -/
structure PlateFault where
  space : Fin 2
  plate : Fin 4096
  checker : Option (Fin 9)
  ecc : Option Ecc
  second : Option (Fin 4096)
  deriving DecidableEq, Repr

/-- What a check of Frisket's memories finds: damage to a plate entry, or an error in a colour slot of a key set, in the bank in use or
in the shadow (09 R275-R277). [DESIGN CHOICE, log 109] -/
inductive FrisketFault where
  | plate (f : PlateFault)
  | key (init : Fin 8192) (slot : Fin 16) (active : Bool) (e : Ecc)
  deriving DecidableEq, Repr

/-- Registers of a function's configuration space (12 Tables HST-1, HST-2, HST-12, FAB-4 and the PCI Express standard), by
name: the manual gives no offsets. -/
inductive CfgReg where
  | ids | command | status | classRev | bar (k : Fin 6) | busNumbers | devCap | devCtl | linkCap | linkCtl | linkStatus
  | msixCap | msixCtl | pmcsr | sriovCap | sriovCtl | numVfs | vfBar (k : Fin 6)
  | slotCap | slotCtl | slotStatus | acsCap | acsCtl | acsVector | dpcCtl | dpcStatus | aerStatus | ariCap | readiness | absent | l1ssCap
  | vcCap | vcCtl (k : Fin 4) | header | pcieCaps | devCap2 | devCtl2 | cxlLocator | aerHeader
  deriving DecidableEq, Repr

/-- A function of a VCS (12 Table HST-1). -/
inductive Func where
  | upBridge | mgmtBridge | vppb (v : Fin 128) | pf | vf (k : Fin 256)
  deriving DecidableEq, Repr

/-- A Folio control block (11 Table LNK-5). -/
structure CtrlBlock where
  ack : Nat := 0
  nak : Bool := false
  ret : Tbl Nat := []
  start : Nat := 0
  win : Tbl Nat := []
  deriving DecidableEq, Repr

/-- A sort slot of a received Folio flit (11 Table LNK-4), with the packet it carries a part of. -/
structure WireSlot where
  cls : Fin 6
  spbr : Fin 4096 := 0xFFF
  dpbr : Fin 4096 := 0xFFF
  plen : Fin 128 := 112
  sop : Bool := true
  eop : Bool := true
  poison : Bool := false
  err : Bool := false
  trace : Bool := false
  tc : Fin 8 := 0
  traceid : Fin 4096 := 0
  void : Bool := false
  pkt : Packet
  deriving DecidableEq, Repr

/-- A received Folio flit (11 Tables LNK-1 to LNK-3): its type, header credits, valid sort slots and control block, the bytes
that FEC corrected, and whether it is good (R316). [DESIGN CHOICE, log 78] -/
structure Flit where
  ty : Fin 16
  crcls : Fin 8 := 7
  crcnt : Fin 512 := 0
  slots : List WireSlot := []
  cb : CtrlBlock := {}
  fec : Fin 4 := 0
  good : Bool := true
  deriving DecidableEq, Repr

/-- What two consecutive markers of a Folio link show (10 Table LAN-6, R297): the partner's settings, the lane order, the
arrival of each logical lane in UI, the physical lanes with inverted SYNC, and whether both spreads were the same. -/
structure Markers where
  rate128 : Bool
  width : Fin 8
  precode : Bool
  reversed : Bool := false
  order : Bool := true
  arrivals : List Nat := []
  same : Bool := true
  inverted : List (Fin 16) := []
  deriving DecidableEq, Repr

/-- What the other end of a Folio link says of itself after alignment (02 R64, R66): `ident` tells one device from another (R65). -/
structure Peer where
  forme : Nat
  stepping : Nat
  pos : Fin 16
  eligible : Bool
  ident : Nat := 0
  /-- The lanes its receiver accepts (10 R300). -/
  use : Fin 4 := 0
  deriving DecidableEq, Repr

/-- What a read of a directory entry finds (07 R213-R216): a single-bit error, an error that fails the line entry or the
region entry, one that leaves the region, or a block's owner, unnamed, or three or more bits that are corrected wrongly. -/
inductive DirErr where
  | single | failedLine | failedRegion | unnamed | miscorrected
  deriving DecidableEq, Repr

/-- The atomic operations of the A extension. -/
inductive AmoOp where
  | swap | add | xor | and | or | min | max | minu | maxu
  deriving DecidableEq, Repr

/-- An access of an engine (14): its kind with the data it stores. `len` is 1, 2, 4 or 8 bytes. -/
inductive EKind where
  | load | store (data : Nat) | lr | sc (data : Nat) | amo (op : AmoOp) (data : Nat) | fence
  deriving DecidableEq, Repr

structure EAcc where
  kind : EKind
  addr : Nat := 0
  len : Nat := 8
  deriving DecidableEq, Repr

/-- The device found at a downstream port (02 R12, R47, R63, 08 R238): the LDs of a multi-logical device, whether it is a dynamic
capacity device that sanitizes on release, whether it runs in CXL 1.1 mode, whether its link trains to CXL, and whether it is a foreign switch
that trains to PBR. A multi-logical device and one in CXL 1.1 mode are CXL devices in any case. -/
structure DevInfo where
  lds : Fin 17 := 0
  sanitize : Bool := false
  cxl11 : Bool := false
  cxl : Bool := false
  pbrSwitch : Bool := false
  deriving DecidableEq, Repr

/-- An image (18 R507): its bytes as a number, header lowest; whether its signature verifies under the key its header names; and, of a
boot configuration, the BOOT objects it carries: object, instance, value (R509). -/
structure Image where
  body : Nat
  sig : Bool := true
  vals : List (Nat × Path × Nat) := []
  deriving DecidableEq, Repr

/-- A unit that leaves service and returns (18 R522). -/
inductive RepairUnit where
  | group (g : Fin 32) | quire (q : Fin 8) | cluster (k : Fin 12)
  deriving DecidableEq, Repr

/-- A self-test unit (21 Table TST-2). -/
inductive TestUnit where
  | quire (q : Fin 8) | slice (q : Fin 8) | cluster (k : Fin 12) | engine (c : Fin 192) | spine
  deriving DecidableEq, Repr

/-- What a read of 4 or 8 bytes of BAR0 finds (12 Table HST-4): in the direct object region the object and instance that an OBJMAP entry
places there and the byte in it; a byte of the Imprint table of the management function or, in VF BAR0, of a VF; nothing. -/
inductive BarRead where
  | object (i : Fin 65536) (k : Fin 256) (p : Path) (off : Fin 65536)
  | imprint (vf : Option (Fin 256)) (off : Fin 65536)
  | nothing
  deriving DecidableEq, Repr

/-- Where a management message comes from, and where its answer goes (15 R436-R438, 18 Table BOT-5): a management port and the sender's
address, an I3C port and the endpoint's identifier, or the DOE mailbox of a VCS's management function. -/
inductive Via where
  | mgmt (k : Fin 2) (peer : Nat)
  | i3c (k : Fin 2) (eid : Fin 256)
  | doe (n : Fin 64)
  deriving DecidableEq, Repr

/-- What a value written does not say of itself: whether the signature of an image, a token or a program verifies, and whether an owner key
made a token's; the BOOT objects that a staged boot configuration carries; the sector of a flash error; what the member that holds a remote
bind target says of it (see `bind`); and, of a request for another member, what that member answers: a code of 15 Table ODX-8 and a
value; none where it cannot be reached within 1 ms. -/
structure Extra where
  sigOk : Bool := true
  owner : Bool := false
  vals : List (Nat × Path × Nat) := []
  flashErr : Option Nat := none
  far : Option Bool := none
  member : Option (Fin 11 × Option Nat) := none
  deriving DecidableEq, Repr

/-- An item of a message (15 Table ODX-7): `len` is VLEN, `data` the value bytes as a number, lowest first; `pad` says that its padding is
zero. -/
structure AdsItem where
  idx : Fin 65536
  sub : Fin 256
  path : Path := []
  ty : Fin 256 := 0
  next : Bool := false
  wild : Bool := false
  last : Bool := false
  len : Nat := 0
  off : Nat := 0
  aux : Nat := 0
  data : Nat := 0
  pad : Bool := true
  x : Extra := {}
  deriving DecidableEq, Repr

/-- The requests of 15 Table ODX-6. -/
inductive AdsOp where
  | get | set | snapshot | subscribe | unsubscribe
  deriving DecidableEq, Repr

/-- What a frame carries (15 R437, R440): an SPDM request, or an Adsum request. KEY_EXCHANGE says whether it is with mutual
authentication; FINISH gives the digest of the requester's leaf key and whether its signature verifies. `other` is anything else. -/
inductive WireMsg where
  | getMeasurements | keyExchange (both : Bool) | finish (key : Nat) (ok : Bool) | heartbeat | keyUpdate | endSession
  | adsum (op : AdsOp) (rid : Fin 65536) (items : List AdsItem)
  | other
  deriving DecidableEq, Repr

/-- A datagram to a management port, or the frame of an MCTP packet (15 R436-R438): the UDP port and payload length of the datagram and
whether it is fragmented; the header; of a secured record the session, the sequence number and whether the tag verifies under the session's
keys; and the message. -/
structure AdsFrame where
  udp : Nat := 4931
  bytes : Nat := 96
  frag : Bool := false
  magic : Nat := 0xAD5F
  ver : Nat := 1
  ftype : Nat := 2
  ses : Nat := 0
  seq : Nat := 0
  tag : Bool := true
  msg : WireMsg
  deriving DecidableEq, Repr

/-- Where an FM API command comes from (02 R73, 15 R438): the mailbox of a VCS's management function, or an MCTP endpoint on an I3C
port. -/
inductive FmVia where
  | mailbox (n : Fin 64)
  | mctp (k : Fin 2) (eid : Fin 256)
  deriving DecidableEq, Repr

/-- An access block: one of a VCS's sixteen (12 Table HST-4), or an engine's (14 R413). -/
inductive AccessBlock where
  | host (n : Fin 64) (k : Fin 16)
  | engine (c : Fin 192)
  deriving DecidableEq, Repr

/-- The commands the block takes: one constructor per row of spec/opcode_table.json, in its order. -/
inductive Instr where
  /-- R7: A write to an object that has no row of its own is applied, or refused whole with the previous value kept. -/
  | registerWrite (role : Role) (idx : Fin 65536) (sub : Fin 256) (p : Path) (v : Nat) (x : Extra)
  /-- R28: A request to a forme-level object that reaches a member other than the lead is forwarded over Folio to the lead, and the answer returns through that member. -/
  | formeRequestForward (who : Role × Option (Fin 16)) (o : Path × Nat) (w : Option Nat) (st : Fin 11) (v : Option Nat)
  /-- R424: A member that cannot reach the named forme member within 1 ms answers BUSY. -/
  | forwardTimeout (k : Fin 16)
  /-- R34: Writing 1 to 0x2011.00 checks the shadow lane-group word and either accepts it or refuses it whole. -/
  | laneGroupCommit (role : Role) (g : Fin 32) (v : Nat)
  /-- R36: A committed lane-group change takes effect within 1 ms, and the changed ports begin training. -/
  | laneGroupChangeApplied (g : Fin 32)
  /-- R38: Writing the VCS enable checks the upstream port and the vPPB total, then enables or disables the VCS. -/
  | vcsEnable (role : Role) (n : Fin 64) (v : Nat)
  /-- R42: A bind command names a vPPB and a target; the T9512 refuses it or moves the vPPB to BIND_PENDING, or to BOUND when no device is present. -/
  | bind (role : Role) (n : Fin 64) (v : Fin 128) (w : Nat) (far : Option Bool)
  /-- R42: The target link reaches DL_Active, or the LD reset completes, and a BIND_PENDING vPPB becomes BOUND with presence set. -/
  | bindTargetReady (n : Fin 64) (v : Fin 128)
  /-- R42: 100 ms pass without DL_Active, and the vPPB becomes BOUND with the link state as it stands. -/
  | bindPendingTimeout (n : Fin 64) (v : Fin 128)
  /-- R44: An unbind in mode 0 moves the vPPB to UNBIND_PENDING and waits for slot power off or link down. -/
  | unbindMode0 (role : Role) (n : Fin 64) (v : Fin 128)
  /-- R44: An unbind in mode 1 presents an attention-button press on the slot and then waits as in mode 0. -/
  | unbindMode1 (role : Role) (n : Fin 64) (v : Fin 128)
  /-- R45: An unbind in mode 2 presents surprise removal to the host at once and releases the target. -/
  | unbindMode2 (role : Role) (n : Fin 64) (v : Fin 128)
  /-- R44: In UNBIND_PENDING, slot power off, link down or target removal releases the target and the vPPB becomes UNBOUND. -/
  | unbindComplete (n : Fin 64) (v : Fin 128)
  /-- R44: The unbind wait expires, and the command completes with failure with the binding kept. -/
  | unbindWaitExpiry (n : Fin 64) (v : Fin 128)
  /-- R51: A write of a member to a FREE domain slot assigns it with suspect count 0. -/
  | domainSlotAssign (role : Role) (d : Fin 16) (n : Fin 64) (v : Nat)
  /-- R55: Writing 0xFFFF to a MEMBER slot moves it to LEAVING and starts back-invalidation of its bits. -/
  | domainSlotRemove (role : Role) (d : Fin 16) (n : Fin 64)
  /-- R55: The last set bit of a LEAVING slot clears, and the slot returns to FREE. -/
  | leavingComplete (d : Fin 16) (n : Fin 64)
  /-- R69: Every Folio link to a member has been down for the forme loss timeout, and that member, or the lead, is declared lost. -/
  | formeLossTimeout (k : Fin 16)
  /-- R69: The standby takes the lead within 20 ms of the lead's loss declaration, and a new standby is chosen. -/
  | standbyTakeover
  /-- R74: FM API Identify returns the identity objects. -/
  | fmApiIdentify (via : FmVia)
  /-- R75: FM API Background Operation Status returns the state of the bind or unbind in progress. -/
  | fmApiBackgroundOpStatus (via : FmVia)
  /-- R74: FM API event-record commands read the Proofreader fault log. -/
  | fmApiEventRecords (via : FmVia)
  /-- R74: FM API Identify Switch Device returns port roles, VCS enables, lead and members. -/
  | fmApiIdentifySwitchDevice (via : FmVia)
  /-- R74: FM API Get Physical Port State returns role, link, presence, rate and width of ports. -/
  | fmApiGetPhysicalPortState (via : FmVia) (ps : List (Fin 128))
  /-- R74: FM API Physical Port Control performs the per-port link reset. -/
  | fmApiPhysicalPortControl (via : FmVia) (p : Fin 128) (v : Nat)
  /-- R74: FM API Get Virtual CXL Switch Info returns VCS settings and binding records. -/
  | fmApiGetVcsInfo (via : FmVia) (ns : List (Fin 64))
  /-- R42: FM API Bind vPPB runs the bind command. -/
  | fmApiBindVppb (via : FmVia) (n : Fin 64) (v : Fin 128) (w : Nat) (far : Option Bool)
  /-- R44: FM API Unbind vPPB runs the unbind with the mode mapped from the command option. -/
  | fmApiUnbindVppb (via : FmVia) (n : Fin 64) (v : Fin 128) (option : Fin 3)
  /-- R74: FM API Generate AER Event generates an AER event on a vPPB. -/
  | fmApiGenerateAerEvent (via : FmVia) (n : Fin 64) (v : Fin 128) (k : Fin 32) (p : Packet)
  /-- R74: FM API Get DCD Info returns pooled-capacity information. -/
  | fmApiGetDcdInfo (via : FmVia)
  /-- R226: FM API Get DC Region Configuration returns the fixed region configuration. -/
  | fmApiGetDcRegionConfig (via : FmVia) (region : Nat)
  /-- R226: FM API Set DC Region Configuration is refused for any value other than the fixed ones. -/
  | fmApiSetDcRegionConfig (via : FmVia) (region : Nat) (vals : List Nat)
  /-- R226: FM API Get DC Region Extent Lists returns the slot maps. -/
  | fmApiGetDcExtentLists (via : FmVia) (gfam : Bool) (n : Fin 64) (region : Nat)
  /-- R229: FM API Initiate Dynamic Capacity Add issues a block bind. -/
  | fmApiInitiateDcAdd (via : FmVia) (b : Fin 65536) (nkind : Bool) (scrubm : Fin 4) (dest : Fin 4096)
  /-- R229: FM API Initiate Dynamic Capacity Release issues a block release, forced when flagged. -/
  | fmApiInitiateDcRelease (via : FmVia) (b : Fin 65536) (forced : Bool) (scrubm : Fin 4)
  /-- R74: FM API commands of the MLD, multi-headed and external DCD sets are tunnelled to the device. -/
  | fmApiTunnel (via : FmVia) (p : Fin 128) (opcode : Fin 65536) (data : Nat)
  /-- R73: An FM API command with another opcode, or on a non-owner VCS mailbox, is answered Unsupported. -/
  | fmApiUnsupported (via : FmVia)
  /-- R76: A device inserted at an unbound downstream port trains and is enumerated by the fabric manager only. -/
  | insertionUnboundPort (p : Fin 128) (d : DevInfo)
  /-- R76: A device inserted at a bound port raises Presence Detect Changed on the vPPB slot. -/
  | insertionBoundPort (p : Fin 128) (d : DevInfo)
  /-- R76: An attention button press is presented on the bound vPPB slot, or raises only an Adsum event when unbound. -/
  | attentionButton (p : Fin 128)
  /-- R77: Loss of a bound target's link starts the surprise-removal sequence of flush, DPC and slot status. -/
  | surpriseRemoval (p : Fin 128)
  /-- R76: An upstream link going down puts its VCS in host-absent with bindings kept. -/
  | upstreamLinkDown (p : Fin 128)
  /-- R76: An upstream link returning resets every virtual bridge of the VCS and resets each bound target. -/
  | upstreamLinkReturn (p : Fin 128)
  /-- R335: A Folio link going down holds every sort without limit of time. -/
  | folioLinkDown (p : Fin 128)
  /-- R86: In each slot each ingress quire launches at most one sort per sheet, express before bulk. -/
  | stage1Slot (u : Option Upset)
  /-- R89: In each slot each intermediate delivers at most one eligible sort per sheet to each egress quire. -/
  | stage2Slot (u : Option Upset)
  /-- R84: A frame's first sort has waited for the frame timer, and the frame closes. -/
  | frameTimerExpiry (q : Fin 8)
  /-- R85: A closed frame is spread over intermediates from the rotation pointer into the bulk launch queues. -/
  | frameSpread (r e : Fin 8)
  /-- R97: A sort arriving at its egress quire is queued, or held and released in stream order by collation. -/
  | stage2Arrival (e : Fin 8) (u : Option Upset)
  /-- R99: A missing sequence number passes the gap timeout, and the lost packet's buffered sorts are discarded. -/
  | collationGapTimeout (e : Fin 8)
  /-- R103: Crossing occupancy reaches 1 or 7, and bulk launch is withheld 1 slot in 8. -/
  | elasticDrift (q : Fin 8) (x : Fin 20) (high : Bool)
  /-- R103: Occupancy has stayed in 2–6 for 1 µs, and withholding ends. -/
  | elasticDriftEnd (q : Fin 8) (x : Fin 20)
  /-- R103: Crossing occupancy reaches 0 or 8, and the quire is contained. -/
  | elasticOverrun (q : Fin 8) (x : Fin 20) (high : Bool)
  /-- R251: A packet enters a port's intake and is routed and checked. -/
  | ingressPacketReceive (port : Fin 128) (p : Packet)
  /-- R123: The packet at an intake head asks for admission against map bits, account and launch room, and is admitted or held. -/
  | intakeAdmission (p : Fin 128) (f : Fin 64)
  /-- R124: An express message is admitted when it holds a class credit toward its pinned intermediate and launch room. -/
  | expressAdmission (p : Fin 128) (f : Fin 64)
  /-- R113: Writing the flush object flushes an egress queue at its next packet boundary. -/
  | queueFlush (role : Role) (p : Fin 128) (e : Fin 256) (v : Nat)
  /-- R116: The background check compares every queue descriptor's copies at least once per 1 ms. -/
  | descriptorCheckTimer (bad : Option QRef)
  /-- R117: The link-memory sweep ends, having reclaimed every buffer of the old generation. -/
  | queueSweepComplete (q : Fin 8)
  /-- R120: At each whole millisecond intermediates latch received counts, and source quires restore lost express credits. -/
  | creditAudit
  /-- R127: Every 32 ns each quire broadcasts its congestion map. -/
  | congestionMapSend (q : Fin 8)
  /-- R129: A quire takes a received map, or discards a bad one and treats the sender's bits as 1. -/
  | congestionMapReceive (r e : Fin 8) (bad : Bool)
  /-- R133: The egress arbiter grants the port's transmit path to the next packet by tier, guard and DRR. -/
  | egressGrant (p : Fin 128) (u : Option Upset)
  /-- R139: Writing the keying mode loads the shadow key map with the new mode's defaults. -/
  | keyingModeWrite (role : Role) (p : Fin 128) (v : Nat)
  /-- R140: Writing 1 to 0x4040.04 commits the shadow keying mode and map, holding moved keys. -/
  | keyMapCommit (role : Role) (p : Fin 128) (v : Nat)
  /-- R140: Every queue that lost a key has drained, and admission resumes under the new map. -/
  | remapApplied (p : Fin 128)
  /-- R140: The remap timeout expires, the commit is refused and the old map stays. -/
  | remapTimeout (p : Fin 128)
  /-- R148: A limiter target record write unbinds the old target and binds the new. -/
  | limiterTargetWrite (role : Role) (q : Fin 8) (n : Fin 8192) (v : Nat)
  /-- R146: Each 16 ns slot the wheel drains its near slot and, at revolution start, redistributes a far slot. -/
  | wheelSlot (q : Fin 8)
  /-- R149: At each sample interval instant the quire samples depth and head delay of every enabled queue. -/
  | sampleInstant (q : Fin 8)
  /-- R152: A read of a histogram or maximum returns it and clears it in one operation. -/
  | histogramRead (q : QRef) (what : Fin 4)
  /-- R149: Enabling sampling on a queue is refused beyond 1,024; disabling clears its histograms. -/
  | samplingEnableWrite (role : Role) (q : QRef) (v : Nat)
  /-- R158: A range entry write is checked and applies a mode change under Table COH-3. -/
  | rangeEntryWrite (role : Role) (rg : Fin 1024) (v : Nat)
  /-- R159: The last block invalidation of a conversion is answered, and the range takes its new mode. -/
  | rangeConversionComplete (rg : Fin 1024)
  /-- R168: A CXL.mem request reaches its home, is looked up and starts a transaction or waits in the line's wait list. -/
  | homeRequest (q : Fin 8) (e : Option DirErr)
  /-- R169: A MemWr or MemWrPtl enters the write buffer and is applied or refused by line state. -/
  | homeWrite (q : Fin 8) (e : Option DirErr)
  /-- R185: A snoop response reaches the home and advances its transaction, or is discarded as late. -/
  | birspReceive (q : Fin 8)
  /-- R172: A device read response reaches the home and is forwarded, with poison passed on. -/
  | deviceResponseReceive (q : Fin 8)
  /-- R177: A ring message passing a node places snoops for local masked slots and clears their bits. -/
  | ringNodePass (k : Fin 16)
  /-- R176: A member receives another member's mask part over Folio and injects it into its own ring. -/
  | remoteRingPartReceive (q : Fin 8) (hq : Fin 8) (d : Fin 16) (p : Packet)
  /-- R185: A back-invalidate timer expires; the line is poisoned and the target treated as answering BIRspI. -/
  | biTimeout (q : Fin 8)
  /-- R189: A slot sweep ends, and a SWEEPING slot returns to NORMAL with held requests admitted. -/
  | slotSweepEnd (d : Fin 16) (n : Fin 64)
  /-- R189: Writing 1 to 0x5030.03 returns an ISOLATED slot to NORMAL, or is refused. -/
  | releaseIsolation (role : Role) (d : Fin 16) (n : Fin 64) (v : Nat)
  /-- R188: Writing 0 to the suspect count clears it; another value is refused. -/
  | suspectCountClear (role : Role) (d : Fin 16) (n : Fin 64) (v : Nat)
  /-- R192: Writing a composite address to 0x5042.01 returns its state, sharers and wait-list length. -/
  | homeInspect (role : Role) (q : Fin 8) (a : Nat)
  /-- R202: Every block of a region recall is answered, and the region entry takes the result. -/
  | regionRecallComplete (q : Fin 8)
  /-- R204: The walker visits a region entry and the line entries of its block, updating HITS, QUIET and REF and correcting errors: `es` is
  what it finds, by line of the region, and line 0 for the region entry of an unpromoted region. -/
  | walkerVisit (q : Fin 8) (es : List (Fin 64 × DirErr))
  /-- R205: The demotion's snoops are answered, and the region entry is written and the block freed. -/
  | demotionComplete (q : Fin 8)
  /-- R210: With free blocks below the reserve, the slice demotes promoted regions in the background. -/
  | backgroundDemotion (q : Fin 8)
  /-- R208: Every block of an eviction is answered, the entry is invalidated and the waiting request takes the way. -/
  | evictionComplete (q : Fin 8)
  /-- R217: Writing 1 to 0x5100.02 moves a slice to DRAINING with FALLBACK set. -/
  | sliceOutOfService (role : Role) (q : Fin 8) (v : Nat)
  /-- R217: Every directory-based transaction has ended, and the arrays are discarded. -/
  | sliceDrainComplete (q : Fin 8)
  /-- R217: Writing 1 to 0x5100.03 on an OUT slice initialises the arrays and starts the rebuild sweep. -/
  | sliceReturn (role : Role) (q : Fin 8) (v : Nat)
  /-- R219: Every block of a rebuild region is answered, the region becomes directory-served and the pointer moves. -/
  | rebuildRegionAnswered (q : Fin 8)
  /-- R229: A bind command on a FREE block runs steps 5 and 6 to the new owner. -/
  | blockBind (role : Role) (b : Fin 65536) (nkind : Bool) (scrubm : Fin 4) (dest : Fin 4096)
  /-- R229: A release command starts re-binding at step 1 with NEXT none, or scrubs a quarantined block. -/
  | blockRelease (role : Role) (b : Fin 65536) (forced : Bool) (scrubm : Fin 4)
  /-- R229: A re-bind command starts re-binding at step 1 toward a new owner. -/
  | blockRebind (role : Role) (b : Fin 65536) (forced nkind : Bool) (scrubm : Fin 4) (dest : Fin 4096)
  /-- R240: A journal record is written and verified on both copies, and the step it announces starts. -/
  | journalRecordDurable (failed : Fin 3)
  /-- R231: The owner answers Release Dynamic Capacity, ending step 1 or failing it. -/
  | releaseCapacityResponse (b : Fin 65536) (vcs : Fin 64) (extent : Bool)
  /-- R231: The release timeout expires, and the operation ends with status 3. -/
  | releaseTimeout (b : Fin 65536)
  /-- R233: 10 µs after the transit-colour commit reports complete, step 3 ends once the home holds nothing. -/
  | transitSettleTimer (b : Fin 65536)
  /-- R237: A block's scrub ends, and it becomes FREE or proceeds to steps 5 and 6. -/
  | scrubComplete (b : Fin 65536)
  /-- R239: A scrub write completes with error, FAILS rises, and the scrub restarts or the block is quarantined. -/
  | scrubAttemptFail (b : Fin 65536)
  /-- R238: A device sanitize not complete within its timeout counts one failed attempt. -/
  | sanitizeTimeout (b : Fin 65536)
  /-- R234: The host's Add Dynamic Capacity Response is recorded. -/
  | addCapacityResponse (b : Fin 65536) (vcs : Fin 64) (accepted : Bool)
  /-- R226: Writing pool presentation enables a virtual DCD on an UNBOUND vPPB or is refused. -/
  | poolPresentationEnable (role : Role) (n : Fin 64) (v : Nat)
  /-- R261: Writing 1 to the plate lock checks the plates of a space and locks it, or refuses. -/
  | plateLock (role : Role) (space : Fin 2) (v : Nat)
  /-- R270: Writing the next generation to 0x6020.01 starts a key-table bank change, or is refused. -/
  | keyTableCommit (role : Role) (v : Nat)
  /-- R271: Every checker has changed bank; the new generation becomes active and copying to shadow starts. -/
  | keyCommitComplete
  /-- R271: The copy of the active bank into the shadow ends, and the commit state returns to idle. -/
  | keyShadowCopyComplete
  /-- R275: The background pass checks every plate code, master copy and order at least once per 1 ms. -/
  | plateBackgroundCheck (found : Option FrisketFault)
  /-- R286: Writing a new target rate to a port whose link is up starts a directed speed change. -/
  | targetRateWrite (role : Role) (p : Fin 128) (v : Nat)
  /-- R293: A manual equaliser write takes effect at once on the lane. -/
  | adaptationManualWrite (role : Role) (l : Fin 512) (v : Nat)
  /-- R294: A margining command takes the sampler and aborts any eye scan on the lane. -/
  | marginingCommand (l : Fin 512)
  /-- R299: The transmit PLL locks, and the port sends training markers and begins receiver lock. -/
  | folioPllLock (p : Fin 128)
  /-- R297: Two consecutive good markers on every lane meet the alignment conditions, and deskew is applied. -/
  | folioAlign (p : Fin 128) (m : Markers)
  /-- R300: The lock timeout expires; the port restarts lock or degrades to half width. -/
  | folioLockTimeout (p : Fin 128) (lower upper : Bool)
  /-- R299: The partner's markers show ALIGNED, and the link enters ACTIVE. -/
  | folioPartnerAligned (p : Fin 128) (e : Peer)
  /-- R299: No partner ALIGNED within the lock timeout, and the port returns to LOCK. -/
  | folioAlignedTimeout (p : Fin 128)
  /-- R299: Four consecutive markers of one lane fail CRC, and the link retrains. -/
  | folioMarkerFail (p : Fin 128)
  /-- R301: A retrain or Dormant exit that misses its bound is link down from its start. -/
  | folioRetrainBoundExpiry (p : Fin 128)
  /-- R305: A Folio port idle for the Dormant idle time sends a Dormant request flit. -/
  | dormantIdleTimeout (p : Fin 128)
  /-- R306: A Dormant request is answered with acknowledge or refusal, or taken as acknowledge when crossed. -/
  | dreqReceive (p : Fin 128)
  /-- R306: A Dormant acknowledge arriving at the requester leads to DORMANT or a cancel. -/
  | dackReceive (p : Fin 128)
  /-- R305: A Dormant refusal leaves both sides in ACTIVE. -/
  | drefReceive (p : Fin 128)
  /-- R306: A Dormant cancel keeps both sides in ACTIVE. -/
  | dcanReceive (p : Fin 128)
  /-- R306: An acknowledging side sees electrical idle from the requester and enters DORMANT. -/
  | electricalIdleDetect (p : Fin 128)
  /-- R306: An acknowledging side sees neither idle nor cancel within 2 µs and stays ACTIVE. -/
  | dormantAckTimeout (p : Fin 128)
  /-- R307: Traffic waiting or electrical-idle exit starts PLL relock from DORMANT. -/
  | folioDormantExit (p : Fin 128)
  /-- R308: The Dormant probe interval expires, and the lower-positioned end exits and re-enters DORMANT. -/
  | dormantProbe (p : Fin 128)
  /-- R304: CLKREQ# assertion starts exit from L1.2 to L0. -/
  | clkreqAssert (p : Fin 128)
  /-- R310: A loopback write on a quiesced lane enables it, or is refused. -/
  | loopbackEnable (role : Role) (l : Fin 512) (v : Nat)
  /-- R311: A generator write starts a PRBS pattern on the lane, or is refused. -/
  | patternGeneratorEnable (role : Role) (l : Fin 512) (v : Nat)
  /-- R311: A checker write starts PRBS checking on the lane, or is refused. -/
  | patternCheckerEnable (role : Role) (l : Fin 512) (v : Nat)
  /-- R312: Writing 0x3022.01 starts an eye scan on the margining sampler. -/
  | eyeScanStart (role : Role) (l : Fin 512) (v : Nat)
  /-- R312: The eye scan's dwell ends and its result is stored. -/
  | eyeScanComplete (l : Fin 512) (errors : Nat)
  /-- R320: A Folio flit is received, checked, accepted or dropped, and its control block and credits taken. -/
  | folioFlitReceive (p : Fin 128) (fl : Flit)
  /-- R333: A good INIT releases flits, sets credits from WIN and replays before new flits. -/
  | folioInitReceive (p : Fin 128) (cb : CtrlBlock)
  /-- R332: A partner receiving RTRN retrains at once. -/
  | folioRtrnReceive (p : Fin 128)
  /-- R333: On entry to ACTIVE an end sends INIT at least every 64 ns until it receives one. -/
  | initResendTimer (p : Fin 128)
  /-- R323: Within 64 ns of E advancing an end sends a control block. -/
  | controlBlockDue (p : Fin 128)
  /-- R326: The replay timer expires, and the sender replays from the oldest held flit or starts a planned retrain. -/
  | replayTimerExpiry (p : Fin 128)
  /-- R332: At each monitor interval end the effective windows are set and a leak below threshold starts a retrain. -/
  | leakMonitorInterval (p : Fin 128)
  /-- R332: Writing 0x2120.01 sends RTRN and starts a planned retrain. -/
  | plannedRetrainRequest (role : Role) (p : Fin 128) (v : Nat)
  /-- R336: A completion arrives and frees its tracker entry, or is discarded as late. -/
  | trackerCompletion (p : Fin 128) (pk : Packet)
  /-- R336: A tracker entry's timer expires and the request is completed with error or poison. -/
  | trackerTimeout (p : Fin 128)
  /-- R349: A control-word write with OP GET reads the named object in the host's view. -/
  | accessBlockGet (b : AccessBlock) (idx : Fin 65536) (sub : Fin 256) (p : Path) (x : Extra)
  /-- R349: A control-word write with OP SET writes a host-writable object or ends with STATUS 4. -/
  | accessBlockSet (b : AccessBlock) (idx : Fin 65536) (sub : Fin 256) (p : Path) (len : Fin 65536) (data : Nat) (x : Extra)
  /-- R348: An aligned read of the direct object region returns one sample of an RO object; of the Imprint table (R350), its bytes. -/
  | directObjectRead (n : Fin 64) (r : BarRead) (wide : Bool)
  /-- R353: A host BAR4 access is translated through its window to a composite address, or completes with UR. -/
  | bar4Access (n : Fin 64) (p : Packet)
  /-- R355: Writing OKIND 0b00 turns a window off, drains its accesses and then answers. -/
  | impositionWindowOff (role : Role) (k : Fin 4096) (v : Nat)
  /-- R361: An event on a vector sends MSI-X, sets its PBA bit, or asserts INTA. -/
  | interruptEvent (n : Fin 64) (f : Func) (v : Fin 2048)
  /-- R361: Unmasking a vector sends its pending message; with the entry's address and data where the host writes them first. -/
  | msixUnmask (n : Fin 64) (f : Func) (v : Fin 2048 × Option (Nat × Nat))
  /-- R359: An engine write to 0x4440.01 raises vector 3 once announced writes are visible. -/
  | hostDoorbellRing (e : Fin 192) (n : Fin 64)
  /-- R364: A configuration request receives Retry Status until the function is ready. -/
  | configRequest (n : Fin 64) (f : Func) (r : CfgReg) (w : Option Nat)
  /-- R365: Writing Initiate FLR stops the function's requests and resets it. -/
  | flrInitiate (n : Fin 64) (f : Func)
  /-- R365: The FLR completes within 10 ms and the function is ready. -/
  | flrComplete (n : Fin 64) (f : Func)
  /-- R367: Clearing Bus Master Enable stops admission and pauses the function's rings. -/
  | bmeClear (n : Fin 64) (f : Func)
  /-- R385: Setting Bus Master Enable restarts marked descriptors and sends pending MSI-X. -/
  | bmeSet (n : Fin 64) (f : Func)
  /-- R369: The management function entering D3hot stops issuing requests. -/
  | powerStateD3hot (n : Fin 64)
  /-- R369: The change to D0 restores the paused state. -/
  | powerStateD0 (n : Fin 64)
  /-- R363: Setting VF Enable makes the VFs ready within 10 ms. -/
  | vfEnable (n : Fin 64)
  /-- R363: 10 ms after VF Enable the VFs stop returning Retry Status. -/
  | vfReady (n : Fin 64)
  /-- R363: Clearing VF Enable removes every VF as if each received FLR. -/
  | vfDisable (n : Fin 64)
  /-- R371: Power Controller Control on powers the slot channel, enables the link or resets the LD. -/
  | slotPowerOn (n : Fin 64) (v : Fin 128)
  /-- R371: Power Controller Control off asserts PERST and switches the channel off, or idles the port. -/
  | slotPowerOff (n : Fin 64) (v : Fin 128)
  /-- R371: An indicator control write is driven to the SLOTBUS expander or recorded. -/
  | slotIndicatorControl (n : Fin 64) (v : Fin 128) (att pow : Fin 4)
  /-- R519: A host hot reset or 0xD002.01 resets the VCS's bridges, functions and bound targets. -/
  | vcsHotReset (src : Option Role) (n : Fin 64) (v : Nat)
  /-- R377: A ring assignment write is checked and applied after squashing the old owner's ring. -/
  | ringAssign (role : Role) (r : Fin 65536) (v : Nat)
  /-- R384: An SQ tail write publishes descriptors or sets BADIDX. -/
  | doorbellSqTail (r : Fin 65536) (v : Nat)
  /-- R384: A CQ head write consumes completions or sets BADIDX. -/
  | doorbellCqHead (r : Fin 65536) (v : Nat)
  /-- R385: PAUSE stops fetching and moves the ring to PAUSED. -/
  | ringPause (r : Fin 65536)
  /-- R385: RESUME restarts fetching on a PAUSED ring. -/
  | ringResume (r : Fin 65536)
  /-- R384: FLUSH discards unstarted descriptors at the next descriptor boundary. -/
  | ringFlush (r : Fin 65536)
  /-- R385: CLEAR clears the error bits and returns an ERROR ring to DISABLED. -/
  | ringClear (r : Fin 65536)
  /-- R385: DISABLE flushes the ring and returns it to DISABLED. -/
  | ringDisable (r : Fin 65536)
  /-- R383: A base write is taken while the ring is DISABLED and discarded otherwise. -/
  | ringBaseWrite (r : Fin 65536) (cq : Bool) (v : Nat)
  /-- R383: A configuration write with ENABLE 1 enables the ring or sets CFGERR. -/
  | ringEnable (r : Fin 65536) (v : Nat)
  /-- R382: An unaligned or wrong-size doorbell write, or one to an unowned ring, is discarded and counted. -/
  | doorbellWriteDiscard (n : Option (Fin 64))
  /-- R384: A unit fetches a descriptor into the ring's FIFO and advances the SQ head. -/
  | platenDescriptorFetch (u : Fin 32) (got : Option Nat)
  /-- R375: A unit serves one 4 KB chunk of an active ring in priority round robin. -/
  | platenChunkService (u : Fin 32) (v : Option Nat × Option Nat) (under : Bool)
  /-- R389: An access response arrives; a failure stops the descriptor. -/
  | platenAccessResponse (u : Fin 32)
  /-- R391: A descriptor's writes are visible, and its completion record and vector are written. -/
  | descriptorComplete (r : Fin 65536)
  /-- R392: Owner reset, removal or 0x8000.06 squashes the ring and starts its drain. -/
  | ringSquash (role : Role) (r : Fin 65536) (v : Nat)
  /-- R392: The ring's issued accesses have drained, and it returns to DISABLED. -/
  | ringDrainComplete (r : Fin 65536)
  /-- R406: An engine load is performed under the region type, or traps. -/
  | engineLoad (c : Fin 192) (a : Nat) (size : Fin 4) (answers : Bool)
  /-- R405: An engine store drains through the store buffer and merge buffer. -/
  | engineStore (c : Fin 192) (a : Nat) (size : Fin 4) (v : Nat) (stay : Bool)
  /-- R408: A FENCE completes as a full barrier. -/
  | engineFence (c : Fin 192)
  /-- R409: LR sets a reservation, or a hold after a failed SC. -/
  | engineLr (c : Fin 192) (a : Nat) (wide : Bool) (answers : Bool)
  /-- R410: SC succeeds only on the reserved granule and breaks the reservation. -/
  | engineSc (c : Fin 192) (a : Nat) (wide : Bool) (v : Nat) (answers : Bool)
  /-- R409: An AMO performs a full barrier and the atomic operation. -/
  | engineAmo (c : Fin 192) (op : AmoOp) (a : Nat) (wide : Bool) (v : Nat) (answers : Bool)
  /-- R411: A hold ends after 128 ns and waiting writes are served. -/
  | reservationHoldExpiry (a : Nat)
  /-- R405: The youngest open merge line closes after 64 ns. -/
  | mergeLineTimeout (k : Fin 12)
  /-- R405: A merge line's response arrives and later lines may issue. -/
  | mergeLineResponse (k : Fin 12)
  /-- R414: A target has not answered within 2 µs and is marked ISOLATED. -/
  | netTargetTimeout (t : Fin 256)
  /-- R414: Writing 1 to 0x7030.02 returns an ISOLATED or OFFLINE target to OK, or is refused. -/
  | netTargetReturn (role : Role) (t : Fin 256) (v : Nat)
  /-- R415: Clearing SFINFO VALID clears SFINFO, SFADDR and mip[16]. -/
  | storeFaultClear (c : Fin 192)
  /-- R412: An interrupt message sets its vector's pending bit at the target engine. -/
  | netInterruptMessage (e : Option (Fin 192)) (k : Fin 12) (v : Fin 2048)
  /-- R412: A claim-word load returns the lowest enabled pending vector and clears it. -/
  | interruptClaim (c : Fin 192)
  /-- R397: Writing an engine's MSIP word raises its software interrupt. -/
  | softwareInterrupt (c : Fin 192) (v : Nat)
  /-- R397: mtime reaches mtimecmp and the engine's timer interrupt rises. -/
  | timerInterrupt (c : Fin 192)
  /-- R402: A store to a tray's push word pushes one entry, or is dropped and sets OVR. -/
  | trayPush (k : Fin 12) (n : Fin 32) (v : Nat)
  /-- R402: A load of a tray's pop word pops one entry, or sets UNDR when empty. -/
  | trayPop (c : Fin 192) (k : Fin 12) (n : Fin 32)
  /-- R402: Writing 1 to bit 17 of a tray control word requests a flush. -/
  | trayFlush (k : Fin 12) (n : Fin 32)
  /-- R417: Writing 1 to 0x7040.01 starts the drain-and-fence handshake. -/
  | domainDrain (role : Role) (d : Fin 20)
  /-- R417: At 20 µs unfinished drain entries are discarded and the domain fences. -/
  | drainForceTimeout (d : Fin 20)
  /-- R417: Writing 2 to 0x7040.01 reopens a FENCED domain. -/
  | domainReopen (role : Role) (d : Fin 20)
  /-- R419: The load command verifies a staged service program and starts it on the named engines, or refuses. -/
  | programLoad (role : Role) (v : Nat) (sigOk : Bool)
  /-- R419: Writing 0x7050.08 halts an engine at an instruction boundary. -/
  | programHalt (role : Role) (c : Fin 128) (v : Nat)
  /-- R420: Rirath writes run or halt for a K8–K11 engine. -/
  | engineRunControl (role : Role) (c : Fin 192) (v : Nat)
  /-- R437: A UDP frame on the Adsum port is checked and its SPDM message or secured record taken. -/
  | adsumFrameReceive (via : Via) (f : AdsFrame)
  /-- R431: A GET reads each item independently. -/
  | adsumGet
  /-- R431: A SET applies its items in order and stops at the first failure. -/
  | adsumSet
  /-- R432: A SNAPSHOT reads its items at one timebase instant. -/
  | adsumSnapshot
  /-- R434: A SUBSCRIBE creates a subscription, or is refused with RESOURCE. -/
  | adsumSubscribe
  /-- R435: An UNSUBSCRIBE ends a subscription. -/
  | adsumUnsubscribe
  /-- R434: A changed subscribed instance sends an EVENT at most once per minimum interval. -/
  | adsumEventSend (k : Fin 256) (p : Path)
  /-- R428: A queued P value is made durable in the persistent store. -/
  | pValueDurable
  /-- R440: GET_MEASUREMENTS returns the boot-chain measurements. -/
  | spdmGetMeasurements
  /-- R442: KEY_EXCHANGE starts a session, or is refused when 32 are open. -/
  | spdmKeyExchange
  /-- R441: FINISH completes a session with the role of the matching role-table entry. -/
  | spdmFinish
  /-- R440: HEARTBEAT keeps a session alive. -/
  | spdmHeartbeat
  /-- R440: KEY_UPDATE updates the session keys. -/
  | spdmKeyUpdate
  /-- R442: END_SESSION ends the session and discards its segments and subscriptions. -/
  | spdmEndSession
  /-- R442: A session ends when the heartbeat or idle timeout passes without a record or request. -/
  | sessionIdleTimeout (n : Fin 32)
  /-- R442: Writing 1 to 0x1120.08 ends a session. -/
  | sessionEnd (role : Role) (n : Fin 32) (v : Nat)
  /-- R438: ENTDAA or SETDASA assigns an I3C port its dynamic address. -/
  | i3cDynamicAddress (k : Fin 2) (st : Option (Fin 128)) (a : Fin 128)
  /-- R446: A source raises a fault and sends its word, holds it waiting, or counts it in MISSED. -/
  | faultRaise (m : FaultMsg)
  /-- R447: The collector accepts a fault word, acknowledges it, logs it and updates status. -/
  | faultWordAccept
  /-- R446: A source receives its acknowledgement and sends its waiting word with MISSED. -/
  | faultAckReceive (src : Fin 4096)
  /-- R461: After 10 ms of electrical idle the contained VCS's upstream link retrains. -/
  | vcsRetrainTimer (n : Fin 64)
  /-- R453: Writing the log read pointer frees entries, or is refused. -/
  | logReadPointerWrite (role : Role) (v : Nat)
  /-- R457: Writing 1 to STICKY clears STICKY and SEVMAX of the source. -/
  | sourceStatusClear (role : Role) (src : Fin 4096) (v : Nat)
  /-- R458: A source's alarm interval ends, and one held alarm is raised if a word qualified. -/
  | alarmIntervalExpiry (src : Fin 4096)
  /-- R460: A MANAGER or OWNER read of the alarm summary clears it and deasserts ALERT_N. -/
  | alarmSummaryRead (role : Role)
  /-- R467: A stop-press cause asserts the wire, stops intakes and drains admitted sorts. -/
  | stopPressEntry
  /-- R467: At 100 µs every remaining sort is discarded and every link goes idle. -/
  | stopPressDiscard
  /-- R597: The management die writes the stop-press record. -/
  | stopPressRecordWrite
  /-- R469: A member receiving a stop-press notice treats the sender as lost. -/
  | stopPressNoticeReceive (k : Fin 16)
  /-- R475: A feed is qualified on an enabled path and the damage test starts. -/
  | feedQualified (f : Fin 2) (mV : Nat)
  /-- R475: The 1 ms damage test ends and the path goes ON, PRECHARGE or DAMAGED. -/
  | feedDamageTestEnd (f : Fin 2) (bulk : Nat) (rose : Bool)
  /-- R475: The bulk comes within 2 V of VIN, and the main FETs turn on. -/
  | prechargeComplete (f : Fin 2) (bulk : Nat)
  /-- R477: The pre-charge timer expires, and the path enters FAULT. -/
  | prechargeTimeout (f : Fin 2)
  /-- R476: Current above 20 A is limited and accumulated in the fault timer. -/
  | feedOvercurrent (f : Fin 2) (mA : Nat)
  /-- R482: The fault timer reaches 2 ms, both FETs turn off and the path enters FAULT. -/
  | feedFaultTimerExpiry (f : Fin 2)
  /-- R474: Current at or above 40 A turns both FETs off within 1 µs. -/
  | feedFastTrip (f : Fin 2) (mA : Nat)
  /-- R475: Reverse current turns the reverse FET off and blocks the path. -/
  | feedReverse (f : Fin 2)
  /-- R475: The feed exceeds the bulk by 0.1 V, and a BLOCKED path returns ON. -/
  | feedReverseClear (f : Fin 2) (mV : Nat)
  /-- R475: Reverse current persisting 10 µs marks the path DAMAGED. -/
  | feedReversePersist (f : Fin 2)
  /-- R474: A feed above 62 V turns its path off. -/
  | feedOvervoltage (f : Fin 2) (mV : Nat)
  /-- R475: Writing 0xA000.04, or the feed staying below 10 V for 100 ms, returns a FAULT path to OFF. -/
  | feedFaultClear (role : Role) (f : Fin 2) (v : Option Nat)
  /-- R565: VSB removal turns both feed paths off and resets DAMAGED paths. -/
  | vsbLoss
  /-- R563: VSB enters its range, straps are sampled and the management die starts. -/
  | vsbPresent (straps : Fin 4)
  /-- R481: Every rail in window for 1 ms with idle fault timers asserts power good. -/
  | pwrgdQualify
  /-- R484: The active feed falls below 42 V or too fast, asserting VIN_WARN_N and slowing the datapath. -/
  | vinWarnAssert (rate : Bool) (mV : Nat)
  /-- R484: The feed stays at or above 44 V for 1 ms, deasserting VIN_WARN_N. -/
  | vinWarnDeassert (mV : Nat)
  /-- R489: Writing 0xA010.0B on an unbound port's channel starts a gate ramp. -/
  | slotChannelPowerOn (role : Role) (ch : Fin 32) (v : Nat)
  /-- R489: The slot output reaches 10.8 V, and PERST is deasserted 100 ms later. -/
  | slotRampComplete (ch : Fin 32)
  /-- R488: Ramp-phase current above its limit turns the gate off. -/
  | slotRampOvercurrent (ch : Fin 32) (mA : Nat)
  /-- R489: The output stays below 10.8 V after the ramp bound, and the gate turns off. -/
  | slotRampTimeout (ch : Fin 32) (mA : Nat)
  /-- R488: Steady over-limit for the timer, or a fast trip, turns the gate off. -/
  | slotSteadyTrip (ch : Fin 32) (mA : Nat)
  /-- R489: 100 ms after the ramp reaches 10.8 V, PERST is deasserted and the channel is ON. -/
  | slotPerstDelay (ch : Fin 32)
  /-- R489: The cool-down expires and the channel ramps again. -/
  | slotCoolDownExpiry (ch : Fin 32)
  /-- R489: Writing 0xA010.0C returns a LATCHED channel to OFF. -/
  | slotLatchClear (role : Role) (ch : Fin 32) (v : Nat)
  /-- R492: An expander in-band interrupt reads both input registers. -/
  | slotbusIbi (bus : Fin 4) (addr : Fin 128) (got : Option Nat)
  /-- R492: Every 10 ms the outputs of an unresponsive expander are retried. -/
  | slotbusRetry (bus : Fin 4) (addr : Fin 128) (ack : Bool)
  /-- R493: A reference shows no edge for 1 µs; the PLL holds and may fail over. -/
  | refclkLoss (r : Fin 2)
  /-- R493: The PLL relocks to the other reference. -/
  | refclkRelock (r : Fin 2)
  /-- R493: 10 ms of holdover with no good reference enters stop-press. -/
  | refclkHoldoverExpiry
  /-- R496: A rail more than 4 % low sets the datapath divider to /3. -/
  | droopDetect (die : Fin 10) (mV : Nat)
  /-- R496: Every sensor within 2 % for 1 µs returns the divider to /2. -/
  | droopClear
  /-- R498: A PTP Sync updates the servo, with a single step at first lock. -/
  | ptpSyncReceive (off : Int)
  /-- R498: No Sync for 3 s makes the servo hold its increment. -/
  | ptpSyncLoss
  /-- R499: A TSYNC_IN rising edge latches the timebase and may align it. -/
  | tsyncInEdge
  /-- R499: At each period multiple TSYNC_OUT goes high for its width. -/
  | tsyncOutPulse
  /-- R500: Every 100 µs the sensors are read, updating THERM_N, throttling and shutdown. -/
  | thermalSensorRead (temps : List Int)
  /-- R503: Every 10 µs each quire is compared with the spine and bulk is withheld when out of region. -/
  | regionMonitor (rails : List Nat)
  /-- R519: RESET_N asserted for 1 µs starts a warm reset. -/
  | resetAssert
  /-- R510: RESET_N released with power good starts the boot sequence. -/
  | resetRelease
  /-- R510: The fabric manager restores the fabric and the device reaches SERVICE. -/
  | configurationReady (keys : List (Fin 8192 × Nat)) (routes : List (Fin 4095 × Nat))
  /-- R512: Step 9 not reached within 1 s is a failed boot. -/
  | bootDeadline
  /-- R512: 1 ms after a failed boot the management die applies a warm reset. -/
  | failedBootReset
  /-- R528: The watchdog expires, stopping HB_OUT and leading to a warm reset. -/
  | watchdogExpiry
  /-- R528: Rirath writes 0xD070.04 to restart the watchdog. -/
  | watchdogRefresh (role : Role) (v : Nat)
  /-- R519: Writing 0xD000.01 starts a warm reset. -/
  | warmResetCommand (role : Role) (v : Nat)
  /-- R519: Writing 0xD000.02 turns the converters off for 200 ms and restarts. -/
  | coldResetCommand (role : Role) (v : Nat)
  /-- R515: Writing 0xD030.02 clears the boot-failure count. -/
  | bootCountClear (role : Role) (v : Nat)
  /-- R514: Writing 0xD040.03 enters proof mode with reason 3 at the next reset. -/
  | proofModeRequest (role : Role) (v : Nat)
  /-- R517: A token written to 0xD050.03 is verified against the challenge and the challenge replaced. -/
  | debugToken (role : Role) (sigOk owner : Bool)
  /-- R516: Writing 0x5245_5449 to 0xD050.04 fuses the RETIRED state. -/
  | retire (role : Role) (v : Nat)
  /-- R531: Writing 0xD010.08 fuses the minimum SVN to the running runtime's SVN. -/
  | svnFuse (role : Role) (v : Nat)
  /-- R519: Port link reset mode 0 retrains the port. -/
  | portLinkRetrain (role : Role) (p : Fin 128)
  /-- R519: Port link reset mode 1 sends a hot reset. -/
  | portHotReset (role : Role) (p : Fin 128)
  /-- R519: Port link reset mode 2 pulses PERST for 100 ms. -/
  | portPerstPulse (role : Role) (p : Fin 128)
  /-- R519: Writing 0xD002.03 on a FENCED cluster resets it. -/
  | clusterReset (role : Role) (k : Fin 12) (v : Nat)
  /-- R519: Writing 0xD002.04 halts and resets one engine and squashes its rings. -/
  | engineReset (role : Role) (c : Fin 192) (v : Nat)
  /-- R522: Writing 1 to 0xD060.01 takes a lane group, quire or cluster offline. -/
  | unitOffline (role : Role) (u : RepairUnit)
  /-- R524: Writing 2 to 0xD060.01 returns a unit to service. -/
  | unitReturn (role : Role) (u : RepairUnit)
  /-- R523: The offlining quire owes nothing, express MIDQ is substituted and the domain fences. -/
  | quireDrainComplete (q : Fin 8)
  /-- R523: The drain limit expires and the quire offline is abandoned. -/
  | quireDrainLimit (q : Fin 8)
  /-- R523: 1 ms after fencing the quire is powered down and OFFLINE. -/
  | quirePowerDown (q : Fin 8)
  /-- R525: Writing 1 to 0xD020.02 verifies the staged image and writes it to the idle slot. -/
  | imageInstall (role : Role) (sig : Bool) (vals : List (Nat × Path × Nat)) (err : Option Nat)
  /-- R525: Writing 2 to 0xD020.02 restarts K8–K11 one at a time from the new slot. -/
  | imageRoll (role : Role)
  /-- R525: A cluster not rejoining within 1 s restarts from the old slot and stops the roll. -/
  | rollRejoinTimeout
  /-- R527: In SERVICE HB_OUT pulses high at each heartbeat period multiple. -/
  | heartbeatOut
  /-- R527: A rising edge on HB_IN marks the partner alive. -/
  | hbInEdge
  /-- R527: No HB_IN edge within three periods declares it lost. -/
  | hbInLoss
  /-- R537: Writing 0xC020.03 schedules filter banks and ties to apply, or answers BUSY. -/
  | bankCommit (role : Role) (v : Nat)
  /-- R537: At the commit instant the banks apply on every die with a snapshot. -/
  | bankCommitApply
  /-- R538: Writing 0xC030.01 schedules a global snapshot. -/
  | snapshotTrigger (role : Role) (v : Nat)
  /-- R538: At the snapshot instant every counter is copied to its shadow. -/
  | snapshotTake
  /-- R543: An open trace record reaching the trace timeout closes as timed out. -/
  | traceTimeout (r : Fin 4096)
  /-- R544: Writing the trace read pointer frees records, or is refused. -/
  | traceReadPointerWrite (role : Role) (v : Nat)
  /-- R569: TRST_N or five TMS-high cycles put the TAP in Test-Logic-Reset. -/
  | tapReset
  /-- R570: IDCODE selects the 32-bit identification register. -/
  | idcode
  /-- R571: SAMPLE/PRELOAD captures the boundary register without changing any land. -/
  | samplePreload (v : Nat)
  /-- R572: EXTEST drives and captures lands while RESET_N is held, or loads as BYPASS. -/
  | extest (v : Nat)
  /-- R574: EXTEST_PULSE sends 1149.6 pulses on AC-coupled pairs. -/
  | extestPulse (v : Nat)
  /-- R574: EXTEST_TRAIN sends 1149.6 pulse trains on AC-coupled pairs. -/
  | extestTrain (v : Nat)
  /-- R572: CLAMP holds the lands from the boundary register with bypass selected. -/
  | clamp
  /-- R572: HIGHZ places every output in high impedance with bypass selected. -/
  | highz
  /-- R578: Update-DR of DBG_ACCESS with a non-zero OP starts one debug read or write. -/
  | dbgAccess (w : Nat) (answers : Bool)
  /-- R571: DBG_CHALLENGE shifts out the debug challenge. -/
  | dbgChallenge
  /-- R580: DBG_TOKEN shifts in r and s and writes them as a debug token at Update-DR. -/
  | dbgToken (sigOk owner : Bool)
  /-- R571: A factory-test instruction selects internal scan and trim in MANUFACTURE. -/
  | factoryTest (n : Fin 16)
  /-- R571: BYPASS, or any unlisted code, selects the 1-bit bypass register. -/
  | bypass
  /-- R575: Writing 0xE010.01 starts a memory self-test in an allowed state, or is refused. -/
  | selfTestStart (role : Role) (u : TestUnit) (v : Nat)
  /-- R577: A self-test ends with PASS, REPAIRED or FAIL. -/
  | selfTestComplete (u : TestUnit) (r : Fin 3) (mem : Fin 8) (spares fails addr row : Nat)
  /-- R461: Host software releases DPC on a vPPB, and the contained port or LD returns to service. -/
  | dpcRelease (n : Fin 64) (v : Fin 128)
  /-- R486: The bulk falls below 22 V, the converters turn off, PWRGD is deasserted and every die other than the management die loses power. -/
  | converterUndervoltageLockout (mV : Nat)
  /-- R562: Loss of MGMT_CLK stops MGMT0, MGMT1 and both I3C ports while the datapath runs on. -/
  | mgmtClkLoss
  /-- R361: Setting MSI-X Enable while INTA is asserted sends Deassert_INTA, and pending events are then signalled by MSI-X. -/
  | msixEnableWrite (n : Fin 64) (f : Func) (en mask : Bool)
  /-- R364: At most 100 ms after a VCS hot reset or an upstream link return, the VCS's functions stop answering Configuration Request Retry Status. -/
  | vcsReady (n : Fin 64)
  /-- R259: A capacity block's COLOUR change reports complete once every forme member's checkers use the new value. -/
  | blockColourCommitComplete (b : Fin 65536)
  /-- R137: A PCIe or CXL link partner returns flow-control credits, and the egress staging buffers drain to the link. -/
  | partnerCreditReturn (p : Fin 128) (t : Fin 24) (headers data : Nat)
  /-- R492: The T9512 writes a blinking slot indicator to its SLOTBUS expander at 1.5 Hz. -/
  | indicatorBlink (p : Fin 128)
  /-- R525: A spine cluster restarted from the new slot during a roll rejoins, and the roll moves to the next cluster or finishes by setting the preferred slot. -/
  | rollClusterRejoined
  deriving DecidableEq, Repr

end Sys2Proof
end

