-- ==== Sys2Proof/WellFormed.lean ====
section
/-!
DEFINITION. What the types of the operands do not say: a field of a command is no wider than the manual gives it. A command that is not
well-formed is none that a bus, a link or a register write can spell.
-/
namespace Sys2Proof

/-- A path of at most 8 elements, each of a kind of 15 Table ODX-2, its number of 16 bits (15 R423). -/
def pathWf (p : Path) : Bool :=
  decide (p.length ≤ 8) && p.all fun e => decide (1 ≤ e.1) && decide (e.1 ≤ 44) && decide (e.2 < 2 ^ 16)

/-- A packet: an address of 64 bits, at most 4 KB, data no longer than its length, a PASID of 20 bits, a status of 3 bits. -/
def packetWf (p : Packet) : Bool :=
  decide (p.addr < 2 ^ 64) && decide (p.len ≤ 4096) && decide (p.data < 256 ^ p.len) && decide (p.status < 8)
  && p.pasid.all fun n => decide (n < 2 ^ 20)

def valsWf (l : List (Nat × Path × Nat)) : Bool := l.all fun e => decide (e.1 < 2 ^ 24) && pathWf e.2.1

def extraWf (x : Extra) : Bool := valsWf x.vals && x.flashErr.all fun n => decide (n < 2 ^ 16)

/-- A control block (11 Table LNK-5): 12-bit numbers, windows and returns by class. -/
def ctrlWf (c : CtrlBlock) : Bool :=
  decide (c.ack < 2 ^ 12) && decide (c.start < 2 ^ 12) && c.ret.all (fun e => decide (e.1 < 8)) && c.win.all fun e => decide (e.1 < 8)

/-- A flit (11 Tables LNK-1 and LNK-3): at most two sort slots with their packets. -/
def flitWf (f : Flit) : Bool := decide (f.slots.length ≤ 2) && f.slots.all (fun w => packetWf w.pkt) && ctrlWf f.cb

/-- Markers name at most 16 lanes (10 Table LAN-6). -/
def markersWf (m : Markers) : Bool := decide (m.arrivals.length ≤ 16) && decide (m.inverted.length ≤ 16)

def peerWf (e : Peer) : Bool := decide (e.forme < 2 ^ 64) && decide (e.stepping < 2 ^ 16)

/-- A fault word (16 Table FLT-1). -/
def faultWf (m : FaultMsg) : Bool := decide (m.source < 2 ^ 12) && decide (m.kind < 2 ^ 8) && decide (m.ctx < 2 ^ 42)

def viaWf : Via → Bool
  | .mgmt _ peer => decide (peer < 2 ^ 128)
  | _ => true

/-- An item of a message: the data is no longer than VLEN says (15 Table ODX-7). -/
def itemWf (i : AdsItem) : Bool :=
  pathWf i.path && decide (i.len < 2 ^ 16) && decide (i.data < 256 ^ i.len) && extraWf i.x

def wireWf : WireMsg → Bool
  | .adsum _ _ l => l.all itemWf
  | .finish k _ => decide (k < 2 ^ 384)
  | _ => true

def frameWf (f : AdsFrame) : Bool := decide (f.udp < 2 ^ 16) && decide (f.bytes < 2 ^ 16) && wireWf f.msg

/-- A temperature in °C, of 16 bits. -/
def tempWf (t : Int) : Bool := decide (-2 ^ 15 ≤ t) && decide (t < 2 ^ 15)

/-- The command is well-formed. -/
def Instr.wf : Instr → Bool
  | .registerWrite _ _ _ p v x => pathWf p && decide (Nat.log2 v < 2 ^ 23) && extraWf x
  | .formeRequestForward _ o w _ v => pathWf o.1 && decide (o.2 < 2 ^ 24) && (w.all fun a => decide (a < 256 ^ 1024)) && (v.all fun a => decide (a < 256 ^ 1024))
  | .forwardTimeout _ => true
  | .laneGroupCommit _ _ v => decide (v < 2 ^ 1)
  | .laneGroupChangeApplied _ => true
  | .vcsEnable _ _ v => decide (v < 2 ^ 1)
  | .bind _ _ _ w _ => decide (w < 2 ^ 32)
  | .bindTargetReady _ _ => true
  | .bindPendingTimeout _ _ => true
  | .unbindMode0 _ _ _ => true
  | .unbindMode1 _ _ _ => true
  | .unbindMode2 _ _ _ => true
  | .unbindComplete _ _ => true
  | .unbindWaitExpiry _ _ => true
  | .domainSlotAssign _ _ _ v => decide (v < 2 ^ 16)
  | .domainSlotRemove _ _ _ => true
  | .leavingComplete _ _ => true
  | .formeLossTimeout _ => true
  | .standbyTakeover => true
  | .fmApiIdentify _ => true
  | .fmApiBackgroundOpStatus _ => true
  | .fmApiEventRecords _ => true
  | .fmApiIdentifySwitchDevice _ => true
  | .fmApiGetPhysicalPortState _ _ => true
  | .fmApiPhysicalPortControl _ _ v => decide (v < 2 ^ 32)
  | .fmApiGetVcsInfo _ _ => true
  | .fmApiBindVppb _ _ _ w _ => decide (w < 2 ^ 32)
  | .fmApiUnbindVppb _ _ _ _ => true
  | .fmApiGenerateAerEvent _ _ _ _ p => packetWf p
  | .fmApiGetDcdInfo _ => true
  | .fmApiGetDcRegionConfig _ region => decide (region < 256)
  | .fmApiSetDcRegionConfig _ region vals => decide (region < 256) && (vals.all fun a => decide (a < 2 ^ 64))
  | .fmApiGetDcExtentLists _ _ _ region => decide (region < 256)
  | .fmApiInitiateDcAdd _ _ _ _ _ => true
  | .fmApiInitiateDcRelease _ _ _ _ => true
  | .fmApiTunnel _ _ _ _ => true
  | .fmApiUnsupported _ => true
  | .insertionUnboundPort _ _ => true
  | .insertionBoundPort _ _ => true
  | .attentionButton _ => true
  | .surpriseRemoval _ => true
  | .upstreamLinkDown _ => true
  | .upstreamLinkReturn _ => true
  | .folioLinkDown _ => true
  | .stage1Slot _ => true
  | .stage2Slot _ => true
  | .frameTimerExpiry _ => true
  | .frameSpread _ _ => true
  | .stage2Arrival _ _ => true
  | .collationGapTimeout _ => true
  | .elasticDrift _ _ _ => true
  | .elasticDriftEnd _ _ => true
  | .elasticOverrun _ _ _ => true
  | .ingressPacketReceive _ p => packetWf p
  | .intakeAdmission _ _ => true
  | .expressAdmission _ _ => true
  | .queueFlush _ _ _ v => decide (v < 2 ^ 1)
  | .descriptorCheckTimer _ => true
  | .queueSweepComplete _ => true
  | .creditAudit => true
  | .congestionMapSend _ => true
  | .congestionMapReceive _ _ _ => true
  | .egressGrant _ _ => true
  | .keyingModeWrite _ _ v => decide (v < 2 ^ 8)
  | .keyMapCommit _ _ v => decide (v < 2 ^ 1)
  | .remapApplied _ => true
  | .remapTimeout _ => true
  | .limiterTargetWrite _ _ _ v => decide (v < 2 ^ 32)
  | .wheelSlot _ => true
  | .sampleInstant _ => true
  | .histogramRead _ _ => true
  | .samplingEnableWrite _ _ v => decide (v < 2 ^ 1)
  | .rangeEntryWrite _ _ v => decide (v < 2 ^ 64)
  | .rangeConversionComplete _ => true
  | .homeRequest _ _ => true
  | .homeWrite _ _ => true
  | .birspReceive _ => true
  | .deviceResponseReceive _ => true
  | .ringNodePass _ => true
  | .remoteRingPartReceive _ _ _ p => packetWf p
  | .biTimeout _ => true
  | .slotSweepEnd _ _ => true
  | .releaseIsolation _ _ _ v => decide (v < 2 ^ 1)
  | .suspectCountClear _ _ _ v => decide (v < 2 ^ 8)
  | .homeInspect _ _ a => decide (a < 2 ^ 64)
  | .regionRecallComplete _ => true
  | .walkerVisit _ _ => true
  | .demotionComplete _ => true
  | .backgroundDemotion _ => true
  | .evictionComplete _ => true
  | .sliceOutOfService _ _ v => decide (v < 2 ^ 1)
  | .sliceDrainComplete _ => true
  | .sliceReturn _ _ v => decide (v < 2 ^ 1)
  | .rebuildRegionAnswered _ => true
  | .blockBind _ _ _ _ _ => true
  | .blockRelease _ _ _ _ => true
  | .blockRebind _ _ _ _ _ _ => true
  | .journalRecordDurable _ => true
  | .releaseCapacityResponse _ _ _ => true
  | .releaseTimeout _ => true
  | .transitSettleTimer _ => true
  | .scrubComplete _ => true
  | .scrubAttemptFail _ => true
  | .sanitizeTimeout _ => true
  | .addCapacityResponse _ _ _ => true
  | .poolPresentationEnable _ _ v => decide (v < 2 ^ 1)
  | .plateLock _ _ v => decide (v < 2 ^ 1)
  | .keyTableCommit _ v => decide (v < 2 ^ 16)
  | .keyCommitComplete => true
  | .keyShadowCopyComplete => true
  | .plateBackgroundCheck _ => true
  | .targetRateWrite _ _ v => decide (v < 2 ^ 8)
  | .adaptationManualWrite _ _ v => decide (v < 256 ^ 8)
  | .marginingCommand _ => true
  | .folioPllLock _ => true
  | .folioAlign _ m => markersWf m
  | .folioLockTimeout _ _ _ => true
  | .folioPartnerAligned _ e => peerWf e
  | .folioAlignedTimeout _ => true
  | .folioMarkerFail _ => true
  | .folioRetrainBoundExpiry _ => true
  | .dormantIdleTimeout _ => true
  | .dreqReceive _ => true
  | .dackReceive _ => true
  | .drefReceive _ => true
  | .dcanReceive _ => true
  | .electricalIdleDetect _ => true
  | .dormantAckTimeout _ => true
  | .folioDormantExit _ => true
  | .dormantProbe _ => true
  | .clkreqAssert _ => true
  | .loopbackEnable _ _ v => decide (v < 2 ^ 8)
  | .patternGeneratorEnable _ _ v => decide (v < 2 ^ 8)
  | .patternCheckerEnable _ _ v => decide (v < 2 ^ 8)
  | .eyeScanStart _ _ v => decide (v < 2 ^ 64)
  | .eyeScanComplete _ errors => decide (errors < 2 ^ 64)
  | .folioFlitReceive _ fl => flitWf fl
  | .folioInitReceive _ cb => ctrlWf cb
  | .folioRtrnReceive _ => true
  | .initResendTimer _ => true
  | .controlBlockDue _ => true
  | .replayTimerExpiry _ => true
  | .leakMonitorInterval _ => true
  | .plannedRetrainRequest _ _ v => decide (v < 2 ^ 1)
  | .trackerCompletion _ pk => packetWf pk
  | .trackerTimeout _ => true
  | .accessBlockGet _ _ _ p x => pathWf p && extraWf x
  | .accessBlockSet _ _ _ p len data x => pathWf p && decide (data < 256 ^ len.val) && extraWf x
  | .directObjectRead _ r _ => (match r with
    | .object _ _ p _ => pathWf p
    | _ => true)
  | .bar4Access _ p => packetWf p
  | .impositionWindowOff _ _ v => decide (v < 2 ^ 128)
  | .interruptEvent _ _ _ => true
  | .msixUnmask _ _ v => v.2.all fun e => decide (e.1 < 2 ^ 64) && decide (e.2 < 2 ^ 32)
  | .hostDoorbellRing _ _ => true
  | .configRequest _ _ _ w => (w.all fun a => decide (a < 2 ^ 32))
  | .flrInitiate _ _ => true
  | .flrComplete _ _ => true
  | .bmeClear _ _ => true
  | .bmeSet _ _ => true
  | .powerStateD3hot _ => true
  | .powerStateD0 _ => true
  | .vfEnable _ => true
  | .vfReady _ => true
  | .vfDisable _ => true
  | .slotPowerOn _ _ => true
  | .slotPowerOff _ _ => true
  | .slotIndicatorControl _ _ _ _ => true
  | .vcsHotReset _ _ v => decide (v < 2 ^ 1)
  | .ringAssign _ _ v => decide (v < 2 ^ 32)
  | .doorbellSqTail _ v => decide (v < 2 ^ 64)
  | .doorbellCqHead _ v => decide (v < 2 ^ 64)
  | .ringPause _ => true
  | .ringResume _ => true
  | .ringFlush _ => true
  | .ringClear _ => true
  | .ringDisable _ => true
  | .ringBaseWrite _ _ v => decide (v < 2 ^ 64)
  | .ringEnable _ v => decide (v < 2 ^ 64)
  | .doorbellWriteDiscard _ => true
  | .platenDescriptorFetch _ got => (got.all fun w => decide (w < 2 ^ 512))
  | .platenChunkService _ v _ => (v.1.all fun a => decide (a < 2 ^ 64)) && (v.2.all fun a => decide (a < 2 ^ 64))
  | .platenAccessResponse _ => true
  | .descriptorComplete _ => true
  | .ringSquash _ _ v => decide (v < 2 ^ 1)
  | .ringDrainComplete _ => true
  | .engineLoad _ a _ _ => decide (a < 2 ^ 64)
  | .engineStore _ a size v _ => decide (a < 2 ^ 64) && decide (v < 256 ^ 2 ^ size.val)
  | .engineFence _ => true
  | .engineLr _ a _ _ => decide (a < 2 ^ 64)
  | .engineSc _ a wide v _ => decide (a < 2 ^ 64) && decide (v < 2 ^ (if wide then 64 else 32))
  | .engineAmo _ _ a wide v _ => decide (a < 2 ^ 64) && decide (v < 2 ^ (if wide then 64 else 32))
  | .reservationHoldExpiry a => decide (a < 2 ^ 48)
  | .mergeLineTimeout _ => true
  | .mergeLineResponse _ => true
  | .netTargetTimeout _ => true
  | .netTargetReturn _ _ v => decide (v < 2 ^ 1)
  | .storeFaultClear _ => true
  | .netInterruptMessage _ _ _ => true
  | .interruptClaim _ => true
  | .softwareInterrupt _ v => decide (v < 2 ^ 32)
  | .timerInterrupt _ => true
  | .trayPush _ _ v => decide (v < 2 ^ 64)
  | .trayPop _ _ _ => true
  | .trayFlush _ _ => true
  | .domainDrain _ _ => true
  | .drainForceTimeout _ => true
  | .domainReopen _ _ => true
  | .programLoad _ v _ => decide (v < 2 ^ 32)
  | .programHalt _ _ v => decide (v < 2 ^ 1)
  | .engineRunControl _ _ v => decide (v < 2 ^ 8)
  | .adsumFrameReceive via f => viaWf via && frameWf f
  | .adsumGet => true
  | .adsumSet => true
  | .adsumSnapshot => true
  | .adsumSubscribe => true
  | .adsumUnsubscribe => true
  | .adsumEventSend _ p => pathWf p
  | .pValueDurable => true
  | .spdmGetMeasurements => true
  | .spdmKeyExchange => true
  | .spdmFinish => true
  | .spdmHeartbeat => true
  | .spdmKeyUpdate => true
  | .spdmEndSession => true
  | .sessionIdleTimeout _ => true
  | .sessionEnd _ _ v => decide (v < 2 ^ 1)
  | .i3cDynamicAddress _ _ _ => true
  | .faultRaise m => faultWf m
  | .faultWordAccept => true
  | .faultAckReceive _ => true
  | .vcsRetrainTimer _ => true
  | .logReadPointerWrite _ v => decide (v < 2 ^ 16)
  | .sourceStatusClear _ _ v => decide (v < 2 ^ 64)
  | .alarmIntervalExpiry _ => true
  | .alarmSummaryRead _ => true
  | .stopPressEntry => true
  | .stopPressDiscard => true
  | .stopPressRecordWrite => true
  | .stopPressNoticeReceive _ => true
  | .feedQualified _ mV => decide (mV < 2 ^ 32)
  | .feedDamageTestEnd _ bulk _ => decide (bulk < 2 ^ 32)
  | .prechargeComplete _ bulk => decide (bulk < 2 ^ 32)
  | .prechargeTimeout _ => true
  | .feedOvercurrent _ mA => decide (mA < 2 ^ 32)
  | .feedFaultTimerExpiry _ => true
  | .feedFastTrip _ mA => decide (mA < 2 ^ 32)
  | .feedReverse _ => true
  | .feedReverseClear _ mV => decide (mV < 2 ^ 32)
  | .feedReversePersist _ => true
  | .feedOvervoltage _ mV => decide (mV < 2 ^ 32)
  | .feedFaultClear _ _ v => (v.all fun a => decide (a < 2))
  | .vsbLoss => true
  | .vsbPresent _ => true
  | .pwrgdQualify => true
  | .vinWarnAssert _ mV => decide (mV < 2 ^ 32)
  | .vinWarnDeassert mV => decide (mV < 2 ^ 32)
  | .slotChannelPowerOn _ _ v => decide (v < 2 ^ 1)
  | .slotRampComplete _ => true
  | .slotRampOvercurrent _ mA => decide (mA < 2 ^ 32)
  | .slotRampTimeout _ mA => decide (mA < 2 ^ 32)
  | .slotSteadyTrip _ mA => decide (mA < 2 ^ 32)
  | .slotPerstDelay _ => true
  | .slotCoolDownExpiry _ => true
  | .slotLatchClear _ _ v => decide (v < 2 ^ 1)
  | .slotbusIbi _ _ got => (got.all fun a => decide (a < 256))
  | .slotbusRetry _ _ _ => true
  | .refclkLoss _ => true
  | .refclkRelock _ => true
  | .refclkHoldoverExpiry => true
  | .droopDetect _ mV => decide (mV < 2 ^ 32)
  | .droopClear => true
  | .ptpSyncReceive off => decide (-2 ^ 63 ≤ off) && decide (off < 2 ^ 63)
  | .ptpSyncLoss => true
  | .tsyncInEdge => true
  | .tsyncOutPulse => true
  | .thermalSensorRead temps => temps.all tempWf
  | .regionMonitor rails => (rails.all fun a => decide (a < 2 ^ 32))
  | .resetAssert => true
  | .resetRelease => true
  | .configurationReady keys routes => (keys.all fun e => decide (e.2 < 2 ^ 256)) && (routes.all fun e => decide (e.2 < 2 ^ 32))
  | .bootDeadline => true
  | .failedBootReset => true
  | .watchdogExpiry => true
  | .watchdogRefresh _ v => decide (v < 2 ^ 1)
  | .warmResetCommand _ v => decide (v < 2 ^ 1)
  | .coldResetCommand _ v => decide (v < 2 ^ 1)
  | .bootCountClear _ v => decide (v < 2 ^ 1)
  | .proofModeRequest _ v => decide (v < 2 ^ 1)
  | .debugToken _ _ _ => true
  | .retire _ v => decide (v < 2 ^ 32)
  | .svnFuse _ v => decide (v < 2 ^ 1)
  | .portLinkRetrain _ _ => true
  | .portHotReset _ _ => true
  | .portPerstPulse _ _ => true
  | .clusterReset _ _ v => decide (v < 2 ^ 1)
  | .engineReset _ _ v => decide (v < 2 ^ 1)
  | .unitOffline _ _ => true
  | .unitReturn _ _ => true
  | .quireDrainComplete _ => true
  | .quireDrainLimit _ => true
  | .quirePowerDown _ => true
  | .imageInstall _ _ vals err => valsWf vals && (err.all fun a => decide (a < 2 ^ 16))
  | .imageRoll _ => true
  | .rollRejoinTimeout => true
  | .heartbeatOut => true
  | .hbInEdge => true
  | .hbInLoss => true
  | .bankCommit _ v => decide (v < 2 ^ 1)
  | .bankCommitApply => true
  | .snapshotTrigger _ v => decide (v < 2 ^ 1)
  | .snapshotTake => true
  | .traceTimeout _ => true
  | .traceReadPointerWrite _ v => decide (v < 2 ^ 16)
  | .tapReset => true
  | .idcode => true
  | .samplePreload v => decide (v < 2 ^ 1162)
  | .extest v => decide (v < 2 ^ 1162)
  | .extestPulse v => decide (v < 2 ^ 1162)
  | .extestTrain v => decide (v < 2 ^ 1162)
  | .clamp => true
  | .highz => true
  | .dbgAccess w _ => decide (w < 2 ^ 128)
  | .dbgChallenge => true
  | .dbgToken _ _ => true
  | .factoryTest _ => true
  | .bypass => true
  | .selfTestStart _ _ v => decide (v < 2 ^ 1)
  | .selfTestComplete _ _ _ spares fails addr row => decide (spares < 2 ^ 12) && decide (fails < 2 ^ 12) && decide (addr < 2 ^ 32) && decide (row < 2 ^ 25)
  | .dpcRelease _ _ => true
  | .converterUndervoltageLockout mV => decide (mV < 2 ^ 32)
  | .mgmtClkLoss => true
  | .msixEnableWrite _ _ _ _ => true
  | .vcsReady _ => true
  | .blockColourCommitComplete _ => true
  | .partnerCreditReturn _ _ headers data => decide (headers < 2 ^ 32) && decide (data < 2 ^ 32)
  | .indicatorBlink _ => true
  | .rollClusterRejoined => true

end Sys2Proof
end

