-- ==== Sys2Proof/Decode.lean ====
section
/-!
DEFINITION. The word that spells a command. The table of commands gives no row any bits: the block takes commands, and no word spells
one.
-/
namespace Sys2Proof

/-- The command that a word of the table's bits spells: none, since no row of the table has bits. [DESIGN CHOICE, log 4] -/
def decodeTableWord (_nbits _w : Nat) : Option Instr := none

end Sys2Proof
end

