-- ==== Sys2Proof/Config.lean ====
section
/-!
DEFINITION. What the manual leaves open: constants without a body, so that a claim holds whatever they are.
-/
namespace Sys2Proof.Config

/-- A free value: each use applies it to the next number of `State.freeCtr`. [DESIGN CHOICE, log 8] -/
opaque freeValue : Nat → Nat

/-- The digest that SHA-384 gives for a number of bytes held as a number (FIPS 180-4); a claim holds for any function. [DESIGN CHOICE, log 8] -/
opaque sha384 : Nat → Nat

/-- Check bits that a stored word carries where the manual names no code (09 CHK, 03 HECC, 07 R221). [DESIGN CHOICE, log 8; DESIGN CHOICE, log 12] -/
opaque checkCode : Nat → Nat

/-- The payload of a sort on a link, by its packet and its place in the stream: the TLP and message encodings are those of their standards, which the
manual does not give. [DESIGN CHOICE, log 192] -/
opaque sortPayload : Nat → Nat → Nat

/-- The header of a packet as its standard encodes it, for the header log of AER. [DESIGN CHOICE, log 192] -/
opaque tlpHeader : Packet → Nat

/-- The parity bytes of the three Reed-Solomon codes of a flit: the manual names the field size and no field or generator polynomial. [DESIGN CHOICE, log 192] -/
opaque fecParity : Nat → Nat

/-- The text of 0xC000.02 for an event counter, as a number, lowest byte first: the manual gives no form of it. [DESIGN CHOICE, log 8; DESIGN CHOICE, log 11] -/
opaque eventName : Nat → Nat

/-- The host of an upstream port has back-invalidate channels enabled (08 R232): no object shows it, and nothing says when. [DESIGN CHOICE, log 183] -/
opaque biChannels : Nat → Bool

/-- The coefficients (PRE·64 + POST, taken within 10 R288) of a preset at a rate that Table LAN-4 does not give: at 64 and 128 GT/s the PCI
Express standard defines them (10 R291). [DESIGN CHOICE, log 187] -/
opaque presetCoef : Nat → Nat → Nat

/-- Where the device lays an object's instances, of a first path, in the direct object region (12 R346, R348). [DESIGN CHOICE, log 190] -/
opaque objMapOffset : Nat → Nat → Nat

end Sys2Proof.Config
end

