-- ==== Sys2Proof/Machine/State.lean ====
section
/-!
DEFINITION. The state of the block: plain data, everything the manual gives the machine.
Objects of the dictionary that are plain numbers live in `Store`; what has a structure of its own (queues, trackers,
records, timers) lives in the chapter structures below. `State.reset` is the machine right after reset.
-/
namespace Sys2Proof.Machine

/-- How a management operation is answered (15 Table ODX-8). -/
inductive Status where
  | ok | notFound | notInView | refused | busy | typeLen | formeBusy | auth | resource | notDone | mixed
  /-- No answer yet: a forme-level change that is not recorded (02 R67, R68). -/
  | held
  deriving DecidableEq, Repr

/-- Reasons a step can stop with a fault. None: every condition the manual describes is an effect on the state, and no
command reaches an address or a unit that does not exist (its operands are bounded, or the access is answered). [DEDUCED, log 7] -/
inductive Fault where
  deriving DecidableEq, Repr

/-- Reasons a step is refused. [DEDUCED, log 7] -/
inductive Refusal where
  /-- Raised by `exec` for a command without a meaning yet; safe: the machine stops where the block would go on. -/
  | notModelled (mnemonic : String)
  deriving DecidableEq, Repr

/-- A persistent value that is set but not yet durable (15 R428): the object, the instance, the last durable value, and the bytes it takes. -/
structure PPending where
  code : Nat
  key : Nat
  was : Nat
  bytes : Nat := 0
  deriving DecidableEq, Repr

/-- The object store: object code to instance number to value; the changes each instance has seen (for 15 R434); the
queue of persistent values that the management die holds until they are durable (15 R428). [DESIGN CHOICE, log 9] -/
structure Store where
  objs : Tbl (Tbl Nat) := []
  chg : Tbl (Tbl Nat) := []
  pq : List PPending := []
  deriving DecidableEq, Repr

/-- Clocks: the time, the slot counter of 03 R79, the divider of 17 R494, and the timebase. [DESIGN CHOICE, log 3; DESIGN CHOICE, log 5; DESIGN CHOICE, log 29] -/
structure Clk where
  /-- The time, quarter nanoseconds. -/
  now : Nat := 0
  /-- The slot counter `t` of the stage sheets. -/
  slot : Nat := 0
  /-- When the present slot began. -/
  slotAt : Nat := 0
  /-- The stage whose slot `t` has been served already. -/
  done1 : Bool := false
  done2 : Bool := false
  /-- The timebase in 2^-32 ns. -/
  tb : Nat := 0
  /-- Its increment for each 8 ns tick, and the time of the last tick. -/
  inc : Nat := 8 * 4294967296
  tickAt : Nat := 0
  /-- The last timebase instant at which each periodic action was taken, ns. -/
  inst : Tbl Nat := []
  deriving DecidableEq, Repr

/-- A sort: the fields of 03 Table PLN-1, the packet or message it carries a part of, and the initiator. -/
structure DSort where
  cls : Nat
  srcq : Nat := 0
  midq : Nat := 0
  dstq : Nat := 0
  sport : Nat := 0
  dport : Nat := 0
  dld : Nat := 0
  tc : Nat := 0
  vc : Nat := 0
  seq : Nat := 0
  sop : Bool := true
  eop : Bool := true
  plen : Nat := 112
  poison : Bool := false
  err : Bool := false
  trace : Bool := false
  spbr : Nat := 0xFFF
  dpbr : Nat := 0xFFF
  stamp : Nat := 0
  fidx : Nat := 0
  flen : Nat := 0
  traceid : Nat := 0
  orig : Bool := false
  init : Nat := 0x1FFF
  /-- The sort is addressed to the home logic of its intermediate. -/
  home : Bool := false
  /-- The sort originates at that home logic. -/
  fromHome : Bool := false
  /-- The key-table generation the access was checked under (09 R273). -/
  gen : Nat := 0
  /-- The packet holds a staging reservation at its egress port (05 R137). -/
  resv : Bool := false
  /-- The number of the packet the sort belongs to. -/
  pid : Nat := 0
  /-- The packet was voided (11 R337). -/
  voided : Bool := false
  /-- Its number at the home that forwarded or sent it, 0 where none did; the home itself sent the request (06 R161). -/
  hid : Nat := 0
  hown : Bool := false
  /-- An answer on its way to a unit of its egress quire: the unit's origin code and the number of the request (01 R19, 06 R161). -/
  unit : Option (Nat × Nat) := none
  pkt : Packet
  deriving DecidableEq, Repr

/-- A sort in a launch queue: the frame it belongs to (03 R87) and the sort. -/
structure LEnt where
  fid : Nat
  x : DSort
  deriving DecidableEq, Repr

/-- An open frame: its sorts, oldest first, and when the first joined. -/
structure Frame where
  since : Nat := 0
  sorts : List DSort := []
  deriving DecidableEq, Repr

/-- A sort with a time: of arrival, or from which it is ready. -/
structure TSort where
  at_ : Nat
  x : DSort
  deriving DecidableEq, Repr

/-- An elastic buffer (03 Table PLN-4): occupancy, whether drifted or failed, and since when it has stood in 2-6. -/
structure Crossing where
  occ : Nat := 4
  drifted : Bool := false
  failed : Bool := false
  since : Nat := 0
  deriving DecidableEq, Repr

/-- The stage sheets (03). Keys: a stream is `streamKey`, a pair (i, e) is 8·i + e. [DESIGN CHOICE, log 29] -/
structure Stage where
  seq : Tbl Nat := []
  frames : Tbl Frame := []
  closed : Tbl (List (List DSort)) := []
  /-- The time after a frame was last spread for a pair (R586). -/
  spreadAt : Tbl Nat := []
  rot : Tbl Nat := []
  expQ : Tbl (List DSort) := []
  /-- Express sorts the block originated that wait for their class credit before they enter a launch queue (04 R124). -/
  expWait : Tbl (List DSort) := []
  bulkQ : Tbl (List LEnt) := []
  nextFid : Nat := 0
  rrBulk : Tbl Nat := []
  rrPort : Tbl Nat := []
  guard : Tbl Nat := []
  altMgt : Tbl Bool := []
  toEgress : Tbl (List TSort) := []
  toHome : Tbl (List TSort) := []
  /-- Answers that have reached an originating unit (Platen, Imposition, engine). -/
  toUnit : List TSort := []
  /-- A sort of the packet under way to a unit was poisoned; key stream. -/
  unitBad : Tbl Bool := []
  coll : Tbl (List TSort) := []
  expect : Tbl Nat := []
  highest : Tbl Nat := []
  resync : Tbl Bool := []
  cross : Tbl Crossing := []
  deriving DecidableEq, Repr

/-- A sort in a Galley queue: its buffer address, and when its write and read let it go on. -/
structure GEnt where
  buf : Nat
  ready : Nat
  x : DSort
  deriving DecidableEq, Repr

/-- The number of a packet: its stream and its number in the device. -/
abbrev PktId := Nat × Nat

/-- How a request that cannot be carried out is completed. -/
inductive FailKind where
  | completerAbort | unsupported
  deriving DecidableEq, Repr

/-- A Galley queue (04 Table GAL-2). Both copies of the pointers follow the list; `ptr` holds the bits of the copies that have
changed since, 0 for none (R115, R116). [DESIGN CHOICE, log 13] -/
structure Queue where
  ents : List GEnt := []
  ptr : Nat := 0
  gen : Nat := 0
  bp : Bool := false
  /-- A flush asked for: how it completes requests, and the pushes that it waits for (04 R113). -/
  flush : Option (FailKind × List PktId) := none
  /-- The rest of flushed packets is being discarded. -/
  flushing : Bool := false
  undr : Bool := false
  /-- The last entry popped (04 R112). -/
  last : Option DSort := none
  /-- When the present head became the head (05 R150). -/
  headAt : Nat := 0
  /-- The packets being pushed: entries of them still arrive (04 R113). -/
  pushing : List PktId := []
  /-- The packet being popped. -/
  popping : Option PktId := none
  /-- Packets whose rest is discarded on arrival (04 R113, R117). -/
  drop : List PktId := []
  deriving DecidableEq, Repr

/-- What a queue reset leaves to its sweep (04 R117): the queue, its old generation and the sorts of its list. -/
structure Swept where
  queue : QRef
  gen : Nat
  ents : List GEnt
  deriving DecidableEq, Repr

/-- A packet in an intake, routed and checked: where it goes and under what class. -/
structure Routed where
  pkt : Packet
  sport : Nat
  dport : Nat
  dld : Nat
  cls : Nat
  midq : Nat
  home : Bool
  init : Nat
  spbr : Nat := 0xFFF
  dpbr : Nat := 0xFFF
  stamp : Nat := 0
  /-- The packet has asked for admission before (19 "candidate"). -/
  asked : Bool := false
  trace : Option Nat := none
  /-- The key-table generation the access was checked under (09 R272), and the address checked. -/
  gen : Nat := 0
  chk : Option Nat := none
  /-- Its place in the order of arrival at its port (04 R126). -/
  ord : Nat := 0
  hid : Nat := 0
  hown : Bool := false
  unit : Option (Nat × Nat) := none
  deriving DecidableEq, Repr

/-- A congestion map (04 Table GAL-4). [DEDUCED, log 33] -/
structure CMap where
  mseq : Nat := 0
  /-- The egress queues of the sender's ports with BP set, as 256·j + q. -/
  eqbp : List Nat := []
  /-- The device ports with a stage bit set. -/
  sqbp : List Nat := []
  /-- Cumulative charge returns for each device ingress port, mod 4,096. -/
  ret : Tbl Nat := []
  /-- Received counts of the audit, key 4·s + c. -/
  audit : Option (Tbl Nat) := none
  deriving DecidableEq, Repr

/-- What a quire holds of one sender's maps: the newest good map, and whether its bits hold. [DEDUCED, log 33] -/
structure MapIn where
  map : CMap := {}
  good : Bool := true
  next : Nat := 0
  ret : Tbl Nat := []
  deriving DecidableEq, Repr

/-- The Galley (04). Keys: class credits (i, m, c) as (8·i + m)·4 + c; maps (receiver, sender) as 8·r + s. -/
structure Galley where
  queues : Tbl Queue := []
  swept : List Swept := []
  intake : Tbl (List Routed) := []
  /-- Packets the block originates that wait for admission, oldest first (03 R585, 04 R123, R125); key quire. -/
  orig : Tbl (List DSort) := []
  credit : Tbl Nat := []
  launched : Tbl Nat := []
  received : Tbl Nat := []
  restored : Tbl Nat := []
  recent : Tbl (List Nat) := []
  snap : Tbl Nat := []
  latched : Tbl (Option (Tbl Nat)) := []
  origUsed : Tbl Nat := []
  retCum : Tbl Nat := []
  mseq : Tbl Nat := []
  /-- The last map each quire sent. -/
  sent : Tbl (Option CMap) := []
  /-- The next arrival number of an intake. -/
  nextOrd : Nat := 0
  maps : Tbl (List CMap) := []
  mapIn : Tbl MapIn := []
  /-- The banks of each slice accessed at a time (R106). -/
  banks : Tbl (List Nat) := []
  banksAt : Tbl Nat := []
  deriving DecidableEq, Repr

/-- An entry of a timing wheel: the limiter's target and its eligible time in 1/256 ns. -/
structure WEnt where
  target : Nat
  time : Nat
  deriving DecidableEq, Repr

/-- A held remap of a port's keys (05 R140): the new mode and map, and the deadline. -/
structure Remap where
  mode : Nat
  map : Tbl Nat
  until_ : Nat
  deriving DecidableEq, Repr

/-- Egress scheduling (05). -/
structure Egress where
  tier : Tbl Nat := []
  active : Tbl (List Nat) := []
  visiting : Tbl (Option Nat) := []
  /-- Staging buffers (05 R137): the first sorts of the staged packets of a VC, oldest first; key port·4 + VC. -/
  staging : Tbl (List DSort) := []
  /-- Headers and bytes reserved or held in staging; key port·32 + VC·3 + credit type. -/
  resH : Tbl Nat := []
  resB : Tbl Nat := []
  /-- Partner credits: headers or messages, and data credits of 16 bytes; key port·32 + VC·3 + credit type, or + 12 +
  CXL channel. -/
  credH : Tbl Nat := []
  credB : Tbl Nat := []
  remap : Tbl (Option Remap) := []
  tat : Tbl Nat := []
  near : Tbl (List WEnt) := []
  far : Tbl (List WEnt) := []
  wslot : Tbl Nat := []
  /-- The queue whose granted packet a Folio port has sent in part (05 R135). -/
  rest : Tbl (Option QRef) := []
  deriving DecidableEq, Repr

/-- A fault word on its way or held (16 R446): source, kind, context, the time it was raised, and MISSED. -/
structure FWord where
  source : Nat
  kind : Nat
  ctx : Nat
  time : Nat
  missed : Nat := 0
  deriving DecidableEq, Repr

/-- A source's side of the fault path (16 R446). -/
structure FSource where
  outstanding : Bool := false
  waiting : Option FWord := none
  missed : Nat := 0
  deriving DecidableEq, Repr

/-- A trace record (19 Table CNT-5). -/
structure TraceRec where
  t0 : Nat := 0
  sport : Nat := 0
  dport : Nat := 0
  cls : Nat := 0
  tc : Nat := 0
  bytes : Nat := 0
  endc : Nat := 0
  origdev : Nat := 0
  origid : Nat := 0
  cont : Bool := false
  init : Nat := 0x1FFF
  addr : Nat := 0
  /-- A request's record closes at stamp 0xE, a posted packet's at 0xB (19 R543). -/
  posted : Bool := false
  open_ : Bool := true
  stamps : List Nat := []
  /-- Its slot is marked empty in the valid map (19 R545). -/
  gone : Bool := false
  deriving DecidableEq, Repr

/-- A slot of a Folio flit: the sort it carries, whether it is still valid, and VOID (11 Table LNK-4). -/
structure FSlot where
  x : DSort
  valid : Bool := true
  void : Bool := false
  deriving DecidableEq, Repr

/-- A held sequenced flit (11 R321): its sorts and whether it carries a control block. -/
structure Held where
  slots : List FSlot
  cb : Bool := false
  deriving DecidableEq, Repr

/-- The Folio link layer of a port (11). `e` is the expected count; the held flits are the newest counts below `s`. -/
structure Folio where
  s : Nat := 0
  e : Nat := 0
  held : List Held := []
  /-- A good INIT has been received in this entry to ACTIVE. -/
  inited : Bool := false
  /-- A bad flit has been seen: sequenced flits are discarded until an RSTART (R320). -/
  bad : Bool := false
  incoming : Nat := 0
  nakSent : Bool := false
  misses : Nat := 0
  replayAt : Nat := 0
  credit : Tbl Nat := []
  placed : Tbl Nat := []
  taken : Tbl Nat := []
  owed : Tbl Nat := []
  minDiff : Tbl (Option Nat) := []
  monitorAt : Nat := 0
  /-- A control block is due by this time, 0 when none is (R323). -/
  cbDue : Nat := 0
  initAt : Nat := 0
  /-- Sorts of each class in the Folio intake. -/
  occ : Tbl Nat := []
  /-- Sorts of packets whose last sort has not arrived, and whether VOID was seen in the packet; key class. -/
  part : Tbl (List DSort) := []
  voidSeen : Tbl Bool := []
  /-- The link was taken down by a count fault: S and E are 0 at the next bring-up (R328). -/
  fresh : Bool := false
  deriving DecidableEq, Repr

/-- A transaction tracker entry (11 R336): the request's first sort and when its timer expires. -/
structure Track where
  id : Nat
  x : DSort
  until_ : Nat
  deriving DecidableEq, Repr

/-- The link layer. -/
structure Link where
  folio : Tbl Folio := []
  track : Tbl (List Track) := []
  nextId : Nat := 0
  /-- The address after 0 that a tag names at a port (03 R91); key: kind (0 BISnp, 1 H2D request, 2 D2H request), port and tag. -/
  named : Tbl Nat := []
  deriving DecidableEq, Repr

/-- A capacity block (08 Table POL-1) with the colour its checkers apply (09 R259), the deadline of its present step, and
what the step still waits for. -/
structure Block where
  base : Nat
  range : Nat
  owner : Nat := 0xFFF
  next : Nat := 0xFFF
  colour : Nat
  state : Nat := 0
  kind : Nat := 0
  nkind : Nat := 0
  step : Nat := 0
  scrubm : Nat := 0
  forced : Bool := false
  fails : Nat := 0
  opid : Nat := 0
  /-- The colour the checkers use until the change reports complete. -/
  applied : Nat
  /-- The journal record that announces this step is not durable yet (08 R240). -/
  waitRec : Bool := false
  /-- The colour change of the present step has reported complete, and when. -/
  colourDone : Option Nat := none
  until_ : Nat := 0
  /-- The home refuses new requests to the block (08 R232). -/
  fenced : Bool := false
  /-- An operation runs; it was commanded. -/
  run : Bool := false
  cmd : Bool := false
  /-- The owner when the operation began, and the DPA slot reserved (08 Table POL-4). -/
  owner0 : Nat := 0xFFF
  slot : Option Nat := none
  /-- Whose answer step 1 waits for, as a mask: VCSs, or slots of the owning domain. -/
  ask : Nat := 0
  /-- When its scrub began to write. -/
  scrubAt : Option Nat := none
  /-- Step 2 snoops the whole block (08 R243). -/
  whole : Bool := false
  /-- Checkers that use the new colour while a change is under way, and the members, as a mask, whose checkers do not yet (09 R259). -/
  seen : List Nat := []
  behind : Nat := 0
  deriving DecidableEq, Repr

/-- A journal record (08 Table POL-4): its sequence, block and step, the record it is of, the colour step 5 commits, the time,
and whether its writing has begun (08 R245). -/
structure JRec where
  seq : Nat
  block : Nat
  step : Nat
  rec_ : Block
  colour : Nat
  time : Nat
  begun : Bool := true
  deriving DecidableEq, Repr

/-- Pooled memory beside the block records (08): the last sequence requested, records not yet durable, the last durable record
of each block, the blocks to scrub in command order, the operation identifiers, steps held back while VIN_WARN_N is asserted. -/
structure Pool where
  seq : Nat := 0
  wait : List JRec := []
  last : Tbl (Option JRec) := []
  scrubs : List Nat := []
  opid : Nat := 0
  held : List (Nat × Nat) := []
  deriving DecidableEq, Repr

/-- The host's view (12). A function is 1,024·VCS + its number: 0 the management function, 1-256 its VFs, 512 the upstream
bridge, 513 the management bridge, 514 + m vPPB m. A vPPB is 128·VCS + m. -/
structure HostView where
  /-- Configuration registers that hold what was written: function·64 + register. -/
  cfg : Tbl Nat := []
  /-- DPC on a vPPB: trigger enable, completion control (1 Unsupported Request) and trigger status. -/
  dpcEn : Tbl Bool := []
  dpcCc : Tbl Bool := []
  dpcOn : Tbl Bool := []
  /-- AER uncorrectable status and header log of a function. -/
  aer : Tbl Nat := []
  aerHdr : Tbl (Option Packet) := []
  /-- MSI-X: table entries (function·2,048 + vector; 128 bits, the mask in bit 96, set at reset), pending bits, and events
  whose source the host has not cleared. -/
  msix : Tbl Nat := []
  pba : Tbl Bool := []
  events : Tbl Bool := []
  intx : Tbl Bool := []
  /-- Functions that answer Configuration Request Retry Status until the time given. -/
  crs : Tbl (Option Nat) := []
  /-- Access blocks: VCS·16 + block. -/
  abCtl : Tbl Nat := []
  abPath : Tbl Path := []
  abData : Tbl Nat := []
  /-- FLRs under way: the function and its deadline. -/
  flr : Tbl (Option Nat) := []
  /-- VFs whose enable is under way: the VCS and the deadline. -/
  vfWait : Tbl (Option Nat) := []
  /-- Host doorbells that wait for their engine's stores (R359): engine, VCS. -/
  bells : List (Nat × Nat) := []
  deriving DecidableEq, Repr

/-- A port's lanes and bring-up (10): when its state began and ends, the retrain or exit it is in (start and bound), the
Dormant handshake, and what has been logged in this attempt. -/
structure LaneLink where
  since : Nat := 0
  until_ : Nat := 0
  /-- A retrain or Dormant exit under way: its start, and the latest end (R301). -/
  bound : Option (Nat × Nat) := none
  degraded : Bool := false
  mismatch : Bool := false
  noLockAt : Option Nat := none
  /-- The link has been down since then; none while it is up. -/
  downSince : Option Nat := none
  /-- The two ends belong to one forme (02 R64). -/
  joined : Bool := false
  dreq : Bool := false
  dackUntil : Option Nat := none
  /-- The last flit other than idle. -/
  lastAt : Nat := 0
  /-- The port has been told to train (02 R36) and its link has not come up since. -/
  training : Bool := false
  /-- The link runs in flit mode (R282); the lanes it has trained with, of which L0p may leave some idle (R303). -/
  flit : Bool := false
  trained : Nat := 0
  /-- When the last alignment marker was sent, and how many were (R296). -/
  markAt : Nat := 0
  marks : Nat := 0
  deriving DecidableEq, Repr

/-- The lanes (10): ports, the coefficients in effect at a lane (PRE·64 + POST), manual equaliser values, eye scans under way
(the lane's dwell in bits). -/
structure Lanes where
  ports : Tbl LaneLink := []
  coef : Tbl Nat := []
  manual : Tbl Nat := []
  scan : Tbl (Option Nat) := []
  /-- Committed lane-group words that have not taken effect (02 R34, R36), by group. -/
  commits : Tbl (Option Nat) := []
  deriving DecidableEq, Repr

/-- Who waits for the answer to a forme-level change: the sender of a command, of an FM API command, or of a SET in a session or an access
block. -/
inductive ChangeFor where
  | command
  | fm (via : FmVia)
  | item
  deriving DecidableEq, Repr

/-- A forme-level change the lead has accepted and not acknowledged (02 R67, R68): it waits for the standby's record, or, carried out already
in a forme without a standby, for its own persistent value to be durable. -/
structure FPend where
  id : Nat
  c : FChange
  who : ChangeFor
  done : Bool := false
  deriving DecidableEq, Repr

/-- The forme (02): the member a Folio port leads to, members that are not lead-eligible, the time a lead was declared lost,
and members declared lost. -/
structure Forme where
  peer : Tbl (Option Nat) := []
  notElig : Tbl Bool := []
  leadLost : Option Nat := none
  /-- Deadlines of BIND_PENDING and UNBIND_PENDING (02 Table FAB-3), by VCS·128 + vPPB; those of an unbind of mode 2 end at once. -/
  bindAt : Tbl (Option Nat) := []
  /-- The last background operation (02 R75): whether it is an unbind, its vPPB, and 0 running, 1 done, 2 failed. -/
  bgOp : Option (Bool × Nat × Nat) := none
  /-- Forme-level changes are refused: the forme has no lead, or this part holds no majority (R68, R72). -/
  noAuthority : Bool := false
  /-- The identities of the other members, and their Folio links: the member a link leads to, and its port. -/
  ident : Tbl Nat := []
  links : Tbl (List (Nat × Nat)) := []
  /-- Targets here that are bound to vPPBs of other members: port·32, + 16 + LD for an LD, to the member, its VCS and vPPB (R42, R60). -/
  bound : Tbl (Option (Nat × Nat × Nat)) := []
  /-- The PBR IDs and states of VCSs of other members: 64·position + VCS. -/
  vcsIds : Tbl Nat := []
  vcsState : Tbl Nat := []
  /-- The targets of the route entries: member, port, LD (R61). -/
  targets : Tbl (Option (Nat × Nat × Nat)) := []
  /-- Changes the lead has not acknowledged, and the next number; the standby's record (R67). -/
  waits : List FPend := []
  nextChange : Nat := 0
  record : List (Nat × FChange) := []
  /-- Capacity events of other members that hosts here have not answered: member, block, VCS, event (08 R231, R234). -/
  asked : List (Nat × Nat × Nat × Nat) := []
  /-- Messages that a flit brought, with their senders; empty between commands. -/
  inbox : List (Nat × FMsg) := []
  deriving DecidableEq, Repr

/-- A region entry of a directory slice (07 Table DIR-1). `busy`: 0, or it is being recalled 1, evicted 2 or demoted 3. -/
structure DirReg where
  sharers : Nat := 0
  tag : Nat := 0
  state : Nat := 0
  valid : Bool := false
  prom : Bool := false
  block : Nat := 0
  hits : Nat := 0
  quiet : Nat := 0
  ref : Bool := false
  busy : Nat := 0
  deriving DecidableEq, Repr

/-- A line entry (07 Table DIR-2). -/
structure DirLine where
  sharers : Nat := 0
  state : Nat := 0
  touch : Bool := false
  last : Nat := 0
  deriving DecidableEq, Repr

/-- A request or an applied write that waits for a region entry (07 R207, R594): its line, since when, and for a write the
state, holders and slot to record. -/
structure EntWait where
  line : Nat
  since : Nat
  result : Option (Nat × Nat × Nat) := none
  /-- The entry whose eviction runs for it. -/
  evicting : Option Nat := none
  deriving DecidableEq, Repr

/-- The directory slices (07). Keys: a region entry q·2^18 + set·16 + way, a line entry q·2^20 + its index, a block
q·2^14 + its number, a set q·2^14 + the set. -/
structure Dir where
  reg : Tbl DirReg := []
  line : Tbl DirLine := []
  /-- The block owner table: the region entry that owns a block. -/
  owner : Tbl (Option Nat) := []
  wait : Tbl (List EntWait) := []
  /-- The walker: the next entry, and when its pass began. -/
  walk : Tbl Nat := []
  passAt : Tbl Nat := []
  /-- Background demotion runs (07 R210). -/
  bg : Tbl Bool := []
  /-- The region held by the rebuild sweep, when the rebuild began, and when each range entry became directory-served. -/
  rebuild : Tbl (Option Nat) := []
  rebuildAt : Tbl Nat := []
  since : Tbl Nat := []
  deriving DecidableEq, Repr

/-- A snoop that is not answered: the slot, the address, when its timer expires (06 R185). -/
structure SnoopWait where
  slot : Nat
  addr : Nat
  until_ : Nat
  deriving DecidableEq, Repr

/-- What the home snoops for. -/
inductive SnoopFor where
  /-- The transaction that holds a line in T. -/
  | line (l : Nat)
  /-- A region recall: the region entry takes the state and holders (07 R202); its mask is the requester, which is not snooped. -/
  | recallOf (k st held : Nat)
  /-- The eviction of a region entry (R208). -/
  | evict (k : Nat)
  /-- The demotion of a region entry, and the lines whose owners it snoops (R205). -/
  | demote (k : Nat) (lines : List Nat)
  /-- The lines of a failed entry (R215). -/
  | failed
  /-- The conversion of a range (06 R159). -/
  | convert (rg : Nat)
  /-- The rebuild sweep's region (07 R219). -/
  | rebuild
  /-- A slot in LEAVING, at one region entry (02 R55). -/
  | leave (d slot k : Nat)
  /-- Step 2 of a capacity block's operation, or the invalidations of its scrub (08 R232, R237): the addresses of the regions recalled. -/
  | pool (b : Nat) (regions : List Nat)
  deriving DecidableEq, Repr

/-- A snoop operation of a home quire: its 256-byte blocks or its line, of which `next` are issued, and the answers that it
waits for. `wide`: the blocks are those of the range from `base` whose home is this quire. `todo`: the slots and addresses of its unicast
snoops that are not issued yet, after the `sent` that are. -/
structure SnoopOp where
  id : Nat
  dom : Nat
  msg : MsgOp
  why : SnoopFor
  base : Nat
  count : Nat
  next : Nat := 0
  wide : Bool := false
  mask : Nat
  waits : List SnoopWait := []
  todo : List (Nat × Nat) := []
  sent : Nat := 0
  deriving DecidableEq, Repr

/-- A message on the snoop ring (06 R175): opcode, address, tag, home member and quire, domain and slot mask. -/
structure RMsg where
  op : MsgOp
  addr : Nat
  tag : Nat
  member : Nat
  hq : Nat
  dom : Nat
  mask : Nat
  deriving DecidableEq, Repr

/-- A request at its home: the sort, its domain slot (none for an internal one), BIConflicts answered after it. -/
structure HReq where
  x : DSort
  slot : Option Nat := none
  acks : List DSort := []
  deriving DecidableEq, Repr

/-- A line with requests at its home: the wait list, whose head holds the line in T once `begun` (06 R179); the state and
vector at that time and those that follow, and what the transaction waits for. -/
structure HLine where
  q : Nat := 0
  dom : Nat := 0
  reqs : List HReq := []
  begun : Bool := false
  dir : Bool := false
  want : Meta := .i
  st : Nat := 0
  held : Nat := 0
  next : Nat := 0
  nextHeld : Nat := 0
  hid : Nat := 0
  sent : Bool := false
  data : Option DSort := none
  wb : Option Packet := none
  op : Option Nat := none
  poison : Bool := false
  /-- A member answered other than BIRspI, or wrote back (06 R173). -/
  shared : Bool := false
  /-- The head was looked up, and its region is recalled for it (07 R202). -/
  looked : Bool := false
  /-- The head waits for a region entry. -/
  waitEnt : Bool := false
  deriving DecidableEq, Repr

/-- A line in the write buffer (06 R169, R170): its number at the home, the write, and whether it has left for the port; the slot that
wrote, none for a poison write, and the BIConflicts answered after its Cmp. [DEDUCED, log 50] -/
structure WBuf where
  hid : Nat
  line : Nat
  x : DSort
  sent : Bool := false
  slot : Option Nat := none
  acks : List DSort := []
  deriving DecidableEq, Repr

/-- A slot sweep under way (06 R189). -/
structure SlotSweep where
  dom : Nat
  slot : Nat
  since : Nat
  deriving DecidableEq, Repr

/-- The home logic (06). Keys: a line its address / 64, a quire its number, a slot 64·domain + slot. [DEDUCED, log 58] -/
structure Home where
  lines : Tbl HLine := []
  ops : Tbl (List SnoopOp) := []
  wbuf : Tbl (List WBuf) := []
  /-- Lines that wait to be written with the poison bit set (06 R185). -/
  toPoison : Tbl (List Nat) := []
  /-- Lines, with 64·domain + slot, at which a snoop timed out: a writeback of the slot is late (06 R187). -/
  lateW : List (Nat × Nat) := []
  nextId : Nat := 1
  ring : Tbl (Option RMsg) := []
  /-- The instant after a ring position's last pass, ns. -/
  ringAt : Tbl Nat := []
  /-- Mask parts of other members that wait for injection. -/
  parts : Tbl (List RMsg) := []
  sweeps : List SlotSweep := []
  /-- The member word of a slot in LEAVING. -/
  leaving : Tbl Nat := []
  /-- When a timeout last raised a slot's suspect count. -/
  raised : Tbl (Option Nat) := []
  /-- MemSpecRd discarded (06 R167). -/
  spec : Tbl Nat := []
  /-- The range entry that a converting range takes at its end; range entries whose conversion into homed mode a reset has turned into
  the rebuild sweep (06 R592). -/
  conv : Tbl (Option Nat) := []
  reconv : List Nat := []
  /-- Lines whose head may begin; empty between commands. -/
  kick : List Nat := []
  deriving DecidableEq, Repr

/-- A store that an engine has retired (14): its address, bytes and data, and its region type (0 Normal, 1 Uncached, 2 Strict). -/
structure EStore where
  addr : Nat
  len : Nat
  data : Nat
  ty : Nat := 0
  deriving DecidableEq, Repr

/-- An engine's access that is not performed yet: what it is, whether its target answers, and whether it has gone out to the target,
and when, so that it waits for the target's timer. -/
structure EReq where
  acc : EAcc
  answered : Bool := true
  out : Option Nat := none
  /-- It is at the Imposition path. -/
  imp : Bool := false
  deriving DecidableEq, Repr

/-- An engine (14): its store buffer, the access or fence it waits for, its reservation (the granule) and the granule at which its
last SC failed, its machine CSRs, and its interrupt block (pending and enabled vectors as masks). [DESIGN CHOICE, log 100] -/
structure Engine where
  sb : List EStore := []
  wait : Option EReq := none
  resv : Option Nat := none
  failed : Option Nat := none
  mcause : Nat := 0
  mtval : Nat := 0
  sfaddr : Nat := 0
  sfinfo : Nat := 0
  pend : Nat := 0
  enab : Nat := 0
  msip : Bool := false
  mtimecmp : Nat := 0
  /-- Its local memory is undetermined (14 R417). -/
  undet : Bool := false
  /-- Local bytes written since it became undetermined. -/
  known : Tbl Bool := []
  /-- A halt takes effect once its pending stores have drained (14 R419). -/
  halting : Bool := false
  deriving DecidableEq, Repr

/-- A line of a cluster's merge buffer: its 64-byte line, the bytes stored by offset, the engines whose stores it holds, when it
opened, whether it is closed, its network target, when it was issued, and, for an Uncached or Strict store, that store. A line to
the aperture names its accesses at the Imposition path and the failure found when it was issued. -/
structure MLine where
  line : Nat
  bytes : Tbl (Option Nat) := []
  engs : List Nat
  since : Nat
  closed : Bool := false
  target : Nat
  issued : Option Nat := none
  own : Option EStore := none
  imps : List Nat := []
  fail : Option Nat := none
  deriving DecidableEq, Repr

/-- A tray (14 R402): its entries, and its control word, which the manual gives no reset value: 0, as of the other registers of the cluster. [DESIGN CHOICE, log 178] -/
structure Tray where
  ents : List Nat := []
  bp : Bool := false
  undr : Bool := false
  ovr : Bool := false
  flush : Bool := false
  ctl : Nat := 0
  /-- The last entry popped (04 R112). -/
  last : Nat := 0
  deriving DecidableEq, Repr

/-- The holds on a granule (14 R411): the engine that holds it and when its hold began, those that wait, and Platen writes
that wait: address, bytes, data, packet number. -/
structure GranHold where
  eng : Option Nat
  since : Nat
  next : List Nat := []
  writes : List (Nat × Nat × Nat × Nat) := []
  deriving DecidableEq, Repr

/-- An access of a descriptor or of an Imposition window that is not complete: its packet, the bytes of the operand it covers,
whether it is of DST, whether it writes, posted writes' egress port, and the bytes that a read has got. -/
structure PAcc where
  pid : Nat
  off : Nat
  len : Nat
  dst : Bool := false
  write : Bool := false
  posted : Bool := false
  dport : Nat := 0
  got : Nat := 0
  deriving DecidableEq, Repr

/-- Who waits for an access that the Imposition path translated (12 R353, 14 R400): a host by its request and its upstream port, an
engine's load, or a merge line of a cluster, which takes the result when its response comes. -/
inductive ImpWho where
  | host (p : Packet) (port : Nat)
  | load (c : Nat)
  | line (k : Nat)
  | debug
  deriving DecidableEq, Repr

/-- An access under translation: its window, its bytes, answers that are still to come and posted writes to be seen sent, the data read
so far, the completion status of its first failure, and poison. -/
structure ImpWait where
  window : Nat
  who : ImpWho
  addr : Nat
  len : Nat
  write : Bool
  parts : List PAcc := []
  sent : List PAcc := []
  data : Nat := 0
  status : Nat := 0
  poison : Bool := false
  deriving DecidableEq, Repr

/-- Compositors and the on-chip network (14). Keys: engines, clusters, trays 32·k + n, granules, domains (0-7 quires, 8 + k
clusters), accesses through windows by packet number. -/
structure Net where
  eng : Tbl Engine := []
  merge : Tbl (List MLine) := []
  tray : Tbl Tray := []
  holds : Tbl (Option GranHold) := []
  drainAt : Tbl (Option Nat) := []
  imp : Tbl (Option ImpWait) := []
  nextPid : Nat := 0
  deriving DecidableEq, Repr

/-- A descriptor in execution: the word, its SQ index, the bytes whose accesses are issued, the accesses under way, the posted
writes to be seen sent, the first failure (status, lowest byte not done), data read and not yet used (offset, bytes, data) of
each operand, the CRC so far, the first difference, and where the owner's bridges decode V operands. -/
structure PExec where
  word : Nat
  idx : Nat
  next : Nat := 0
  accs : List PAcc := []
  sent : List PAcc := []
  fail : Option (Nat × Nat) := none
  src : List (Nat × Nat × Nat) := []
  dst : List (Nat × Nat × Nat) := []
  crc : Nat := 0
  crcAt : Nat := 0
  miss : Option Nat := none
  vs : Option Nat := none
  vd : Option Nat := none
  deriving DecidableEq, Repr

/-- A ring (13): Table PLT-4's state and bits, what its owner wrote, the four indices and the phase, the descriptors fetched (word,
SQ index) and in execution, whether it holds a FIFO, an assignment that waits for its drain, and the accesses of a squash. -/
structure Ring where
  state : Nat := 0
  prev : Nat := 1
  bp : Bool := false
  undr : Bool := false
  badidx : Bool := false
  cfgerr : Bool := false
  memerr : Bool := false
  sqBase : Nat := 0
  cqBase : Nat := 0
  cfg : Nat := 0
  sqHead : Nat := 0
  sqTail : Nat := 0
  cqHead : Nat := 0
  cqTail : Nat := 0
  phase : Bool := true
  fifo : List (Nat × Nat) := []
  run : List PExec := []
  hasFifo : Bool := false
  disabling : Bool := false
  assign : Option Nat := none
  squashAt : Nat := 0
  left : List PAcc := []
  deriving DecidableEq, Repr

/-- The Platen units (13): rings, rings that wait for a FIFO in each quire, the ring a unit served last, and its chunks since one
of PRIO 0; when the reset began that left an initiator's last residue (R393). -/
structure Plat where
  ring : Tbl Ring := []
  wait : Tbl (List Nat) := []
  served : Tbl Nat := []
  fetched : Tbl Nat := []
  guard : Tbl Nat := []
  residue : Tbl (Option Nat) := []
  deriving DecidableEq, Repr

/-- A slot channel (17 R488, R489): when its state began, and when its output reached 10.8 V. -/
structure Chan where
  since : Nat := 0
  goodAt : Option Nat := none
  deriving DecidableEq, Repr

/-- Slot channels and sideband buses (17): channels; each port's output group (PERST#, attention and power indicator) and input group
(PRSNT#, ATNBTN#, CLKREQ#, active low); an expander's failed transfers in a row, and since when it is not answering (bus·128 +
address). -/
structure Slots where
  chan : Tbl Chan := []
  outs : Tbl Nat := []
  ins : Tbl Nat := []
  fails : Tbl Nat := []
  bad : Tbl (Option Nat) := []
  /-- When a port's blinking indicators last changed. -/
  blinkAt : Tbl Nat := []
  deriving DecidableEq, Repr

/-- The Proofreader (16) and the quires under repair: acknowledgements on their way, per source the time of its last alarm and the word
an interval holds back, whether words were dropped since the last log write, VCSs held in electrical idle until a time, and the entry
to stop-press: the reason, its word, its time (the clock and the timebase), whether step 5 is done. -/
structure Proof where
  acks : List Nat := []
  alarmAt : Tbl (Option Nat) := []
  /-- The VCSs of the words that qualified in a source's interval. -/
  held : Tbl (Option (List Nat)) := []
  gap : Bool := false
  retrain : Tbl (Option Nat) := []
  spReason : Nat := 0
  spWord : Nat := 0
  spAt : Nat := 0
  spTb : Nat := 0
  spDone : Bool := false
  deriving DecidableEq, Repr

/-- A feed path (17 R474-R479): when its present state began; its fault timer's reading at a time, whether the path limits its current,
and the highest current seen; whether it was off for overvoltage. -/
structure Feed where
  since : Nat := 0
  acc : Nat := 0
  accAt : Nat := 0
  limiting : Bool := false
  peak : Nat := 0
  overV : Bool := false
  deriving DecidableEq, Repr

/-- Power entry, clocks and thermal (17): the feed paths; VSB; the slew straps as sampled; when the converters were enabled; the reset
cause to record when power is next good; whether a droop asks for /3 and when one was last logged; THERM_N; a thermal shutdown under way and
since when the converters are off for it; since when a quire is back within its limits; references lost, the one in use, since when the PLL holds
over; the last Sync, since when the offset is small, and whether the timebase has stepped since the reset; MGMT_CLK lost. [DESIGN CHOICE, log 3] -/
structure Power where
  feed : Tbl Feed := []
  vsb : Bool := true
  straps : Nat := 0
  conv : Option Nat := none
  cause : Nat := 0
  droop : Bool := false
  droopAt : Option Nat := none
  therm : Bool := false
  hot : Bool := false
  offAt : Option Nat := none
  near : Tbl (Option Nat) := []
  refLost : Nat := 0
  ref : Nat := 0
  holdAt : Nat := 0
  syncAt : Option Nat := none
  lockAt : Option Nat := none
  stepped : Bool := false
  mgmtLost : Bool := false
  deriving DecidableEq, Repr

/-- What a chip select of the boot flash holds (18 Table BOT-1): the images; the journal, the checkpoints and the persistent store are the durable
values of their chapters. -/
structure FlashSlot where
  loader : Option Image := none
  runtime : Option Image := none
  config : Option Image := none
  deriving DecidableEq, Repr

/-- Boot, resets and live repair (18): RESET_N; when the present boot began, none while none runs; a failed boot's time and cause; the slot that ran
in the last failed boot; a valid debug token, and a request for proof mode, that wait for a reset; the last watchdog refresh and HB_IN edge; the
roll: its cluster, slot and the time of the restart; a quire's phase (0 none, 1 draining, 2 substituted, 3 returning) and its start; until
when services move between spine clusters; the flash; what runs; the measurements. [DESIGN CHOICE, log 3] -/
structure Boot where
  resetN : Bool := true
  startAt : Option Nat := none
  failed : Option (Nat × Nat) := none
  lastSlot : Nat := 0
  unlock : Bool := false
  proofNext : Bool := false
  /-- The reason of the proof mode that lasts until R515 ends it, 0 none; whether an assertion of RESET_N ends it. -/
  proof : Nat := 0
  proofFree : Bool := false
  wdAt : Nat := 0
  hbAt : Option Nat := none
  roll : Option (Nat × Nat × Nat) := none
  phase : Tbl Nat := []
  phaseAt : Tbl Nat := []
  moveUntil : Nat := 0
  flash : Tbl FlashSlot := []
  running : Option Image := none
  meas : Tbl Nat := []
  deriving DecidableEq, Repr

/-- Counters (19): the instant of a pending bank commit, the instants of snapshots asked for, and the shadow words without SNAPSEQ. -/
structure Counts where
  commitAt : Option Nat := none
  snaps : List Nat := []
  shadow : Tbl Nat := []
  deriving DecidableEq, Repr

/-- Test and debug (21): the boundary register, the debug access register and the access through the aperture it waits for, and when each
self-test began (by the instance's number). -/
structure Tap where
  bound : Nat := 0
  dbg : Nat := 0
  dbgImp : Option (Nat × Time) := none
  tests : Tbl (Option Nat) := []
  deriving DecidableEq, Repr

/-- An answered item (15 Table ODX-7): its value is `len` bytes from byte `off` on. -/
structure AdsAns where
  idx : Nat
  sub : Nat
  path : Path
  st : Status
  ty : Nat := 0
  off : Nat := 0
  len : Nat := 0
  val : Nat := 0
  aux : Nat := 0
  deriving DecidableEq, Repr

/-- A RESPONSE (0x10) or an EVENT (0x20) (15 Table ODX-6). -/
structure AdsResp where
  mtype : Nat := 0x10
  st : Status := .ok
  rid : Nat
  time : Nat
  items : List AdsAns := []
  deriving DecidableEq, Repr

/-- A segmented SET that is held aside (15 R427): the object, the instance, and the segments (offset, bytes, data). -/
structure Seg where
  code : Nat
  key : Nat
  parts : List (Nat × Nat × Nat)
  deriving DecidableEq, Repr

/-- A session (15 R440-R442): whether it is set up or still in its handshake; where its newest valid record came from; its role and the
role-table entry; the requests executed; the last valid record and the last request; the key generation; the highest sequence number and
those seen of the last 64; the responses of its last 64 requests, oldest first; the events sent, and when those of the last second were;
the held segments. -/
structure Sess where
  ready : Bool := false
  via : Via
  role : Nat := 0
  rk : Nat := 0
  count : Nat := 0
  recAt : Nat
  reqAt : Nat
  keys : Nat := 0
  high : Option Nat := none
  seen : List Nat := []
  answered : List (Nat × AdsResp) := []
  evSeq : Nat := 0
  evAt : List Nat := []
  segs : List Seg := []
  deriving DecidableEq, Repr

/-- A message that a frame brought and that is not executed yet (15 R433). -/
structure InMsg where
  via : Via
  ses : Option Nat := none
  msg : WireMsg
  deriving DecidableEq, Repr

/-- What a subscription knows of an instance: the value last sent and the changes it had seen then, and when that was sent. -/
structure SubInst where
  val : Nat := 0
  chg : Nat := 0
  at_ : Option Nat := none
  deriving DecidableEq, Repr

/-- A subscription (15 R434): its session, object, path, minimum interval in µs, and its instances. -/
structure Sub where
  ses : Nat
  code : Nat
  path : Path
  wild : Bool
  every : Nat
  insts : Tbl SubInst := []
  deriving DecidableEq, Repr

/-- An answer that waits for Imposition windows to drain (12 R355) or for forme-level changes (02 R67): a session's response, or an engine's access block. -/
structure Defer where
  ses : Option Nat
  eng : Nat := 0
  resp : AdsResp
  wins : List Nat
  /-- Forme-level changes that items wait for: the change and the item. -/
  changes : List (Nat × Nat) := []
  deriving DecidableEq, Repr

/-- The management links (15): sessions, messages not yet executed, subscriptions, answers that wait, and the windows turned off in a message
or by an engine. -/
structure Ads where
  sess : Tbl (Option Sess) := []
  inbox : List InMsg := []
  subs : Tbl (Option Sub) := []
  defer : List Defer := []
  late : List Nat := []
  deriving DecidableEq, Repr

/-- Everything the block sends or shows: newest last in `State.out`. [DESIGN CHOICE, log 15; DESIGN CHOICE, log 186] -/
inductive Output where
  /-- The answer to a management operation. -/
  | answer (st : Status) (v : Option Nat)
  /-- A packet or message sent to the link partner of a port. -/
  | link (port : Nat) (p : Packet)
  /-- A TLP ended as nullified at a port (04 R588). -/
  | nullified (port : Nat)
  /-- An on-chip interrupt message to a cluster (04 R110). -/
  | clusterIrq (k : Nat) (what : Nat)
  /-- A fault acknowledgement (16 R447). -/
  | faultAck (source : Nat)
  /-- A Folio flit: its type (11 Table LNK-3), header credits, sorts and control block, and its 2,048 bits (Table LNK-1). -/
  | flit (port ty crcls crcnt : Nat) (slots : List FSlot) (cb : Option CtrlBlock) (word : Nat)
  /-- Alignment markers inserted on the lanes of a Folio port since the last flit or change of state: how many on each lane, and the
  last of each lane, lane 0 first (10 Table LAN-6). -/
  | markers (port n : Nat) (words : List Nat)
  /-- Flow-control credits returned to the partner of a port: type as for its partner credits, headers, data credits. -/
  | credit (port ty headers data : Nat)
  /-- A dynamic capacity event to a VCS (08 Table POL-2): 0 Release Capacity, 1 Forced Capacity Release, 2 Add Capacity; the block
  and its DPA slot. -/
  | capacity (vcs what block : Nat) (slot : Option Nat)
  /-- What an engine's access or claim returns to it; a store and a fence return none. -/
  | engine (c : Nat) (v : Option Nat)
  /-- An engine takes a trap: mcause and mtval. -/
  | trap (c cause tval : Nat)
  /-- An interrupt message or isolation notice on the on-chip network: what it is, and its number. -/
  | notice (what n : Nat)
  /-- The hot-plug interrupt of a vPPB. -/
  | hotplug (vcs vppb : Nat)
  /-- A reset sent below a port: 0 hot reset, 1 LD reset, 2 PERST asserted, 3 PERST deasserted. -/
  | reset (kind port ld : Nat)
  /-- A change that Adsum tells of though no object changes: the object, the instance (15 R434). -/
  | event (code key : Nat)
  /-- The output group written to a port's SLOTBUS expander (17 R491): bit 0 PERST#, 1 attention indicator, 2 power indicator. -/
  | slotbus (port v : Nat)
  /-- A slot channel's gate is driven on or off. -/
  | gate (ch : Nat) (on : Bool)
  /-- The completion of a configuration request: 0 successful, 1 Unsupported Request, 2 Configuration Request Retry Status. -/
  | config (fn st v : Nat)
  /-- A request is forwarded over Folio to a member, with the role of the session that sent it (15 R424). -/
  | forward (dev : Nat) (role : Role) (op : AdsOp) (it : AdsItem)
  /-- An FM API command is forwarded over Folio to the lead: position, opcode. -/
  | fmForward (dev opcode : Nat)
  /-- The fabric manager tells another member of the forme something over Folio. -/
  | forme (dev : Nat) (m : FMsg)
  /-- Viral is signalled on a link (16 R465). -/
  | viral (port : Nat)
  /-- A stop-press notice goes out on a Folio link (16 R467). -/
  | stopNotice (port : Nat)
  /-- A pulse on a sideband output: 0 HB_OUT, 1 TSYNC_OUT; its start on the timebase and its width, ns. -/
  | pulse (pin at_ width : Nat)
  /-- What the test access port shifts out at Capture: the data register's value and its length. -/
  | tdo (v len : Nat)
  /-- 1149.6 edges on the AC-coupled transmit pairs: a pulse, or a train. -/
  | acTest (train : Bool)
  /-- An Adsum RESPONSE or EVENT in a session, and the port and address it goes out on. -/
  | adsum (ses : Nat) (via : Via) (r : AdsResp)
  /-- An SPDM answer: 0 an error, 1 busy, 2 measurements, 3 KEY_EXCHANGE_RSP, 4 FINISH_RSP, 5 HEARTBEAT_ACK, 6 KEY_UPDATE_ACK, 7
  END_SESSION_ACK; the session, and the six measurements. -/
  | spdm (via : Via) (what : Nat) (ses : Option Nat) (v : List Nat)
  /-- The answer to an FM API command: 0 success, 1 background operation started, 2 Unsupported, 3 busy, 4 invalid input; 5 the forme has no
  lead; what it returns. -/
  | fm (via : FmVia) (code : Nat) (v : List Nat)
  /-- An FM API command tunnelled to the device of a port. -/
  | tunnel (port opcode data : Nat)
  deriving DecidableEq, Repr

/-- Frisket (09): the checkers that use the new bank while a commit is under way (R271), and the copies of the COLOUR of other members' blocks,
by the block's base (R259). -/
structure Frisk where
  changed : List Nat := []
  copies : Tbl (Option Nat) := []
  deriving DecidableEq, Repr

/-- The whole state of the block. [DESIGN CHOICE, log 1] -/
structure State where
  /-- The objects of the dictionary that are plain numbers (15). -/
  store : Store := {}
  /-- Time, the slot counter and the timebase (01, 03, 17). -/
  clk : Clk := {}
  /-- The stage sheets (03). -/
  stg : Stage := {}
  /-- The Galley (04). -/
  gal : Galley := {}
  /-- Egress scheduling (05). -/
  egr : Egress := {}
  /-- The sources of fault words, by source number (16 R446). -/
  fsrc : Tbl FSource := []
  /-- Fault words on their way to the Proofreader, oldest first (16 R446). -/
  fnet : List FWord := []
  /-- The event counters, by number: the 48-bit value, and INVALID above it (19). -/
  counts : Tbl Nat := []
  /-- The trace records (19 R542-R545), by slot. -/
  trc : Tbl TraceRec := []
  /-- The link layer (11). -/
  lnk : Link := {}
  /-- The tagging LFSR of each quire (19 R541), at its default seed. -/
  lfsr : Tbl Nat := []
  /-- The capacity-block records (08), by number. -/
  blocks : Tbl (Option Block) := []
  /-- What a host sees (12). -/
  host : HostView := {}
  /-- The lanes and the bring-up of links (10). -/
  lane : Lanes := {}
  /-- The forme and the bindings under way (02). -/
  forme : Forme := {}
  /-- The home logic (06). -/
  home : Home := {}
  /-- The directory slices (07). -/
  dir : Dir := {}
  /-- Pooled memory (08). -/
  pool : Pool := {}
  /-- Frisket's changes under way (09). -/
  frisk : Frisk := {}
  /-- The PBR ID a VCS holds (02 R59), 0xFFF none. -/
  vcsPbr : Tbl Nat := []
  /-- The device at a downstream port. -/
  devs : Tbl DevInfo := []
  /-- The engines and the on-chip network (14). -/
  net : Net := {}
  /-- The Platen units (13). -/
  plat : Plat := {}
  /-- Slot power and slot buses (17). -/
  slots : Slots := {}
  /-- The Proofreader (16). -/
  prf : Proof := {}
  /-- Power entry, clocks and thermal (17). -/
  pwr : Power := {}
  /-- Boot, resets and live repair (18). -/
  boot : Boot := {}
  /-- Banks and snapshots of the counters (19). -/
  cnt : Counts := {}
  /-- Test and debug (21). -/
  tap : Tap := {}
  /-- The management links (15). -/
  ads : Ads := {}
  /-- The bytes of the internal space (14 Table CMP-2) that are not 0, by address. -/
  mem : List Host.Cell := []
  /-- What the block has sent or shown, oldest first. -/
  out : List Output := []
  /-- The model's own: the number the next free value is drawn at. -/
  freeCtr : Nat := 0
  /-- The commands that wait, first in, first out. -/
  pending : List Instr := []
  deriving DecidableEq, Repr

/-- The machine right after reset: every field at the value its default names. [DESIGN CHOICE, log 3] -/
def State.reset : State := {}

end Sys2Proof.Machine
end

