-- ==== Sys2Proof/Machine/Objects.lean ====
section
/-!
DEFINITION. The object dictionary (15 R421-R426): one descriptor per object of the chapters' object tables, with its
instances, type, access, persistence, kind (01 R583), default, range, and the bits a write can set.
-/
namespace Sys2Proof.Machine

/-- Data types (15 Table ODX-3). -/
inductive Ty where
  | u8 | u16 | u32 | u64 | i32 | bool | bits32 | enum8 | str | blob | time64
  deriving DecidableEq, Repr

/-- Access codes (00 R5). -/
inductive Acc where
  | ro | rw | wo | rc | w1c | rwl | boot
  deriving DecidableEq, Repr

/-- Persistence: volatile, sticky over a warm reset, or persistent (00 R8, 15 R428). -/
inductive Pers where
  | v | s | p
  deriving DecidableEq, Repr

/-- What an object answers at an enclosing unit (01 R583). -/
inductive ObjKind where
  | none | counter | capacity | status | sticky | config | maximum
  deriving DecidableEq, Repr

/-- An object of the dictionary. `inst` lists the element forms a path may take: (kind, lowest, highest number). -/
structure Obj where
  idx : Nat
  sub : Nat
  ty : Ty
  acc : Acc
  pers : Pers
  kind : ObjKind
  inst : List (List (Nat × Nat × Nat))
  dflt : Nat
  lo : Nat
  hi : Nat
  extra : List Nat
  mask : Nat
  deriving DecidableEq, Repr

/-- The number an object is known by inside the model: index and sub-index. -/
def Obj.code (o : Obj) : Nat := o.idx * 256 + o.sub

/-- The number of an instance path. -/
def pathKey : Path → Nat
  | [] => 0
  | e :: r => pathKey r * 16777216 + (e.1 + 1) * 65536 + e.2

/-- A path element: the element kinds of 15 Table ODX-2. -/
def pQ (n : Nat) : Nat × Nat := (2, n)
def pG (n : Nat) : Nat × Nat := (3, n)
def pL (n : Nat) : Nat × Nat := (4, n)
def pP (n : Nat) : Nat × Nat := (5, n)
def pVCS (n : Nat) : Nat × Nat := (6, n)
def pV (n : Nat) : Nat × Nat := (7, n)
def pK (n : Nat) : Nat × Nat := (8, n)
def pC (n : Nat) : Nat × Nat := (9, n)
def pSP (n : Nat) : Nat × Nat := (10, n)
def pDOM (n : Nat) : Nat × Nat := (11, n)
def pS (n : Nat) : Nat × Nat := (12, n)
def pRG (n : Nat) : Nat × Nat := (13, n)
def pCB (n : Nat) : Nat × Nat := (14, n)
def pPBR (n : Nat) : Nat × Nat := (15, n)
def pEQ (n : Nat) : Nat × Nat := (16, n)
def pRL (n : Nat) : Nat × Nat := (17, n)
def pKEY (n : Nat) : Nat × Nat := (18, n)
def pM (n : Nat) : Nat × Nat := (19, n)
def pIW (n : Nat) : Nat × Nat := (20, n)
def pRI (n : Nat) : Nat × Nat := (21, n)
def pPU (n : Nat) : Nat × Nat := (22, n)
def pIN (n : Nat) : Nat × Nat := (23, n)
def pPX (n : Nat) : Nat × Nat := (24, n)
def pPL (n : Nat) : Nat × Nat := (25, n)
def pSPACE (n : Nat) : Nat × Nat := (26, n)
def pCLS (n : Nat) : Nat × Nat := (27, n)
def pNT (n : Nat) : Nat × Nat := (28, n)
def pOK (n : Nat) : Nat × Nat := (29, n)
def pRT (n : Nat) : Nat × Nat := (30, n)
def pF (n : Nat) : Nat × Nat := (31, n)
def pSPINE : Nat × Nat := (32, 0)
def pFS (n : Nat) : Nat × Nat := (33, n)
def pLG (n : Nat) : Nat × Nat := (34, n)
def pCT (n : Nat) : Nat × Nat := (35, n)
def pFB (n : Nat) : Nat × Nat := (36, n)
def pTR (n : Nat) : Nat × Nat := (37, n)
def pMGMT (n : Nat) : Nat × Nat := (38, n)
def pI3C (n : Nat) : Nat × Nat := (39, n)
def pSES (n : Nat) : Nat × Nat := (40, n)
def pRK (n : Nat) : Nat × Nat := (41, n)
def pFEED (n : Nat) : Nat × Nat := (42, n)
def pDIR : Nat × Nat := (43, 0)
def pHOME : Nat × Nat := (44, 0)

/-- The number of the element of a kind in a path, 0 where the path holds none. -/
def pathNum (k : Nat) : Path → Nat
  | [] => 0
  | e :: r => if e.1 = k then e.2 else pathNum k r

/-- 0x2010.01, BITS32 RW P: Lane-group configuration word, shadow (Table FAB-1) (R78) [DESIGN CHOICE, log 10] -/
def o2010_01 : Obj := ⟨0x2010, 0x01, .bits32, .rw, .p, .config, [[(3, 0, 31)]], 0, 0, 0xffffffff, [], 0xf8f8f8f8⟩

/-- 0x2010.02, BITS32 RO V: Lane-group configuration in effect (R78) -/
def o2010_02 : Obj := ⟨0x2010, 0x02, .bits32, .ro, .v, .config, [[(3, 0, 31)]], 0, 0, 0xffffffff, [], 0xffffffff⟩

/-- 0x2011.00, BOOL WO V: Commit shadow to effect (R78) -/
def o2011_00 : Obj := ⟨0x2011, 0x00, .bool, .wo, .v, .none, [[(3, 0, 31)]], 0, 0, 1, [], 1⟩

/-- 0x2020.01, ENUM8 RO V: Role in effect: 0 disabled, 1 upstream, 2 downstream, 3 Folio (R78) -/
def o2020_01 : Obj := ⟨0x2020, 0x01, .enum8, .ro, .v, .config, [[(5, 0, 127)]], 0, 0, 255, [], 255⟩

/-- 0x2020.02, ENUM8 RO V: Link state: 0 down, 1 training, 2 up (R78) -/
def o2020_02 : Obj := ⟨0x2020, 0x02, .enum8, .ro, .v, .status, [[(5, 0, 127)]], 0, 0, 255, [], 255⟩

/-- 0x2020.03, ENUM8 RO V: Presence: 0 empty, 1 present, 2 present and FM-owned (R78) -/
def o2020_03 : Obj := ⟨0x2020, 0x03, .enum8, .ro, .v, .status, [[(5, 0, 127)]], 0, 0, 255, [], 255⟩

/-- 0x4100.01, U8 RW P: Upstream port; 0xFF means none (R78) -/
def o4100_01 : Obj := ⟨0x4100, 0x01, .u8, .rw, .p, .config, [[(6, 0, 63)]], 255, 0, 127, [255], 255⟩

/-- 0x4100.02, BOOL RW P: VCS enable (R78) -/
def o4100_02 : Obj := ⟨0x4100, 0x02, .bool, .rw, .p, .config, [[(6, 0, 63)]], 0, 0, 1, [], 1⟩

/-- 0x4100.03, U8 RW P: vPPB count, 1–128 (R78) -/
def o4100_03 : Obj := ⟨0x4100, 0x03, .u8, .rw, .p, .config, [[(6, 0, 63)]], 1, 1, 128, [], 255⟩

/-- 0x4100.04, BOOL RW P: Management owner: FM API mailbox accepted (R78) -/
def o4100_04 : Obj := ⟨0x4100, 0x04, .bool, .rw, .p, .config, [[(6, 0, 63)]], 0, 0, 1, [], 1⟩

/-- 0x4100.05, ENUM8 RO V: 0 disabled, 1 host-absent, 2 active (R78) -/
def o4100_05 : Obj := ⟨0x4100, 0x05, .enum8, .ro, .v, .status, [[(6, 0, 63)]], 0, 0, 255, [], 255⟩

/-- 0x4110.01, U32 RO P: Binding record (Table FAB-2) (R78) -/
def o4110_01 : Obj := ⟨0x4110, 0x01, .u32, .ro, .p, .none, [[(6, 0, 63), (7, 0, 127)]], 0, 0, 0xffffffff, [], 0xffffffff⟩

/-- 0x4110.02, U32 WO V: Bind target, in binding-record layout with STATE ignored (R78) -/
def o4110_02 : Obj := ⟨0x4110, 0x02, .u32, .wo, .v, .none, [[(6, 0, 63), (7, 0, 127)]], 0, 0, 0xffffffff, [], 0xffffffff⟩

/-- 0x4110.03, U32 RW P: Unbind wait, ms, 1,000–600,000 (R78) -/
def o4110_03 : Obj := ⟨0x4110, 0x03, .u32, .rw, .p, .config, [[(6, 0, 63), (7, 0, 127)]], 0x7530, 1000, 0x927c0, [], 0xffffffff⟩

/-- 0x4110.04, ENUM8 WO V: Unbind with mode 0, 1 or 2 (R78) -/
def o4110_04 : Obj := ⟨0x4110, 0x04, .enum8, .wo, .v, .none, [[(6, 0, 63), (7, 0, 127)]], 0, 0, 255, [], 255⟩

/-- 0x4110.05, U16 RO V: PBR ID of the binding (R78) -/
def o4110_05 : Obj := ⟨0x4110, 0x05, .u16, .ro, .v, .none, [[(6, 0, 63), (7, 0, 127)]], 4095, 0, 0xffff, [], 0xffff⟩

/-- 0x4180.01, U32 RO V: Route entry (Table FAB-5) (R78) -/
def o4180_01 : Obj := ⟨0x4180, 0x01, .u32, .ro, .v, .none, [[(15, 0, 4094)]], 0, 0, 0xffffffff, [], 0xffffffff⟩

/-- 0x4200.01, U8 RW P: Forme position, 0–15, or 0xFF standalone (R78) -/
def o4200_01 : Obj := ⟨0x4200, 0x01, .u8, .rw, .p, .config, [[]], 255, 0, 15, [255], 255⟩

/-- 0x4200.02, U32 RW P: Forme identifier (R78) -/
def o4200_02 : Obj := ⟨0x4200, 0x02, .u32, .rw, .p, .config, [[]], 0, 0, 0xffffffff, [], 0xffffffff⟩

/-- 0x4200.03, BOOL RW P: Lead-eligible (R78) -/
def o4200_03 : Obj := ⟨0x4200, 0x03, .bool, .rw, .p, .config, [[]], 1, 0, 1, [], 1⟩

/-- 0x4200.04, U8 RW P: Provisioned member count, 1–16 (R78) -/
def o4200_04 : Obj := ⟨0x4200, 0x04, .u8, .rw, .p, .config, [[]], 1, 1, 16, [], 255⟩

/-- 0x4200.05, U32 RW P: Forme loss timeout, ms, 1–1,000 (R78) -/
def o4200_05 : Obj := ⟨0x4200, 0x05, .u32, .rw, .p, .config, [[]], 10, 1, 1000, [], 0xffffffff⟩

/-- 0x4200.06, BOOL RW V: Withdraw Folio port from the forme (R78) -/
def o4200_06 : Obj := ⟨0x4200, 0x06, .bool, .rw, .v, .config, [[(5, 0, 127)]], 0, 0, 1, [], 1⟩

/-- 0x4200.07, U8 RO V: Current lead position (R78) -/
def o4200_07 : Obj := ⟨0x4200, 0x07, .u8, .ro, .v, .none, [[]], 255, 0, 255, [], 255⟩

/-- 0x4200.08, U16 RO V: Members joined, one bit per position (R78) -/
def o4200_08 : Obj := ⟨0x4200, 0x08, .u16, .ro, .v, .none, [[]], 0, 0, 0xffff, [], 0xffff⟩

/-- 0x4200.09, U8 RO V: Current standby position; 0xFF none (R68) (R78) -/
def o4200_09 : Obj := ⟨0x4200, 0x09, .u8, .ro, .v, .none, [[]], 255, 0, 255, [], 255⟩

/-- 0x5010.01, U16 RW P: Member: [11:8] device position, [5:0] VCS; 0xFFFF free (R78) -/
def o5010_01 : Obj := ⟨0x5010, 0x01, .u16, .rw, .p, .config, [[(11, 0, 15), (12, 0, 63)]], 0xffff, 0, 0xffff, [], 0xffff⟩

/-- 0x5010.02, ENUM8 RO V: Slot state: 0 FREE, 1 MEMBER, 2 LEAVING (R78) -/
def o5010_02 : Obj := ⟨0x5010, 0x02, .enum8, .ro, .v, .status, [[(11, 0, 15), (12, 0, 63)]], 0, 0, 255, [], 255⟩

/-- 0x4020.01, U32 RW P: Frame timer, ns, 8–1,000 (R105) -/
def o4020_01 : Obj := ⟨0x4020, 0x01, .u32, .rw, .p, .config, [[(2, 0, 7)]], 64, 8, 1000, [], 0xffffffff⟩

/-- 0x4020.02, BITS32 RO V: Rotation pointers r(0)–r(7), 3 bits each from bit 0 up; [31:24] Reserved (R105) -/
def o4020_02 : Obj := ⟨0x4020, 0x02, .bits32, .ro, .v, .none, [[(2, 0, 7)]], 0, 0, 0xffffffff, [], 0xffffffff⟩

/-- 0x4022.01, U8 RO V: Collation window credits held toward each egress quire, read per egress quire under instance Qi/Qe (R105) -/
def o4022_01 : Obj := ⟨0x4022, 0x01, .u8, .ro, .v, .capacity, [[(2, 0, 7), (2, 0, 7)]], 64, 0, 255, [], 255⟩

/-- 0x4022.02, U32 RW P: Collation gap timeout, µs, 4–1,000 (R105) -/
def o4022_02 : Obj := ⟨0x4022, 0x02, .u32, .rw, .p, .config, [[(2, 0, 7)]], 10, 4, 1000, [], 0xffffffff⟩

/-- 0x4022.03, U32 RC V: Collation gap events since last read (R105) -/
def o4022_03 : Obj := ⟨0x4022, 0x03, .u32, .rc, .v, .counter, [[(2, 0, 7)]], 0, 0, 0xffffffff, [], 0xffffffff⟩

/-- 0x4022.04, U16 RO V: Sorts held in the collation buffer now (R105) -/
def o4022_04 : Obj := ⟨0x4022, 0x04, .u16, .ro, .v, .capacity, [[(2, 0, 7)]], 0, 0, 0xffff, [], 0xffff⟩

/-- 0x4024.01, BITS32 RO V: Occupancy of the 10 crossings toward the spine, 3 bits each, stage-1 sheets in [14:0], stage-2 in [29:15] (R105) -/
def o4024_01 : Obj := ⟨0x4024, 0x01, .bits32, .ro, .v, .none, [[(2, 0, 7)]], 0, 0, 0xffffffff, [], 0xffffffff⟩

/-- 0x4024.02, BITS32 RO V: Occupancy of the 10 crossings from the spine, laid out as 0x4024.01 (R105) -/
def o4024_02 : Obj := ⟨0x4024, 0x02, .bits32, .ro, .v, .none, [[(2, 0, 7)]], 0, 0, 0xffffffff, [], 0xffffffff⟩

/-- 0x4024.03, BITS32 W1C S: Drift seen, one bit per crossing: [9:0] toward the spine, [19:10] from the spine (R105) -/
def o4024_03 : Obj := ⟨0x4024, 0x03, .bits32, .w1c, .s, .sticky, [[(2, 0, 7)]], 0, 0, 0xffffffff, [], 0xffffffff⟩

/-- 0x4030.01, BLOB RO V: Stage queue descriptor; class is RSP, DAT, SNP, REQ, BLK or MGT, and RSP, DAT, SNP or REQ for a HOME queue (R587) (R132) -/
def o4030_01 : Obj := ⟨0x4030, 0x01, .blob, .ro, .v, .none, [[(2, 0, 7), (5, 0, 127), (27, 0, 5)], [(2, 0, 7), (44, 0, 0), (27, 0, 3)]], 0, 0, 0xffffffffffffffffffffffffffffffff, [], 0xffffffffffffffffffffffffffffffff⟩

/-- 0x4030.02, U16 RW P: Stage queue HIGH, sorts, 1–4,096 (R132) -/
def o4030_02 : Obj := ⟨0x4030, 0x02, .u16, .rw, .p, .config, [[(2, 0, 7), (5, 0, 127), (27, 0, 5)], [(2, 0, 7), (44, 0, 0), (27, 0, 3)]], 512, 1, 4096, [], 0xffff⟩

/-- 0x4030.03, U16 RW P: Stage queue LOW, sorts, 0 to HIGH − 1 (R132) -/
def o4030_03 : Obj := ⟨0x4030, 0x03, .u16, .rw, .p, .config, [[(2, 0, 7), (5, 0, 127), (27, 0, 5)], [(2, 0, 7), (44, 0, 0), (27, 0, 3)]], 256, 0, 4095, [], 0xffff⟩

/-- 0x4030.04, BOOL RW P: Stage queue interrupt enable (R132) -/
def o4030_04 : Obj := ⟨0x4030, 0x04, .bool, .rw, .p, .config, [[(2, 0, 7), (5, 0, 127), (27, 0, 5)], [(2, 0, 7), (44, 0, 0), (27, 0, 3)]], 0, 0, 1, [], 1⟩

/-- 0x4032.01, BLOB RO V: Egress queue descriptor; the class instances are the express and MGT egress queues (R115) (R132) -/
def o4032_01 : Obj := ⟨0x4032, 0x01, .blob, .ro, .v, .none, [[(5, 0, 127), (16, 0, 255)], [(5, 0, 127), (27, 0, 3)], [(5, 0, 127), (27, 5, 5)]], 0, 0, 0xffffffffffffffffffffffffffffffff, [], 0xffffffffffffffffffffffffffffffff⟩

/-- 0x4032.02, U16 RW P: Egress queue cap (HIGH), sorts, 64–32,768 (R132) -/
def o4032_02 : Obj := ⟨0x4032, 0x02, .u16, .rw, .p, .config, [[(5, 0, 127), (16, 0, 255)]], 4096, 64, 0x8000, [], 0xffff⟩

/-- 0x4032.03, U16 RW P: Egress queue LOW, sorts, 0 to cap − 1 (R132) -/
def o4032_03 : Obj := ⟨0x4032, 0x03, .u16, .rw, .p, .config, [[(5, 0, 127), (16, 0, 255)]], 2048, 0, 0x7fff, [], 0xffff⟩

/-- 0x4032.04, BOOL RW P: Egress queue interrupt enable (R132) -/
def o4032_04 : Obj := ⟨0x4032, 0x04, .bool, .rw, .p, .config, [[(5, 0, 127), (16, 0, 255)]], 0, 0, 1, [], 1⟩

/-- 0x4032.05, BOOL WO V: Flush the queue (R113) (R132) -/
def o4032_05 : Obj := ⟨0x4032, 0x05, .bool, .wo, .v, .none, [[(5, 0, 127), (16, 0, 255)]], 0, 0, 1, [], 1⟩

/-- 0x4034.01, U16 RW P: Reservation at each egress quire, sorts, 0–512 (R122) (R132) -/
def o4034_01 : Obj := ⟨0x4034, 0x01, .u16, .rw, .p, .config, [[(5, 0, 127)]], 256, 0, 512, [], 0xffff⟩

/-- 0x4034.02, ENUM8 RW P: α: 0 = 1/8, 1 = 1/4, 2 = 1/2, 3 = 1, 4 = 2, 5 = 4, 6 = 8 (R132) -/
def o4034_02 : Obj := ⟨0x4034, 0x02, .enum8, .rw, .p, .config, [[(5, 0, 127)]], 3, 0, 6, [], 255⟩

/-- 0x4034.03, U32 RO V: used(p,e), sorts (R132) -/
def o4034_03 : Obj := ⟨0x4034, 0x03, .u32, .ro, .v, .capacity, [[(5, 0, 127), (2, 0, 7)]], 0, 0, 0xffffffff, [], 0xffffffff⟩

/-- 0x4034.04, U16 RO V: Shared part of i's grant in use at e, sorts (R132) -/
def o4034_04 : Obj := ⟨0x4034, 0x04, .u16, .ro, .v, .capacity, [[(2, 0, 7), (2, 0, 7)]], 0, 0, 0xffff, [], 0xffff⟩

/-- 0x4034.05, U16 RO V: S(i), sorts (R132) -/
def o4034_05 : Obj := ⟨0x4034, 0x05, .u16, .ro, .v, .config, [[(2, 0, 7)]], 6400, 0, 0xffff, [], 0xffff⟩

/-- 0x4034.06, ENUM8 RO V: Intake state: 0 flowing, 1 held by map, 2 held by account, 3 held by launch room, 4 held by class credit (R132) -/
def o4034_06 : Obj := ⟨0x4034, 0x06, .enum8, .ro, .v, .status, [[(5, 0, 127)]], 0, 0, 255, [], 255⟩

/-- 0x4038.01, BLOB RO V: Last congestion map sent (Table GAL-4) (R132) -/
def o4038_01 : Obj := ⟨0x4038, 0x01, .blob, .ro, .v, .none, [[(2, 0, 7)]], 0, 0, 0xffffffffffffffffffffffffffffffffffffffffffffffffffffffffffffffffffffffffffffffffffffffffffffffffffffffffffffffffffffffffffffffffffffffffffffffffffffffffffffffffffffffffffffffffffffffffffffffffffffffffffffffffffffffffffffffffffffffffffffffffffffffffffffffffffffffffffffffffffffffffffffffffffffffffffffffffffffffffffffffffffffffffffffffffffffffffffffffffffffffffffffffffffffffffffffffffffffffffffffffffffffffffffffffffffffffffffffffffffffffffffffffffffffffffffffffffffffffffffffffffffffffffffffffffffffffffffffffffffffffffffffffffffffffffffffffffffffffffffffffffffffffffffffffffffffffffffffffffffffffffffffffffffffffffffffffffffffffffffffffffffffffffffffffffffffffffffffffffffffffffffffffffffffffffffffffffffffffffffffffffffffffffffffffffffffffffffffffffffffffffffffffffffffffffffffffffffffffffffffffffffffffffffffffffffffffffffffffffffffffffffffffffffffffffffffffffffffffffffffffffffffffffffffffffffffffffffffffffffffffffffffffffffffffffffffffffffffffffffffffffffffffffffffffffffffffffffffffffffffffffffffffffffffffffffffffffffffffffffffffffffffffffffffffffffffffffffffffffffffffffffffffffffffffffffffffffffffffffffffffffffffffffffffffffffffffffffffffffffffffffffffffffffffffffffffffffffffffffffffffffffffffffffffffffffffffffffffffffffffffffffffffffffffffffffffffffffffffffffffffffffffffffffffffffffffffffffffffffffffffffffffffffffffffffffffffffffffffffffffffffffffffffffffffffffffffffffffffffffffffffffffffffffffffffffffffffffffffffffffffffffffffffffffffffffffffffffffffffffffffffffffffffffffffffffffffffffffffffffffffffffffffffffffffffffffffffffffffffffffffffffffffffffff, [], 0xffffffffffffffffffffffffffffffffffffffffffffffffffffffffffffffffffffffffffffffffffffffffffffffffffffffffffffffffffffffffffffffffffffffffffffffffffffffffffffffffffffffffffffffffffffffffffffffffffffffffffffffffffffffffffffffffffffffffffffffffffffffffffffffffffffffffffffffffffffffffffffffffffffffffffffffffffffffffffffffffffffffffffffffffffffffffffffffffffffffffffffffffffffffffffffffffffffffffffffffffffffffffffffffffffffffffffffffffffffffffffffffffffffffffffffffffffffffffffffffffffffffffffffffffffffffffffffffffffffffffffffffffffffffffffffffffffffffffffffffffffffffffffffffffffffffffffffffffffffffffffffffffffffffffffffffffffffffffffffffffffffffffffffffffffffffffffffffffffffffffffffffffffffffffffffffffffffffffffffffffffffffffffffffffffffffffffffffffffffffffffffffffffffffffffffffffffffffffffffffffffffffffffffffffffffffffffffffffffffffffffffffffffffffffffffffffffffffffffffffffffffffffffffffffffffffffffffffffffffffffffffffffffffffffffffffffffffffffffffffffffffffffffffffffffffffffffffffffffffffffffffffffffffffffffffffffffffffffffffffffffffffffffffffffffffffffffffffffffffffffffffffffffffffffffffffffffffffffffffffffffffffffffffffffffffffffffffffffffffffffffffffffffffffffffffffffffffffffffffffffffffffffffffffffffffffffffffffffffffffffffffffffffffffffffffffffffffffffffffffffffffffffffffffffffffffffffffffffffffffffffffffffffffffffffffffffffffffffffffffffffffffffffffffffffffffffffffffffffffffffffffffffffffffffffffffffffffffffffffffffffffffffffffffffffffffffffffffffffffffffffffffffffffffffffffffffffffffffffffffffffffffffffffffffffffffffffffffffffffffffffffffffffff⟩

/-- 0x403A.01, U32 RC V: Queue resets under R117 since last read (R132) -/
def o403A_01 : Obj := ⟨0x403A, 0x01, .u32, .rc, .v, .counter, [[(2, 0, 7)]], 0, 0, 0xffffffff, [], 0xffffffff⟩

/-- 0x403A.02, BOOL RO V: Sweep in progress (R132) -/
def o403A_02 : Obj := ⟨0x403A, 0x02, .bool, .ro, .v, .status, [[(2, 0, 7)]], 0, 0, 1, [], 1⟩

/-- 0x403A.03, U32 RC V: Late sorts discarded under R119 since last read (R132) -/
def o403A_03 : Obj := ⟨0x403A, 0x03, .u32, .rc, .v, .counter, [[(2, 0, 7)]], 0, 0, 0xffffffff, [], 0xffffffff⟩

/-- 0x403C.01, U32 RC V: Express class credits restored by audit since last read (R132) -/
def o403C_01 : Obj := ⟨0x403C, 0x01, .u32, .rc, .v, .counter, [[(2, 0, 7)]], 0, 0, 0xffffffff, [], 0xffffffff⟩

/-- 0x4040.01, ENUM8 RW V: Keying mode: 0 source VCS, 1 source port (shadow); loaded from 0x4040.08 at boot (R140) (R153) -/
def o4040_01 : Obj := ⟨0x4040, 0x01, .enum8, .rw, .v, .config, [[(5, 0, 127)]], 0, 0, 1, [], 255⟩

/-- 0x4040.02, U8 RW V: Key map, queue for key k (shadow); loaded from 0x4040.09 at boot (R140) (R153) -/
def o4040_02 : Obj := ⟨0x4040, 0x02, .u8, .rw, .v, .config, [[(5, 0, 127), (18, 0, 1023)]], 0, 0, 255, [], 255⟩

/-- 0x4040.03, U8 RW P: Queue for T9512-originated packets (R153) -/
def o4040_03 : Obj := ⟨0x4040, 0x03, .u8, .rw, .p, .config, [[(5, 0, 127)]], 255, 0, 255, [], 255⟩

/-- 0x4040.04, BOOL WO V: Commit keying mode and key map (R140) (R153) -/
def o4040_04 : Obj := ⟨0x4040, 0x04, .bool, .wo, .v, .none, [[(5, 0, 127)]], 0, 0, 1, [], 1⟩

/-- 0x4040.05, BOOL RO V: Remap in progress (R153) -/
def o4040_05 : Obj := ⟨0x4040, 0x05, .bool, .ro, .v, .status, [[(5, 0, 127)]], 0, 0, 1, [], 1⟩

/-- 0x4040.06, U32 RW P: Remap timeout, µs, 10–100,000 (R153) -/
def o4040_06 : Obj := ⟨0x4040, 0x06, .u32, .rw, .p, .config, [[(5, 0, 127)]], 1000, 10, 0x186a0, [], 0xffffffff⟩

/-- 0x4040.07, ENUM8 RO V: Outcome of the last commit: 0 none, 1 applied, 2 refused by the remap timeout (R140) (R153) -/
def o4040_07 : Obj := ⟨0x4040, 0x07, .enum8, .ro, .v, .status, [[(5, 0, 127)]], 0, 0, 255, [], 255⟩

/-- 0x4040.08, ENUM8 RO P: Keying mode in effect (R153) -/
def o4040_08 : Obj := ⟨0x4040, 0x08, .enum8, .ro, .p, .config, [[(5, 0, 127)]], 0, 0, 255, [], 255⟩

/-- 0x4040.09, U8 RO P: Key map in effect (R153) -/
def o4040_09 : Obj := ⟨0x4040, 0x09, .u8, .ro, .p, .config, [[(5, 0, 127), (18, 0, 1023)]], 0, 0, 255, [], 255⟩

/-- 0x4042.01, U32 RW P: Quantum, bytes, 64–65,536 (R153) -/
def o4042_01 : Obj := ⟨0x4042, 0x01, .u32, .rw, .p, .config, [[(5, 0, 127), (16, 0, 255)]], 2048, 64, 0x10000, [], 0xffffffff⟩

/-- 0x4042.02, U32 RO V: Deficit, bytes (R153) -/
def o4042_02 : Obj := ⟨0x4042, 0x02, .u32, .ro, .v, .capacity, [[(5, 0, 127), (16, 0, 255)]], 0, 0, 0xffffffff, [], 0xffffffff⟩

/-- 0x4042.03, U8 RW P: Tier guard G, 1–255 (R153) -/
def o4042_03 : Obj := ⟨0x4042, 0x03, .u8, .rw, .p, .config, [[(5, 0, 127)]], 16, 1, 255, [], 255⟩

/-- 0x4042.04, ENUM8 RO V: DRR state: 0 empty, 1 active, 2 parked (R153) -/
def o4042_04 : Obj := ⟨0x4042, 0x04, .enum8, .ro, .v, .status, [[(5, 0, 127), (16, 0, 255)]], 0, 0, 255, [], 255⟩

/-- 0x4044.01, U32 RW P: Limiter target record (Table SCH-1) (R153) -/
def o4044_01 : Obj := ⟨0x4044, 0x01, .u32, .rw, .p, .config, [[(2, 0, 7), (17, 0, 8191)]], 0, 0, 0xffffffff, [], 0xffffff00⟩

/-- 0x4044.02, U32 RW P: Rate R, Mb/s, 1–2,000,000 (R153) -/
def o4044_02 : Obj := ⟨0x4044, 0x02, .u32, .rw, .p, .config, [[(2, 0, 7), (17, 0, 8191)]], 1000, 1, 0x1e8480, [], 0xffffffff⟩

/-- 0x4044.03, U32 RW P: Burst B, bytes, 64–16,777,216 (R153) -/
def o4044_03 : Obj := ⟨0x4044, 0x03, .u32, .rw, .p, .config, [[(2, 0, 7), (17, 0, 8191)]], 4096, 64, 0x1000000, [], 0xffffffff⟩

/-- 0x4044.04, TIME64 RO V: TAT (R153) -/
def o4044_04 : Obj := ⟨0x4044, 0x04, .time64, .ro, .v, .none, [[(2, 0, 7), (17, 0, 8191)]], 0, 0, 0xffffffffffffffff, [], 0xffffffffffffffff⟩

/-- 0x4046.01, U16 RO V: Entries on the near wheel (R153) -/
def o4046_01 : Obj := ⟨0x4046, 0x01, .u16, .ro, .v, .capacity, [[(2, 0, 7)]], 0, 0, 0xffff, [], 0xffff⟩

/-- 0x4046.02, U16 RO V: Entries on the far wheel (R153) -/
def o4046_02 : Obj := ⟨0x4046, 0x02, .u16, .ro, .v, .capacity, [[(2, 0, 7)]], 0, 0, 0xffff, [], 0xffff⟩

/-- 0x4046.03, U32 RC V: Largest release lateness since last read, ns (R153) -/
def o4046_03 : Obj := ⟨0x4046, 0x03, .u32, .rc, .v, .maximum, [[(2, 0, 7)]], 0, 0, 0xffffffff, [], 0xffffffff⟩

/-- 0x4048.01, U32 RW P: Sample interval, µs, 1–1,000 (R153) -/
def o4048_01 : Obj := ⟨0x4048, 0x01, .u32, .rw, .p, .config, [[(2, 0, 7)]], 10, 1, 1000, [], 0xffffffff⟩

/-- 0x4048.02, BOOL RW P: Sampling enable (R153) -/
def o4048_02 : Obj := ⟨0x4048, 0x02, .bool, .rw, .p, .config, [[(2, 0, 7), (5, 0, 127), (27, 0, 5)], [(2, 0, 7), (44, 0, 0), (27, 0, 3)], [(5, 0, 127), (16, 0, 255)], [(5, 0, 127), (27, 0, 3)], [(5, 0, 127), (27, 5, 5)]], 0, 0, 1, [], 1⟩

/-- 0x4048.03, BLOB RC V: Depth histogram, 16 × U32 (Table SCH-2) (R153) -/
def o4048_03 : Obj := ⟨0x4048, 0x03, .blob, .rc, .v, .none, [[(2, 0, 7), (5, 0, 127), (27, 0, 5)], [(2, 0, 7), (44, 0, 0), (27, 0, 3)], [(5, 0, 127), (16, 0, 255)], [(5, 0, 127), (27, 0, 3)], [(5, 0, 127), (27, 5, 5)]], 0, 0, 0xffffffffffffffffffffffffffffffffffffffffffffffffffffffffffffffffffffffffffffffffffffffffffffffffffffffffffffffffffffffffffffffff, [], 0xffffffffffffffffffffffffffffffffffffffffffffffffffffffffffffffffffffffffffffffffffffffffffffffffffffffffffffffffffffffffffffffff⟩

/-- 0x4048.04, BLOB RC V: Delay histogram, 16 × U32 (Table SCH-2) (R153) -/
def o4048_04 : Obj := ⟨0x4048, 0x04, .blob, .rc, .v, .none, [[(2, 0, 7), (5, 0, 127), (27, 0, 5)], [(2, 0, 7), (44, 0, 0), (27, 0, 3)], [(5, 0, 127), (16, 0, 255)], [(5, 0, 127), (27, 0, 3)], [(5, 0, 127), (27, 5, 5)]], 0, 0, 0xffffffffffffffffffffffffffffffffffffffffffffffffffffffffffffffffffffffffffffffffffffffffffffffffffffffffffffffffffffffffffffffff, [], 0xffffffffffffffffffffffffffffffffffffffffffffffffffffffffffffffffffffffffffffffffffffffffffffffffffffffffffffffffffffffffffffffff⟩

/-- 0x4048.05, U32 RC V: Largest depth sampled since last read, sorts (R153) -/
def o4048_05 : Obj := ⟨0x4048, 0x05, .u32, .rc, .v, .maximum, [[(2, 0, 7), (5, 0, 127), (27, 0, 5)], [(2, 0, 7), (44, 0, 0), (27, 0, 3)], [(5, 0, 127), (16, 0, 255)], [(5, 0, 127), (27, 0, 3)], [(5, 0, 127), (27, 5, 5)]], 0, 0, 0xffffffff, [], 0xffffffff⟩

/-- 0x4048.06, U32 RC V: Largest head delay sampled since last read, ns (R153) -/
def o4048_06 : Obj := ⟨0x4048, 0x06, .u32, .rc, .v, .maximum, [[(2, 0, 7), (5, 0, 127), (27, 0, 5)], [(2, 0, 7), (44, 0, 0), (27, 0, 3)], [(5, 0, 127), (16, 0, 255)], [(5, 0, 127), (27, 0, 3)], [(5, 0, 127), (27, 5, 5)]], 0, 0, 0xffffffff, [], 0xffffffff⟩

/-- 0x4048.07, U16 RO V: Queues with sampling enabled, 0–1,024 (R153) -/
def o4048_07 : Obj := ⟨0x4048, 0x07, .u16, .ro, .v, .capacity, [[(2, 0, 7)]], 0, 0, 0xffff, [], 0xffff⟩

/-- 0x5020.01, U64 RW P: Range entry (Table COH-2) (R192) -/
def o5020_01 : Obj := ⟨0x5020, 0x01, .u64, .rw, .p, .config, [[(13, 0, 1023)]], 0, 0, 0xffffffffffffffff, [], 0xfffffffffffffffc⟩

/-- 0x5020.02, ENUM8 RO V: 0 off, 1 active, 2 converting under Table COH-3, 3 fallback (R192) -/
def o5020_02 : Obj := ⟨0x5020, 0x02, .enum8, .ro, .v, .status, [[(13, 0, 1023)]], 0, 0, 255, [], 255⟩

/-- 0x5022.01, U32 RW P: Back-invalidate timeout, µs, 1–100,000 (R192) -/
def o5022_01 : Obj := ⟨0x5022, 0x01, .u32, .rw, .p, .config, [[(11, 0, 15)]], 50, 1, 0x186a0, [], 0xffffffff⟩

/-- 0x5022.02, U8 RW P: Suspect threshold, 1–255 (R192) -/
def o5022_02 : Obj := ⟨0x5022, 0x02, .u8, .rw, .p, .config, [[(11, 0, 15)]], 3, 1, 255, [], 255⟩

/-- 0x5022.03, U8 RW P: Targeted threshold, 0–4 (R192) -/
def o5022_03 : Obj := ⟨0x5022, 0x03, .u8, .rw, .p, .config, [[(11, 0, 15)]], 4, 0, 4, [], 255⟩

/-- 0x5022.04, U32 RW P: Suspect window, µs, 10–1,000,000 (R192) -/
def o5022_04 : Obj := ⟨0x5022, 0x04, .u32, .rw, .p, .config, [[(11, 0, 15)]], 1000, 10, 0xf4240, [], 0xffffffff⟩

/-- 0x5030.01, U8 RW S: Suspect count; only 0 may be written (R192) -/
def o5030_01 : Obj := ⟨0x5030, 0x01, .u8, .rw, .s, .config, [[(11, 0, 15), (12, 0, 63)]], 0, 0, 0, [], 255⟩

/-- 0x5030.03, BOOL WO V: Release isolation (R192) -/
def o5030_03 : Obj := ⟨0x5030, 0x03, .bool, .wo, .v, .none, [[(11, 0, 15), (12, 0, 63)]], 0, 0, 1, [], 1⟩

/-- 0x5030.04, U32 RC V: Timeouts since last read (R192) -/
def o5030_04 : Obj := ⟨0x5030, 0x04, .u32, .rc, .v, .counter, [[(11, 0, 15), (12, 0, 63)]], 0, 0, 0xffffffff, [], 0xffffffff⟩

/-- 0x5030.05, U32 RC V: Late answers discarded since last read (R192) -/
def o5030_05 : Obj := ⟨0x5030, 0x05, .u32, .rc, .v, .counter, [[(11, 0, 15), (12, 0, 63)]], 0, 0, 0xffffffff, [], 0xffffffff⟩

/-- 0x5030.06, ENUM8 RO S: Home view: 0 NORMAL, 1 ABSENT, 2 SWEEPING, 3 ISOLATED (R192) -/
def o5030_06 : Obj := ⟨0x5030, 0x06, .enum8, .ro, .s, .status, [[(11, 0, 15), (12, 0, 63)]], 0, 0, 255, [], 255⟩

/-- 0x5030.07, U32 RC V: Requests refused while ISOLATED since last read (R192) -/
def o5030_07 : Obj := ⟨0x5030, 0x07, .u32, .rc, .v, .counter, [[(11, 0, 15), (12, 0, 63)]], 0, 0, 0xffffffff, [], 0xffffffff⟩

/-- 0x5040.01, U16 RO V: Request tracker entries in use, 0–1,024 (R192) -/
def o5040_01 : Obj := ⟨0x5040, 0x01, .u16, .ro, .v, .capacity, [[(2, 0, 7)]], 0, 0, 0xffff, [], 0xffff⟩

/-- 0x5040.02, U16 RO V: Write buffer lines in use, 0–1,536 (R192) -/
def o5040_02 : Obj := ⟨0x5040, 0x02, .u16, .ro, .v, .capacity, [[(2, 0, 7)]], 0, 0, 0xffff, [], 0xffff⟩

/-- 0x5040.03, U8 RO V: Internal tracker entries in use, 0–128 (R192) -/
def o5040_03 : Obj := ⟨0x5040, 0x03, .u8, .ro, .v, .capacity, [[(2, 0, 7)]], 0, 0, 255, [], 255⟩

/-- 0x5040.04, U8 RO V: Ring positions occupied, 0–16 (R192) -/
def o5040_04 : Obj := ⟨0x5040, 0x04, .u8, .ro, .v, .capacity, [[]], 0, 0, 255, [], 255⟩

/-- 0x5042.01, U64 WO V: Composite address to inspect (R192) -/
def o5042_01 : Obj := ⟨0x5042, 0x01, .u64, .wo, .v, .none, [[(2, 0, 7)]], 0, 0, 0xffffffffffffffff, [], 0xffffffffffffffff⟩

/-- 0x5042.02, BLOB RO V: Result of the inspection: state (Table COH-6), 64-bit sharer vector, wait-list length (R192) -/
def o5042_02 : Obj := ⟨0x5042, 0x02, .blob, .ro, .v, .none, [[(2, 0, 7)]], 0, 0, 0x7ffffffffffffffffffff, [], 0x7ffffffffffffffffffff⟩

/-- 0x5100.01, ENUM8 RO V: Service state: 0 IN_SERVICE, 1 DRAINING, 2 OUT, 3 REBUILDING; at the device, best to worst IN_SERVICE, REBUILDING, DRAINING, OUT (R583) (R221) -/
def o5100_01 : Obj := ⟨0x5100, 0x01, .enum8, .ro, .v, .status, [[(2, 0, 7)]], 0, 0, 255, [], 255⟩

/-- 0x5100.02, BOOL WO V: Take the slice out of service (R221) -/
def o5100_02 : Obj := ⟨0x5100, 0x02, .bool, .wo, .v, .none, [[(2, 0, 7)]], 0, 0, 1, [], 1⟩

/-- 0x5100.03, BOOL WO V: Return the slice to service; refused under R7 unless the state is OUT (R221) -/
def o5100_03 : Obj := ⟨0x5100, 0x03, .bool, .wo, .v, .none, [[(2, 0, 7)]], 0, 0, 1, [], 1⟩

/-- 0x5100.04, ENUM8 RO S: Reason for the last removal: 0 none, 1 command, 2 unnamed entry, 3 device reset (R593) (R221) -/
def o5100_04 : Obj := ⟨0x5100, 0x04, .enum8, .ro, .s, .status, [[(2, 0, 7)]], 0, 0, 255, [], 255⟩

/-- 0x5100.05, U64 RO V: Rebuild pointer, composite address of the next region (R221) -/
def o5100_05 : Obj := ⟨0x5100, 0x05, .u64, .ro, .v, .none, [[(2, 0, 7)]], 0, 0, 0xffffffffffffffff, [], 0xffffffffffffffff⟩

/-- 0x5110.01, U8 RW P: Promotion threshold, contentions, 1–15 (R221) -/
def o5110_01 : Obj := ⟨0x5110, 0x01, .u8, .rw, .p, .config, [[(11, 0, 15)]], 2, 1, 15, [], 255⟩

/-- 0x5110.02, U8 RW P: Demotion count, walker passes, 1–15 (R221) -/
def o5110_02 : Obj := ⟨0x5110, 0x02, .u8, .rw, .p, .config, [[(11, 0, 15)]], 4, 1, 15, [], 255⟩

/-- 0x5120.01, U16 RW P: Free-block reserve, blocks, 0–4,096 (R221) -/
def o5120_01 : Obj := ⟨0x5120, 0x01, .u16, .rw, .p, .config, [[(2, 0, 7)]], 256, 0, 4096, [], 0xffff⟩

/-- 0x5120.02, U8 RW P: Eviction allotment, internal tracker entries, 8–112 (R221) -/
def o5120_02 : Obj := ⟨0x5120, 0x02, .u8, .rw, .p, .config, [[(2, 0, 7)]], 64, 8, 112, [], 255⟩

/-- 0x5120.03, U32 RO V: Valid region entries, 0–262,144 (R221) -/
def o5120_03 : Obj := ⟨0x5120, 0x03, .u32, .ro, .v, .capacity, [[(2, 0, 7)]], 0, 0, 0xffffffff, [], 0xffffffff⟩

/-- 0x5120.04, U16 RO V: Line blocks in use, 0–16,384 (R221) -/
def o5120_04 : Obj := ⟨0x5120, 0x04, .u16, .ro, .v, .capacity, [[(2, 0, 7)]], 0, 0, 0xffff, [], 0xffff⟩

/-- 0x5120.05, U8 RO V: Evictions and demotions in progress (R221) -/
def o5120_05 : Obj := ⟨0x5120, 0x05, .u8, .ro, .v, .capacity, [[(2, 0, 7)]], 0, 0, 255, [], 255⟩

/-- 0x5120.06, U32 RC V: Requests that waited for a region entry since last read (R221) -/
def o5120_06 : Obj := ⟨0x5120, 0x06, .u32, .rc, .v, .counter, [[(2, 0, 7)]], 0, 0, 0xffffffff, [], 0xffffffff⟩

/-- 0x5120.07, U16 RO V: Snoop answer slots held by evictions, demotions and recalls, 0–2,048 (R221) -/
def o5120_07 : Obj := ⟨0x5120, 0x07, .u16, .ro, .v, .capacity, [[(2, 0, 7)]], 0, 0, 0xffff, [], 0xffff⟩

/-- 0x5120.08, U32 RC V: Longest wait for a region entry since last read, ns (R221) -/
def o5120_08 : Obj := ⟨0x5120, 0x08, .u32, .rc, .v, .maximum, [[(2, 0, 7)]], 0, 0, 0xffffffff, [], 0xffffffff⟩

/-- 0x5130.01, U32 RC V: Entry errors corrected since last read (R221) -/
def o5130_01 : Obj := ⟨0x5130, 0x01, .u32, .rc, .v, .counter, [[(2, 0, 7)]], 0, 0, 0xffffffff, [], 0xffffffff⟩

/-- 0x5130.02, U32 RC V: Entries failed under R215 since last read (R221) -/
def o5130_02 : Obj := ⟨0x5130, 0x02, .u32, .rc, .v, .counter, [[(2, 0, 7)]], 0, 0, 0xffffffff, [], 0xffffffff⟩

/-- 0x5140.01, U32 WO V: Entry selector: [31] 0 region, 1 line; [19:0] region set and way (set in [19:4]) or line index (R221) -/
def o5140_01 : Obj := ⟨0x5140, 0x01, .u32, .wo, .v, .none, [[(2, 0, 7)]], 0, 0, 0xffffffff, [], 0xffffffff⟩

/-- 0x5140.02, BLOB RO V: Raw entry and check bits at the selector (R221) -/
def o5140_02 : Obj := ⟨0x5140, 0x02, .blob, .ro, .v, .none, [[(2, 0, 7)]], 0, 0, 0xffffffffffffffffffffffffffffffffffffffff, [], 0xffffffffffffffffffffffffffffffffffffffff⟩

/-- 0x5200.01, BLOB RO P: Block-state record (R248) -/
def o5200_01 : Obj := ⟨0x5200, 0x01, .blob, .ro, .p, .none, [[(14, 0, 65535)]], 0x3fffffc00000000000000, 0, 0xffffffffffffffffffffffffffffffff, [], 0xffffffffffffffffffffffffffffffff⟩

/-- 0x5200.02, U32 RO V: Records in use, 0–65,536 (R248) -/
def o5200_02 : Obj := ⟨0x5200, 0x02, .u32, .ro, .v, .capacity, [[]], 0, 0, 0xffffffff, [], 0xffffffff⟩

/-- 0x5210.01, U32 RW P: Release timeout, s, 1–600 (R248) -/
def o5210_01 : Obj := ⟨0x5210, 0x01, .u32, .rw, .p, .config, [[]], 60, 1, 600, [], 0xffffffff⟩

/-- 0x5210.02, U32 RW P: Sanitize timeout, s, 1–600 (R248) -/
def o5210_02 : Obj := ⟨0x5210, 0x02, .u32, .rw, .p, .config, [[]], 10, 1, 600, [], 0xffffffff⟩

/-- 0x5210.03, U8 RW P: Concurrent block scrubs, 1–16 (R248) -/
def o5210_03 : Obj := ⟨0x5210, 0x03, .u8, .rw, .p, .config, [[]], 8, 1, 16, [], 255⟩

/-- 0x5210.04, U16 BOOT P: Transit colour (R248) -/
def o5210_04 : Obj := ⟨0x5210, 0x04, .u16, .boot, .p, .config, [[]], 0xfffe, 0, 0xffff, [], 0xffff⟩

/-- 0x5210.05, U8 RW P: Scrub failure limit, 1–7 (R248) -/
def o5210_05 : Obj := ⟨0x5210, 0x05, .u8, .rw, .p, .config, [[]], 3, 1, 7, [], 255⟩

/-- 0x5220.01, U32 WO V: Command: [31:30] 0b01 bind, 0b10 release, 0b11 re-bind, 0b00 reserved; [29] FORCED; [28] NKIND; [27:26] SCRUBM; [25:14] TO; [13:0] Reserved (R248) -/
def o5220_01 : Obj := ⟨0x5220, 0x01, .u32, .wo, .v, .none, [[(14, 0, 65535)]], 0, 0, 0xffffffff, [], 0xffffffff⟩

/-- 0x5220.02, ENUM8 RO V: Operation status: 0 idle, 1 running, 2 done, 3 failed, 4 cancelled by reset, 5 quarantined (R248) -/
def o5220_02 : Obj := ⟨0x5220, 0x02, .enum8, .ro, .v, .status, [[(14, 0, 65535)]], 0, 0, 255, [], 255⟩

/-- 0x5220.03, ENUM8 RO V: Host response to Add Capacity: 0 none, 1 accepted, 2 rejected (R248) -/
def o5220_03 : Obj := ⟨0x5220, 0x03, .enum8, .ro, .v, .status, [[(14, 0, 65535)]], 0, 0, 255, [], 255⟩

/-- 0x5220.04, U16 RO V: Operations running, 0–256 (R248) -/
def o5220_04 : Obj := ⟨0x5220, 0x04, .u16, .ro, .v, .capacity, [[]], 0, 0, 0xffff, [], 0xffff⟩

/-- 0x5220.05, U32 RC V: Requests refused by the fence of step 2 since last read (R232) (R248) -/
def o5220_05 : Obj := ⟨0x5220, 0x05, .u32, .rc, .v, .counter, [[(14, 0, 65535)]], 0, 0, 0xffffffff, [], 0xffffffff⟩

/-- 0x5230.01, BOOL RW P: Pool presentation as a virtual dynamic capacity device (R248) -/
def o5230_01 : Obj := ⟨0x5230, 0x01, .bool, .rw, .p, .config, [[(6, 0, 63)]], 0, 0, 1, [], 1⟩

/-- 0x5230.02, U8 RW P: vPPB of the presentation, 0–127; 0xFF none (R248) -/
def o5230_02 : Obj := ⟨0x5230, 0x02, .u8, .rw, .p, .config, [[(6, 0, 63)]], 255, 0, 127, [255], 255⟩

/-- 0x5230.03, U16 RO P: Block in DPA slot; 0xFFFF empty (R248) -/
def o5230_03 : Obj := ⟨0x5230, 0x03, .u16, .ro, .p, .none, [[(6, 0, 63), (19, 0, 4095)]], 0xffff, 0, 0xffff, [], 0xffff⟩

/-- 0x5230.04, U16 RW P: Owner colour of the VCS (R248) -/
def o5230_04 : Obj := ⟨0x5230, 0x04, .u16, .rw, .p, .config, [[(6, 0, 63)]], 0, 0, 0xffff, [], 0xffff⟩

/-- 0x5230.05, U16 RW P: PBR ID of the domain's GFAM device (R248) -/
def o5230_05 : Obj := ⟨0x5230, 0x05, .u16, .rw, .p, .config, [[(11, 0, 15)]], 4095, 0, 0xffff, [], 0xffff⟩

/-- 0x5230.06, U16 RO P: Block in GFAM DPA slot (R248) -/
def o5230_06 : Obj := ⟨0x5230, 0x06, .u16, .ro, .p, .none, [[(11, 0, 15), (19, 0, 4095)]], 0xffff, 0, 0xffff, [], 0xffff⟩

/-- 0x5230.07, U16 RW P: Domain colour (R248) -/
def o5230_07 : Obj := ⟨0x5230, 0x07, .u16, .rw, .p, .config, [[(11, 0, 15)]], 0, 0, 0xffff, [], 0xffff⟩

/-- 0x5240.01, U32 RO P: Last durable JSEQ (R248) -/
def o5240_01 : Obj := ⟨0x5240, 0x01, .u32, .ro, .p, .none, [[]], 0, 0, 0xffffffff, [], 0xffffffff⟩

/-- 0x5240.02, U16 RO V: Records since the last checkpoint, 0–4,095 (R248) -/
def o5240_02 : Obj := ⟨0x5240, 0x02, .u16, .ro, .v, .counter, [[]], 0, 0, 0xffff, [], 0xffff⟩

/-- 0x5240.03, U32 RC V: Journal copy failures since last read (R248) -/
def o5240_03 : Obj := ⟨0x5240, 0x03, .u32, .rc, .v, .counter, [[]], 0, 0, 0xffffffff, [], 0xffffffff⟩

/-- 0x6000.01, BLOB BOOT V: Plate entry (Table FRK-4) (R280) -/
def o6000_01 : Obj := ⟨0x6000, 0x01, .blob, .boot, .v, .config, [[(26, 0, 1), (25, 0, 4095)]], 0, 0, 0xffffffffffffffffffffffffffffffffffffffff, [], 0xffffffffffffffffffffffffffffffffffffffff⟩

/-- 0x6001.00, BOOL BOOT V: Plate lock; writing 1 checks under R261 and locks (R280) -/
def o6001_00 : Obj := ⟨0x6001, 0x00, .bool, .boot, .v, .config, [[(26, 0, 1)]], 0, 0, 1, [], 1⟩

/-- 0x6001.01, BOOL RO V: Space locked (R280) -/
def o6001_01 : Obj := ⟨0x6001, 0x01, .bool, .ro, .v, .status, [[(26, 0, 1)]], 0, 0, 1, [], 1⟩

/-- 0x6001.02, U16 RO V: Plates with DENYALL set (R280) -/
def o6001_02 : Obj := ⟨0x6001, 0x02, .u16, .ro, .v, .capacity, [[(26, 0, 1)]], 0, 0, 0xffff, [], 0xffff⟩

/-- 0x6010.01, BLOB RW V: Key set, shadow bank (Table FRK-3); IN1920 is RO (R280) -/
def o6010_01 : Obj := ⟨0x6010, 0x01, .blob, .rw, .v, .config, [[(23, 0, 8191)]], 0, 0, 0xffffffffffffffffffffffffffffffffffffffffffffffffffffffffffffffff, [], 0xffffffffffffffffffffffffffffffffffffffffffffffffffffffffffffffff⟩

/-- 0x6010.02, BLOB RO V: Key set, active bank (R280) -/
def o6010_02 : Obj := ⟨0x6010, 0x02, .blob, .ro, .v, .config, [[(23, 0, 8191)]], 0, 0, 0xffffffffffffffffffffffffffffffffffffffffffffffffffffffffffffffff, [], 0xffffffffffffffffffffffffffffffffffffffffffffffffffffffffffffffff⟩

/-- 0x6012.01, U64 RW V: PASID override match, shadow: [63] VALID, [44:32] initiator index, [19:0] PASID, others Reserved (R280) -/
def o6012_01 : Obj := ⟨0x6012, 0x01, .u64, .rw, .v, .config, [[(24, 0, 1023)]], 0, 0, 0xffffffffffffffff, [], 0x80001fff000fffff⟩

/-- 0x6012.02, BLOB RW V: PASID override key set, shadow (R280) -/
def o6012_02 : Obj := ⟨0x6012, 0x02, .blob, .rw, .v, .config, [[(24, 0, 1023)]], 0, 0, 0xffffffffffffffffffffffffffffffffffffffffffffffffffffffffffffffff, [], 0xffffffffffffffffffffffffffffffffffffffffffffffffffffffffffffffff⟩

/-- 0x6012.03, BLOB RO V: PASID override match and key set, active (R280) -/
def o6012_03 : Obj := ⟨0x6012, 0x03, .blob, .ro, .v, .config, [[(24, 0, 1023)]], 0, 0, 0xffffffffffffffffffffffffffffffffffffffffffffffffffffffffffffffffffffffffffffffff, [], 0xffffffffffffffffffffffffffffffffffffffffffffffffffffffffffffffffffffffffffffffff⟩

/-- 0x6020.01, U16 WO V: Commit, with the next generation (R270) (R280) -/
def o6020_01 : Obj := ⟨0x6020, 0x01, .u16, .wo, .v, .none, [[]], 0, 0, 0xffff, [], 0xffff⟩

/-- 0x6020.02, U16 RO V: Active generation (R280) -/
def o6020_02 : Obj := ⟨0x6020, 0x02, .u16, .ro, .v, .none, [[]], 0, 0, 0xffff, [], 0xffff⟩

/-- 0x6020.03, ENUM8 RO V: 0 idle, 1 changing banks, 2 copying to shadow (R280) -/
def o6020_03 : Obj := ⟨0x6020, 0x03, .enum8, .ro, .v, .status, [[]], 0, 0, 255, [], 255⟩

/-- 0x6020.04, U32 RO V: Sorts of the previous generation still in the device (R280) -/
def o6020_04 : Obj := ⟨0x6020, 0x04, .u32, .ro, .v, .capacity, [[]], 0, 0, 0xffffffff, [], 0xffffffff⟩

/-- 0x6030.01, U32 RC V: Refusals since last read (R280) -/
def o6030_01 : Obj := ⟨0x6030, 0x01, .u32, .rc, .v, .counter, [[(2, 0, 7)], [(32, 0, 0)]], 0, 0, 0xffffffff, [], 0xffffffff⟩

/-- 0x6030.02, BLOB RC V: First refusal since last read (Table FRK-6) (R280) -/
def o6030_02 : Obj := ⟨0x6030, 0x02, .blob, .rc, .v, .none, [[(2, 0, 7)], [(32, 0, 0)]], 0, 0, 0xffffffffffffffffffffffffffffffffffffffffffffffff, [], 0xffffffffffffffffffffffffffffffffffffffffffffffff⟩

/-- 0x3000.01, ENUM8 RW P: Target rate: 0 2.5, 1 5.0, 2 8.0, 3 16.0, 4 32.0, 5 64.0, 6 128.0 GT/s (R314) -/
def o3000_01 : Obj := ⟨0x3000, 0x01, .enum8, .rw, .p, .config, [[(5, 0, 127)]], 6, 0, 6, [], 255⟩

/-- 0x3000.02, ENUM8 RO V: Rate in effect, encoded as 0x3000.01 (R314) -/
def o3000_02 : Obj := ⟨0x3000, 0x02, .enum8, .ro, .v, .config, [[(5, 0, 127)]], 0, 0, 255, [], 255⟩

/-- 0x3000.03, U8 RO V: Width in effect, lanes; 0 when down (R314) -/
def o3000_03 : Obj := ⟨0x3000, 0x03, .u8, .ro, .v, .config, [[(5, 0, 127)]], 0, 0, 255, [], 255⟩

/-- 0x3000.04, ENUM8 RW P: Clocking mode: 0 common, 1 SRNS, 2 SRIS (R314) -/
def o3000_04 : Obj := ⟨0x3000, 0x04, .enum8, .rw, .p, .config, [[(5, 0, 127)]], 1, 0, 2, [], 255⟩

/-- 0x3000.05, BOOL RW P: Equalisation bypass to highest rate (R314) -/
def o3000_05 : Obj := ⟨0x3000, 0x05, .bool, .rw, .p, .config, [[(5, 0, 127)]], 0, 0, 1, [], 1⟩

/-- 0x3000.06, ENUM8 RW P: CLKREQ source: 0 none, 1 SLOTBUS expander (R314) -/
def o3000_06 : Obj := ⟨0x3000, 0x06, .enum8, .rw, .p, .config, [[(5, 0, 127)]], 0, 0, 1, [], 255⟩

/-- 0x3000.07, BOOL RO V: Lane reversal in effect (R314) -/
def o3000_07 : Obj := ⟨0x3000, 0x07, .bool, .ro, .v, .status, [[(5, 0, 127)]], 0, 0, 1, [], 1⟩

/-- 0x3000.08, ENUM8 RW P: Preset sent to an upstream partner, 0–10 (R314) -/
def o3000_08 : Obj := ⟨0x3000, 0x08, .enum8, .rw, .p, .config, [[(5, 0, 127)]], 7, 0, 10, [], 255⟩

/-- 0x3010.01, BITS32 RW P: Transmit coefficient word (Table LAN-3) (R314) -/
def o3010_01 : Obj := ⟨0x3010, 0x01, .bits32, .rw, .p, .config, [[(4, 0, 511)]], 64, 0, 0xffffffff, [], 0x801f1f00⟩

/-- 0x3010.02, ENUM8 RO V: Preset in effect, 0–10; 0xFF when refined or overridden (R314) -/
def o3010_02 : Obj := ⟨0x3010, 0x02, .enum8, .ro, .v, .config, [[(4, 0, 511)]], 4, 0, 255, [], 255⟩

/-- 0x3010.03, BITS32 RO V: Partner coefficients from the last evaluation, as Table LAN-3 (R314) -/
def o3010_03 : Obj := ⟨0x3010, 0x03, .bits32, .ro, .v, .none, [[(4, 0, 511)]], 64, 0, 0xffffffff, [], 0xffffffff⟩

/-- 0x3012.01, BLOB RO V: CTLE peaking, CTLE low-frequency gain and VGA in effect (R314) -/
def o3012_01 : Obj := ⟨0x3012, 0x01, .blob, .ro, .v, .config, [[(4, 0, 511)]], 0, 0, 0xffffff, [], 0xffffff⟩

/-- 0x3012.02, ENUM8 RW P: Adaptation mode: 0 continuous, 1 frozen, 2 manual (R314) -/
def o3012_02 : Obj := ⟨0x3012, 0x02, .enum8, .rw, .p, .config, [[(4, 0, 511)]], 0, 0, 2, [], 255⟩

/-- 0x3012.03, BLOB RW V: Manual CTLE, VGA and 14 DFE tap values; read returns values in effect (R314) -/
def o3012_03 : Obj := ⟨0x3012, 0x03, .blob, .rw, .v, .config, [[(4, 0, 511)]], 0, 0, 0xffffffffffffffffffffffffffffffffff, [], 0xffffffffffffffffffffffffffffffffff⟩

/-- 0x3014.01, ENUM8 RO V: Lane state: 0 off, 1 electrical idle, 2 training, 3 active, 4 L1.2 or DORMANT, 5 loopback, 6 pattern (R314) -/
def o3014_01 : Obj := ⟨0x3014, 0x01, .enum8, .ro, .v, .status, [[(4, 0, 511)]], 0, 0, 255, [], 255⟩

/-- 0x3014.02, BOOL RO V: Receive polarity inverted (R314) -/
def o3014_02 : Obj := ⟨0x3014, 0x02, .bool, .ro, .v, .status, [[(4, 0, 511)]], 0, 0, 1, [], 1⟩

/-- 0x3014.03, U8 RO V: Folio deskew delay applied, UI, 0–64 (R314) -/
def o3014_03 : Obj := ⟨0x3014, 0x03, .u8, .ro, .v, .none, [[(4, 0, 511)]], 0, 0, 255, [], 255⟩

/-- 0x3020.01, ENUM8 RW V: Loopback: 0 none, 1 near-end serial, 2 near-end parallel, 3 far-end (R314) -/
def o3020_01 : Obj := ⟨0x3020, 0x01, .enum8, .rw, .v, .config, [[(4, 0, 511)]], 0, 0, 3, [], 255⟩

/-- 0x3020.02, ENUM8 RW V: Generator: 0 off, 1 PRBS7, 2 PRBS15, 3 PRBS23, 4 PRBS31 (R314) -/
def o3020_02 : Obj := ⟨0x3020, 0x02, .enum8, .rw, .v, .config, [[(4, 0, 511)]], 0, 0, 4, [], 255⟩

/-- 0x3020.03, ENUM8 RW V: Checker, encoded as 0x3020.02 (R314) -/
def o3020_03 : Obj := ⟨0x3020, 0x03, .enum8, .rw, .v, .config, [[(4, 0, 511)]], 0, 0, 4, [], 255⟩

/-- 0x3020.04, U32 RC V: Pattern bit errors since last read (R314) -/
def o3020_04 : Obj := ⟨0x3020, 0x04, .u32, .rc, .v, .counter, [[(4, 0, 511)]], 0, 0, 0xffffffff, [], 0xffffffff⟩

/-- 0x3020.05, BOOL RO V: Checker synchronised (R314) -/
def o3020_05 : Obj := ⟨0x3020, 0x05, .bool, .ro, .v, .status, [[(4, 0, 511)]], 0, 0, 1, [], 1⟩

/-- 0x3022.01, U64 WO V: Eye scan start: [63:58] dwell exponent 20–40; [57:56] eye 0 upper, 1 middle, 2 lower; [55:48] vertical offset, signed; [47:40] horizontal offset, signed; [39:0] Reserved (R314) -/
def o3022_01 : Obj := ⟨0x3022, 0x01, .u64, .wo, .v, .none, [[(4, 0, 511)]], 0, 0, 0xffffffffffffffff, [], 0xffffffffffffffff⟩

/-- 0x3022.02, BLOB RO V: Eye scan result: bits compared U64, errors U64, status 0 idle, 1 running, 2 done, 3 aborted (R314) -/
def o3022_02 : Obj := ⟨0x3022, 0x02, .blob, .ro, .v, .none, [[(4, 0, 511)]], 0, 0, 0xffffffffffffffffffffffffffffffffff, [], 0xffffffffffffffffffffffffffffffffff⟩

/-- 0x3030.01, ENUM8 RW P: Folio provisioned rate: 5 64.0, 6 128.0 GT/s (R314) -/
def o3030_01 : Obj := ⟨0x3030, 0x01, .enum8, .rw, .p, .config, [[(5, 0, 127)]], 6, 5, 6, [], 255⟩

/-- 0x3030.02, ENUM8 RW P: Folio provisioned preset, 0–10 (R314) -/
def o3030_02 : Obj := ⟨0x3030, 0x02, .enum8, .rw, .p, .config, [[(5, 0, 127)]], 7, 0, 10, [], 255⟩

/-- 0x3030.03, U32 RW P: Folio lock timeout, µs, 100–100,000 (R314) -/
def o3030_03 : Obj := ⟨0x3030, 0x03, .u32, .rw, .p, .config, [[(5, 0, 127)]], 2000, 100, 0x186a0, [], 0xffffffff⟩

/-- 0x3030.04, U32 RW P: Dormant idle time, µs, 1–100,000; 0 disables Dormant (R314) -/
def o3030_04 : Obj := ⟨0x3030, 0x04, .u32, .rw, .p, .config, [[(5, 0, 127)]], 100, 1, 0x186a0, [0], 0xffffffff⟩

/-- 0x3030.05, U32 RW P: Dormant probe interval, µs, 500–1,000,000 (R314) -/
def o3030_05 : Obj := ⟨0x3030, 0x05, .u32, .rw, .p, .config, [[(5, 0, 127)]], 5000, 500, 0xf4240, [], 0xffffffff⟩

/-- 0x3030.06, ENUM8 RO V: Folio state: 0 OFF, 1 SEND, 2 LOCK, 3 ALIGNED, 4 ACTIVE, 5 DORMANT (R314) -/
def o3030_06 : Obj := ⟨0x3030, 0x06, .enum8, .ro, .v, .status, [[(5, 0, 127)]], 0, 0, 255, [], 255⟩

/-- 0x3030.07, U32 RC V: Failed lock attempts since last read (R314) -/
def o3030_07 : Obj := ⟨0x3030, 0x07, .u32, .rc, .v, .counter, [[(5, 0, 127)]], 0, 0, 0xffffffff, [], 0xffffffff⟩

/-- 0x3030.08, ENUM8 RO V: Lanes in use per direction: [1:0] receive USE, [3:2] transmit USE (R314) -/
def o3030_08 : Obj := ⟨0x3030, 0x08, .enum8, .ro, .v, .status, [[(5, 0, 127)]], 0, 0, 255, [], 255⟩

/-- 0x3030.09, BOOL RW P: Folio precoding (R314) -/
def o3030_09 : Obj := ⟨0x3030, 0x09, .bool, .rw, .p, .config, [[(5, 0, 127)]], 0, 0, 1, [], 1⟩

/-- 0x3030.0A, BOOL RW P: Folio degrade enable (R314) -/
def o3030_0A : Obj := ⟨0x3030, 0x0A, .bool, .rw, .p, .config, [[(5, 0, 127)]], 1, 0, 1, [], 1⟩

/-- 0x2100.01, U16 RW P: Provisioned receive window, sorts; applied at next INIT (R341) -/
def o2100_01 : Obj := ⟨0x2100, 0x01, .u16, .rw, .p, .config, [[(5, 0, 127), (27, 0, 5)]], 0, 0, 1024, [], 0xffff⟩

/-- 0x2100.02, U16 RO V: Partner window from its last INIT (R341) -/
def o2100_02 : Obj := ⟨0x2100, 0x02, .u16, .ro, .v, .none, [[(5, 0, 127), (27, 0, 5)]], 0, 0, 0xffff, [], 0xffff⟩

/-- 0x2100.03, U16 RO V: Effective window (R332) (R341) -/
def o2100_03 : Obj := ⟨0x2100, 0x03, .u16, .ro, .v, .config, [[(5, 0, 127), (27, 0, 5)]], 0, 0, 0xffff, [], 0xffff⟩

/-- 0x2100.04, U32 RC V: Credits found leaked since last read (R341) -/
def o2100_04 : Obj := ⟨0x2100, 0x04, .u32, .rc, .v, .counter, [[(5, 0, 127), (27, 0, 5)]], 0, 0, 0xffffffff, [], 0xffffffff⟩

/-- 0x2100.05, U8 RW P: Leak threshold, % of window, 50–100; 0 disables (R341) -/
def o2100_05 : Obj := ⟨0x2100, 0x05, .u8, .rw, .p, .config, [[(5, 0, 127)]], 75, 50, 100, [0], 255⟩

/-- 0x2100.06, U32 RW P: Leak monitor interval, µs, 100–100,000 (R341) -/
def o2100_06 : Obj := ⟨0x2100, 0x06, .u32, .rw, .p, .config, [[(5, 0, 127)]], 1000, 100, 0x186a0, [], 0xffffffff⟩

/-- 0x2110.01, U32 RW P: Replay timer, ns, 200–100,000 (R341) -/
def o2110_01 : Obj := ⟨0x2110, 0x01, .u32, .rw, .p, .config, [[(5, 0, 127)]], 1000, 200, 0x186a0, [], 0xffffffff⟩

/-- 0x2110.02, U8 RW P: Timer expiries without release before planned retrain, 1–15 (R341) -/
def o2110_02 : Obj := ⟨0x2110, 0x02, .u8, .rw, .p, .config, [[(5, 0, 127)]], 4, 1, 15, [], 255⟩

/-- 0x2110.03, U16 RO V: Flits held, 0–1,024 (R341) -/
def o2110_03 : Obj := ⟨0x2110, 0x03, .u16, .ro, .v, .capacity, [[(5, 0, 127)]], 0, 0, 0xffff, [], 0xffff⟩

/-- 0x2110.04, U32 RC V: Replays since last read (R341) -/
def o2110_04 : Obj := ⟨0x2110, 0x04, .u32, .rc, .v, .counter, [[(5, 0, 127)]], 0, 0, 0xffffffff, [], 0xffffffff⟩

/-- 0x2110.05, U32 RC V: Bad flits since last read (R341) -/
def o2110_05 : Obj := ⟨0x2110, 0x05, .u32, .rc, .v, .counter, [[(5, 0, 127)]], 0, 0, 0xffffffff, [], 0xffffffff⟩

/-- 0x2110.06, U32 RC V: Bytes corrected by FEC since last read (R341) -/
def o2110_06 : Obj := ⟨0x2110, 0x06, .u32, .rc, .v, .counter, [[(5, 0, 127)]], 0, 0, 0xffffffff, [], 0xffffffff⟩

/-- 0x2110.07, U16 RO V: Send count S (R341) -/
def o2110_07 : Obj := ⟨0x2110, 0x07, .u16, .ro, .v, .none, [[(5, 0, 127)]], 0, 0, 0xffff, [], 0xffff⟩

/-- 0x2110.08, U16 RO V: Expected count E (R341) -/
def o2110_08 : Obj := ⟨0x2110, 0x08, .u16, .ro, .v, .none, [[(5, 0, 127)]], 0, 0, 0xffff, [], 0xffff⟩

/-- 0x2110.09, U32 RO V: Measured round trip, ns (R341) -/
def o2110_09 : Obj := ⟨0x2110, 0x09, .u32, .ro, .v, .none, [[(5, 0, 127)]], 0, 0, 0xffffffff, [], 0xffffffff⟩

/-- 0x2110.0A, U32 RC V: Duplicates dropped since last read (R341) -/
def o2110_0A : Obj := ⟨0x2110, 0x0A, .u32, .rc, .v, .counter, [[(5, 0, 127)]], 0, 0, 0xffffffff, [], 0xffffffff⟩

/-- 0x2120.01, BOOL WO V: Request a planned retrain (R341) -/
def o2120_01 : Obj := ⟨0x2120, 0x01, .bool, .wo, .v, .none, [[(5, 0, 127)]], 0, 0, 1, [], 1⟩

/-- 0x2120.02, U32 RC V: Planned retrains since last read (R341) -/
def o2120_02 : Obj := ⟨0x2120, 0x02, .u32, .rc, .v, .counter, [[(5, 0, 127)]], 0, 0, 0xffffffff, [], 0xffffffff⟩

/-- 0x2130.01, U32 RW P: Express completion timeout, µs, 100–1,000,000 (R341) -/
def o2130_01 : Obj := ⟨0x2130, 0x01, .u32, .rw, .p, .config, [[(5, 0, 127)]], 0x2710, 100, 0xf4240, [], 0xffffffff⟩

/-- 0x2130.02, U32 RW P: Bulk completion timeout, ms, 1–1,000 (R341) -/
def o2130_02 : Obj := ⟨0x2130, 0x02, .u32, .rw, .p, .config, [[(5, 0, 127)]], 50, 1, 1000, [], 0xffffffff⟩

/-- 0x2130.03, U16 RO V: Tracker entries in use, 0–4,096 (R341) -/
def o2130_03 : Obj := ⟨0x2130, 0x03, .u16, .ro, .v, .capacity, [[(5, 0, 127)]], 0, 0, 0xffff, [], 0xffff⟩

/-- 0x2130.04, U32 RC V: Requests completed by timeout since last read (R341) -/
def o2130_04 : Obj := ⟨0x2130, 0x04, .u32, .rc, .v, .counter, [[(5, 0, 127)]], 0, 0, 0xffffffff, [], 0xffffffff⟩

/-- 0x2130.05, U32 RC V: Sorts voided or discarded since last read (R341) -/
def o2130_05 : Obj := ⟨0x2130, 0x05, .u32, .rc, .v, .counter, [[(5, 0, 127)]], 0, 0, 0xffffffff, [], 0xffffffff⟩

/-- 0x2130.06, U32 RC V: Late completions discarded since last read (R341) -/
def o2130_06 : Obj := ⟨0x2130, 0x06, .u32, .rc, .v, .counter, [[(5, 0, 127)]], 0, 0, 0xffffffff, [], 0xffffffff⟩

/-- 0x2130.07, U32 RC V: Packets received with VOID and discarded since last read (R341) -/
def o2130_07 : Obj := ⟨0x2130, 0x07, .u32, .rc, .v, .counter, [[(5, 0, 127)]], 0, 0, 0xffffffff, [], 0xffffffff⟩

/-- 0x2140.01, U8 RW P: VCs enabled on a PCIe or CXL port, 1–4 (R341) -/
def o2140_01 : Obj := ⟨0x2140, 0x01, .u8, .rw, .p, .config, [[(5, 0, 127)]], 1, 1, 4, [], 255⟩

/-- 0x4400.01, U8 RW P: BAR4 size, log2 bytes, 24–40; 0 absent; writable while the VCS is disabled (R372) -/
def o4400_01 : Obj := ⟨0x4400, 0x01, .u8, .rw, .p, .config, [[(6, 0, 63)]], 0, 24, 40, [0], 255⟩

/-- 0x4400.02, U16 RW P: VF allotment, 0–256 (R362) (R372) -/
def o4400_02 : Obj := ⟨0x4400, 0x02, .u16, .rw, .p, .config, [[(6, 0, 63)]], 0, 0, 256, [], 0xffff⟩

/-- 0x4400.03, U32 RO V: Imprint GEN (R372) -/
def o4400_03 : Obj := ⟨0x4400, 0x03, .u32, .ro, .v, .none, [[(6, 0, 63)]], 0, 0, 0xffffffff, [], 0xffffffff⟩

/-- 0x4400.04, U16 RW P: Originated read size, bytes, 128–4,096, power of two (R372) -/
def o4400_04 : Obj := ⟨0x4400, 0x04, .u16, .rw, .p, .config, [[(5, 0, 127)]], 512, 128, 4096, [], 0xffff⟩

/-- 0x4400.05, U16 RW P: VF base: device-wide number of VF 1, 0–4,095; writable while the VCS is disabled (R362) (R372) -/
def o4400_05 : Obj := ⟨0x4400, 0x05, .u16, .rw, .p, .config, [[(6, 0, 63)]], 0, 0, 4095, [], 0xffff⟩

/-- 0x4410.01, BLOB RW P: Imposition entry (Table HST-9) (R372) -/
def o4410_01 : Obj := ⟨0x4410, 0x01, .blob, .rw, .p, .config, [[(20, 0, 4095)]], 0, 0, 0xffffffffffffffffffffffffffffffff, [], 0xffffffffffffffffffffffffffffc000⟩

/-- 0x4410.02, ENUM8 RO V: 0 off, 1 active, 2 draining (R355) (R372) -/
def o4410_02 : Obj := ⟨0x4410, 0x02, .enum8, .ro, .v, .status, [[(20, 0, 4095)]], 0, 0, 255, [], 255⟩

/-- 0x4420.01, U16 RW P: Physical Slot Number, 0–8,191 (R372) -/
def o4420_01 : Obj := ⟨0x4420, 0x01, .u16, .rw, .p, .config, [[(6, 0, 63), (7, 0, 127)]], 0, 0, 8191, [], 0xffff⟩

/-- 0x4420.02, U8 RW P: Slot channel SP00–SP31 of the port; 0xFF none (R372) -/
def o4420_02 : Obj := ⟨0x4420, 0x02, .u8, .rw, .p, .config, [[(5, 0, 127)]], 255, 0, 31, [255], 255⟩

/-- 0x4420.03, BOOL RW P: Hot-Plug Surprise reported (R372) -/
def o4420_03 : Obj := ⟨0x4420, 0x03, .bool, .rw, .p, .config, [[(6, 0, 63), (7, 0, 127)]], 0, 0, 1, [], 1⟩

/-- 0x4430.01, ENUM8 RO V: Function state: 0 not ready, 1 ready, 2 FLR; F000 is the PF, F001–F256 the VFs (R372) -/
def o4430_01 : Obj := ⟨0x4430, 0x01, .enum8, .ro, .v, .status, [[(6, 0, 63), (31, 0, 256)]], 0, 0, 255, [], 255⟩

/-- 0x4440.01, U16 WO V: Host doorbell from an engine; raises vector 3 under R359 (R372) -/
def o4440_01 : Obj := ⟨0x4440, 0x01, .u16, .wo, .v, .none, [[(6, 0, 63)]], 0, 0, 0xffff, [], 0xffff⟩

/-- 0x4450.01, U32 RC V: BAR writes discarded under R346 or R348 since last read (R372) -/
def o4450_01 : Obj := ⟨0x4450, 0x01, .u32, .rc, .v, .counter, [[(6, 0, 63)]], 0, 0, 0xffffffff, [], 0xffffffff⟩

/-- 0x8000.01, U32 RW P: Assignment word (Table PLT-1) (R394) -/
def o8000_01 : Obj := ⟨0x8000, 0x01, .u32, .rw, .p, .config, [[(21, 0, 65535)]], 0, 0, 0xffffffff, [], 0xffffff00⟩

/-- 0x8000.02, U64 RO V: Status word (R394) -/
def o8000_02 : Obj := ⟨0x8000, 0x02, .u64, .ro, .v, .none, [[(21, 0, 65535)]], 0x800000000000000, 0, 0xffffffffffffffff, [], 0xffffffffffffffff⟩

/-- 0x8000.03, BLOB RO V: SQ base, CQ base and configuration word as written by the owner (R394) -/
def o8000_03 : Obj := ⟨0x8000, 0x03, .blob, .ro, .v, .none, [[(21, 0, 65535)]], 0, 0, 0xffffffffffffffffffffffffffffffffffffffffffffffff, [], 0xffffffffffffffffffffffffffffffffffffffffffffffff⟩

/-- 0x8000.04, U64 RO V: [63:48] SQ head, [47:32] SQ tail, [31:16] CQ head, [15:0] CQ tail (R394) -/
def o8000_04 : Obj := ⟨0x8000, 0x04, .u64, .ro, .v, .none, [[(21, 0, 65535)]], 0, 0, 0xffffffffffffffff, [], 0xffffffffffffffff⟩

/-- 0x8000.05, U32 RC V: Descriptors completed since last read (R394) -/
def o8000_05 : Obj := ⟨0x8000, 0x05, .u32, .rc, .v, .counter, [[(21, 0, 65535)]], 0, 0, 0xffffffff, [], 0xffffffff⟩

/-- 0x8000.06, BOOL WO V: Squash the ring (Table PLT-9) (R394) -/
def o8000_06 : Obj := ⟨0x8000, 0x06, .bool, .wo, .v, .none, [[(21, 0, 65535)]], 0, 0, 1, [], 1⟩

/-- 0x8010.01, U16 RO V: Active rings served (R394) -/
def o8010_01 : Obj := ⟨0x8010, 0x01, .u16, .ro, .v, .capacity, [[(22, 0, 31)]], 0, 0, 0xffff, [], 0xffff⟩

/-- 0x8010.02, U16 RO V: Descriptor FIFOs held, 0–512 (R394) -/
def o8010_02 : Obj := ⟨0x8010, 0x02, .u16, .ro, .v, .capacity, [[(2, 0, 7)]], 0, 0, 0xffff, [], 0xffff⟩

/-- 0x8020.01, U32 RO V: Sorts issued by the initiator's rings still in the device (R394) -/
def o8020_01 : Obj := ⟨0x8020, 0x01, .u32, .ro, .v, .capacity, [[(23, 0, 8191)]], 0, 0, 0xffffffff, [], 0xffffffff⟩

/-- 0x8020.02, U32 RC V: Resets that left residue (R393) since last read (R394) -/
def o8020_02 : Obj := ⟨0x8020, 0x02, .u32, .rc, .v, .counter, [[(23, 0, 8191)]], 0, 0, 0xffffffff, [], 0xffffffff⟩

/-- 0x8030.01, U32 RC V: Doorbell-page writes discarded under R382 since last read (R394) -/
def o8030_01 : Obj := ⟨0x8030, 0x01, .u32, .rc, .v, .counter, [[]], 0, 0, 0xffffffff, [], 0xffffffff⟩

/-- 0x7000.01, ENUM8 RO V: Engine state: 0 HALTED, 1 RUNNING, 2 STOPPED by fault, 3 OFF (R420) -/
def o7000_01 : Obj := ⟨0x7000, 0x01, .enum8, .ro, .v, .status, [[(9, 0, 191)]], 0, 0, 255, [], 255⟩

/-- 0x7000.02, ENUM8 RW V: Rirath run control for K8–K11 engines: 0 halt, 1 run (R420) -/
def o7000_02 : Obj := ⟨0x7000, 0x02, .enum8, .rw, .v, .config, [[(9, 0, 191)]], 0, 0, 1, [], 255⟩

/-- 0x7000.04, U8 RW P: Network level, 0–1 (R413) (R420) -/
def o7000_04 : Obj := ⟨0x7000, 0x04, .u8, .rw, .p, .config, [[(9, 0, 191)]], 0, 0, 1, [], 255⟩

/-- 0x7010.01, U64 BOOT V: Region entry (Table CMP-4) (R420) -/
def o7010_01 : Obj := ⟨0x7010, 0x01, .u64, .boot, .v, .config, [[(9, 0, 191), (30, 0, 15)]], 0, 0, 0xffffffffffffffff, [], 0xffffffffffffffff⟩

/-- 0x7010.02, BOOL BOOT V: Region lock; writing 1 checks under R403 (R420) -/
def o7010_02 : Obj := ⟨0x7010, 0x02, .bool, .boot, .v, .config, [[]], 0, 0, 1, [], 1⟩

/-- 0x7020.01, U32 RC V: Store failures recorded in the cluster since last read (R420) -/
def o7020_01 : Obj := ⟨0x7020, 0x01, .u32, .rc, .v, .counter, [[(8, 0, 11)]], 0, 0, 0xffffffff, [], 0xffffffff⟩

/-- 0x7022.01, U8 RW P: Engine receiving cluster-addressed interrupts (R420) -/
def o7022_01 : Obj := ⟨0x7022, 0x01, .u8, .rw, .p, .config, [[(8, 0, 11)]], 0, 0, 191, [], 255⟩

/-- 0x7030.01, ENUM8 RO V: Target state: 0 OK, 1 ISOLATED, 2 OFFLINE (R420) -/
def o7030_01 : Obj := ⟨0x7030, 0x01, .enum8, .ro, .v, .status, [[(28, 0, 255)]], 0, 0, 255, [], 255⟩

/-- 0x7030.02, BOOL WO V: Return the target to service (R420) -/
def o7030_02 : Obj := ⟨0x7030, 0x02, .bool, .wo, .v, .none, [[(28, 0, 255)]], 0, 0, 1, [], 1⟩

/-- 0x7030.03, U32 RC V: Requests answered with error since last read (R420) -/
def o7030_03 : Obj := ⟨0x7030, 0x03, .u32, .rc, .v, .counter, [[(28, 0, 255)]], 0, 0, 0xffffffff, [], 0xffffffff⟩

/-- 0x7040.01, ENUM8 WO V: 1 drain and fence; 2 reopen (R420) -/
def o7040_01 : Obj := ⟨0x7040, 0x01, .enum8, .wo, .v, .none, [[(2, 0, 7)], [(8, 0, 11)]], 0, 0, 255, [], 255⟩

/-- 0x7040.02, ENUM8 RO V: 0 OPEN, 1 DRAINING, 2 FENCED (R420) -/
def o7040_02 : Obj := ⟨0x7040, 0x02, .enum8, .ro, .v, .status, [[(2, 0, 7)], [(8, 0, 11)]], 0, 0, 255, [], 255⟩

/-- 0x7050.01, BLOB RWL P: Owner public key, P-384, 97-byte uncompressed point (R420) -/
def o7050_01 : Obj := ⟨0x7050, 0x01, .blob, .rwl, .p, .config, [[(29, 0, 3)]], 0, 0, 0xffffffffffffffffffffffffffffffffffffffffffffffffffffffffffffffffffffffffffffffffffffffffffffffffffffffffffffffffffffffffffffffffffffffffffffffffffffffffffffffffffffffffffffffffffffffffffffffffff, [], 0xffffffffffffffffffffffffffffffffffffffffffffffffffffffffffffffffffffffffffffffffffffffffffffffffffffffffffffffffffffffffffffffffffffffffffffffffffffffffffffffffffffffffffffffffffffffffffffffffff⟩

/-- 0x7050.02, BOOL RW P: Lock the owner key slots; once 1, it cannot be cleared (R420) -/
def o7050_02 : Obj := ⟨0x7050, 0x02, .bool, .rw, .p, .config, [[]], 0, 0, 1, [], 1⟩

/-- 0x7050.03, U32 RW P: Minimum program version; a lower value is refused under R7 (R420) -/
def o7050_03 : Obj := ⟨0x7050, 0x03, .u32, .rw, .p, .config, [[(29, 0, 3)]], 0, 0, 0xffffffff, [], 0xffffffff⟩

/-- 0x7050.04, BLOB WO V: Image staging, up to 640 KB (R420) -/
def o7050_04 : Obj := ⟨0x7050, 0x04, .blob, .wo, .v, .none, [[]], 0, 0, 0, [], 0⟩

/-- 0x7050.05, U32 WO V: Load command (R419) (R420) -/
def o7050_05 : Obj := ⟨0x7050, 0x05, .u32, .wo, .v, .none, [[]], 0, 0, 0xffffffff, [], 0xffffffff⟩

/-- 0x7050.06, ENUM8 RO V: Load status: 0 idle, 1 running, 2 done, 3 bad signature, 4 empty key slot, 5 version below minimum, 6 header out of range, 7 engine not HALTED (R420) -/
def o7050_06 : Obj := ⟨0x7050, 0x06, .enum8, .ro, .v, .status, [[]], 0, 0, 255, [], 255⟩

/-- 0x7050.07, U64 RO V: PID in [63:32] and PVER in [31:0] of the running program (R420) -/
def o7050_07 : Obj := ⟨0x7050, 0x07, .u64, .ro, .v, .none, [[(9, 0, 127)]], 0, 0, 0xffffffffffffffff, [], 0xffffffffffffffff⟩

/-- 0x7050.08, BOOL WO V: Halt the service program (R420) -/
def o7050_08 : Obj := ⟨0x7050, 0x08, .bool, .wo, .v, .none, [[(9, 0, 127)]], 0, 0, 1, [], 1⟩

/-- 0x7060.01, U32 RW P: Adsum view: [31:16] SET, [15:0] GET, one bit per index range 0x0000–0xF000 (R420) -/
def o7060_01 : Obj := ⟨0x7060, 0x01, .u32, .rw, .p, .config, [[(9, 0, 191)]], 0, 0, 0xffffffff, [], 0xffffffff⟩

/-- 0x1000.01, STR RO V: Vendor name (R443) -/
def o1000_01 : Obj := ⟨0x1000, 0x01, .str, .ro, .v, .none, [[]], 0x7375786c656e6547, 0, 0xffffffffffffffff, [], 0xffffffffffffffff⟩

/-- 0x1000.02, STR RO V: Orderable part (R443) -/
def o1000_02 : Obj := ⟨0x1000, 0x02, .str, .ro, .v, .none, [[]], 0x41412d32313539542d5847, 0, 0xffffffffffffffffffffff, [], 0xffffffffffffffffffffff⟩

/-- 0x1001.00, STR RO P: Serial number (R443) [DESIGN CHOICE, log 10] -/
def o1001_00 : Obj := ⟨0x1001, 0x00, .str, .ro, .p, .none, [[]], 0, 0, 0xffffffffffffffffffffffffffffffffffffffffffffffffffffffffffffffffffffffffffffffffffffffffffffffffffffffffffffffffffffffffffffffffffffffffffffffffffffffffffffffffffffffffffffffffffffffffffffffffffffffffffffffffffffffffffffffffffffffffffffffffffffffffffffffffffffffffffffffffffffffffffffffffffffffffffffffffffffffffffffffffffffffffffffffffffffffffffffffffffffffffffffffffffffffffffffffffffffffffffffffffffffffffffffffffffffffffffffffffffffffffffffffffffffffffffffffffffffffffffffffffffffffffffffffffffffffffffffff, [], 0xffffffffffffffffffffffffffffffffffffffffffffffffffffffffffffffffffffffffffffffffffffffffffffffffffffffffffffffffffffffffffffffffffffffffffffffffffffffffffffffffffffffffffffffffffffffffffffffffffffffffffffffffffffffffffffffffffffffffffffffffffffffffffffffffffffffffffffffffffffffffffffffffffffffffffffffffffffffffffffffffffffffffffffffffffffffffffffffffffffffffffffffffffffffffffffffffffffffffffffffffffffffffffffffffffffffffffffffffffffffffffffffffffffffffffffffffffffffffffffffffffffffffffffffffffffffffffffff⟩

/-- 0x1002.00, U8 RO V: Stepping (R2) (R443) -/
def o1002_00 : Obj := ⟨0x1002, 0x00, .u8, .ro, .v, .none, [[]], 177, 0, 255, [], 255⟩

/-- 0x1003.00, U16 RO V: PCI vendor ID (R443) -/
def o1003_00 : Obj := ⟨0x1003, 0x00, .u16, .ro, .v, .none, [[]], 7979, 0, 0xffff, [], 0xffff⟩

/-- 0x1004.00, U16 RO V: Dictionary format version (R443) -/
def o1004_00 : Obj := ⟨0x1004, 0x00, .u16, .ro, .v, .none, [[]], 1, 0, 0xffff, [], 0xffff⟩

/-- 0x1005.00, BLOB RO P: Device unique identifier, 16 bytes (R443) [DESIGN CHOICE, log 10] -/
def o1005_00 : Obj := ⟨0x1005, 0x00, .blob, .ro, .p, .none, [[]], 0, 0, 0xffffffffffffffffffffffffffffffff, [], 0xffffffffffffffffffffffffffffffff⟩

/-- 0x1100.01, ENUM8 RW P: PHY mode: 0 1000BASE-X, 1 SGMII (R443) -/
def o1100_01 : Obj := ⟨0x1100, 0x01, .enum8, .rw, .p, .config, [[(38, 0, 1)]], 0, 0, 1, [], 255⟩

/-- 0x1100.02, ENUM8 RO V: Link: 0 down, 1 up (R443) -/
def o1100_02 : Obj := ⟨0x1100, 0x02, .enum8, .ro, .v, .status, [[(38, 0, 1)]], 0, 0, 255, [], 255⟩

/-- 0x1100.03, BLOB BOOT P: MAC address, 6 bytes (R443) [DESIGN CHOICE, log 10] -/
def o1100_03 : Obj := ⟨0x1100, 0x03, .blob, .boot, .p, .config, [[(38, 0, 1)]], 0, 0, 0xffffffffffff, [], 0xffffffffffff⟩

/-- 0x1100.04, BLOB RW P: Static IPv6 address, 16 bytes; all zero for none (R443) -/
def o1100_04 : Obj := ⟨0x1100, 0x04, .blob, .rw, .p, .config, [[(38, 0, 1)]], 0, 0, 0xffffffffffffffffffffffffffffffff, [], 0xffffffffffffffffffffffffffffffff⟩

/-- 0x1100.05, U8 RW P: Prefix length of the static address, 1–128 (R443) -/
def o1100_05 : Obj := ⟨0x1100, 0x05, .u8, .rw, .p, .config, [[(38, 0, 1)]], 64, 1, 128, [], 255⟩

/-- 0x1100.06, BOOL RW P: SLAAC enable (R443) -/
def o1100_06 : Obj := ⟨0x1100, 0x06, .bool, .rw, .p, .config, [[(38, 0, 1)]], 0, 0, 1, [], 1⟩

/-- 0x1100.07, BOOL RW P: Port enable (R443) -/
def o1100_07 : Obj := ⟨0x1100, 0x07, .bool, .rw, .p, .config, [[(38, 0, 1)]], 1, 0, 1, [], 1⟩

/-- 0x1100.08, U16 RW P: Adsum UDP port, 1,024–65,535 (R443) -/
def o1100_08 : Obj := ⟨0x1100, 0x08, .u16, .rw, .p, .config, [[]], 4931, 1024, 0xffff, [], 0xffff⟩

/-- 0x1110.01, U8 RW P: Static address for SETDASA, 0x08–0x7D; 0x00 none (R443) -/
def o1110_01 : Obj := ⟨0x1110, 0x01, .u8, .rw, .p, .config, [[(39, 0, 1)]], 0, 8, 125, [0], 255⟩

/-- 0x1110.02, U8 RO V: Dynamic address; 0x00 unassigned (R443) -/
def o1110_02 : Obj := ⟨0x1110, 0x02, .u8, .ro, .v, .none, [[(39, 0, 1)]], 0, 0, 255, [], 255⟩

/-- 0x1110.03, BOOL RW P: FM API accepted without a session (R438) (R443) -/
def o1110_03 : Obj := ⟨0x1110, 0x03, .bool, .rw, .p, .config, [[(39, 0, 1)]], 0, 0, 1, [], 1⟩

/-- 0x1120.01, U32 RW P: Session idle timeout, s, 10–3,600 (R443) -/
def o1120_01 : Obj := ⟨0x1120, 0x01, .u32, .rw, .p, .config, [[]], 60, 10, 3600, [], 0xffffffff⟩

/-- 0x1120.02, U8 RO V: Sessions open, 0–32 (R443) -/
def o1120_02 : Obj := ⟨0x1120, 0x02, .u8, .ro, .v, .capacity, [[]], 0, 0, 255, [], 255⟩

/-- 0x1120.03, U16 RO V: P values not yet durable (R428) (R443) -/
def o1120_03 : Obj := ⟨0x1120, 0x03, .u16, .ro, .v, .capacity, [[]], 0, 0, 0xffff, [], 0xffff⟩

/-- 0x1120.04, U32 RW P: Events per session per second, 100–100,000 (R443) -/
def o1120_04 : Obj := ⟨0x1120, 0x04, .u32, .rw, .p, .config, [[]], 0x2710, 100, 0x186a0, [], 0xffffffff⟩

/-- 0x1120.05, U16 RO V: Subscriptions in use, 0–256 (R443) -/
def o1120_05 : Obj := ⟨0x1120, 0x05, .u16, .ro, .v, .capacity, [[]], 0, 0, 0xffff, [], 0xffff⟩

/-- 0x1120.06, U32 RC V: Frames and records discarded since last read (R443) -/
def o1120_06 : Obj := ⟨0x1120, 0x06, .u32, .rc, .v, .counter, [[]], 0, 0, 0xffffffff, [], 0xffffffff⟩

/-- 0x1120.07, BLOB RO V: Session: transport, peer address or EID, role, role-table entry, requests executed (R443) -/
def o1120_07 : Obj := ⟨0x1120, 0x07, .blob, .ro, .v, .none, [[(40, 0, 31)]], 0, 0, 0, [], 0⟩

/-- 0x1120.08, BOOL WO V: End the session (R443) -/
def o1120_08 : Obj := ⟨0x1120, 0x08, .bool, .wo, .v, .none, [[(40, 0, 31)]], 0, 0, 1, [], 1⟩

/-- 0x1120.09, U32 RW P: SPDM heartbeat period, s, 1–255 (R443) -/
def o1120_09 : Obj := ⟨0x1120, 0x09, .u32, .rw, .p, .config, [[]], 10, 1, 255, [], 0xffffffff⟩

/-- 0x1130.01, BLOB RW; BOOT for RK00 P: SHA-384 digest of a requester key, 48 bytes (R443) -/
def o1130_01 : Obj := ⟨0x1130, 0x01, .blob, .rw, .p, .config, [[(41, 0, 15)]], 0, 0, 0xffffffffffffffffffffffffffffffffffffffffffffffffffffffffffffffffffffffffffffffffffffffffffffffff, [], 0xffffffffffffffffffffffffffffffffffffffffffffffffffffffffffffffffffffffffffffffffffffffffffffffff⟩

/-- 0x1130.02, ENUM8 RW; BOOT for RK00 P: Role: 0 none, 1 OBSERVER, 2 MANAGER, 3 OWNER (R443) -/
def o1130_02 : Obj := ⟨0x1130, 0x02, .enum8, .rw, .p, .config, [[(41, 0, 15)]], 0, 0, 3, [], 255⟩

/-- 0x1140.01, BLOB RW P: Owner certificate chain for SPDM slot 1, up to 65,536 bytes (R443) -/
def o1140_01 : Obj := ⟨0x1140, 0x01, .blob, .rw, .p, .config, [[]], 0, 0, 0, [], 0⟩

/-- 0x9000.01, U64 W1C S: Source status (Table FLT-5) (R472) -/
def o9000_01 : Obj := ⟨0x9000, 0x01, .u64, .w1c, .s, .sticky, [[(33, 0, 4095)]], 0, 0, 0xffffffffffffffff, [], 0xffffffffffffffff⟩

/-- 0x9000.02, U32 RC S: Faults reported, saturating (R472) -/
def o9000_02 : Obj := ⟨0x9000, 0x02, .u32, .rc, .s, .counter, [[(33, 0, 4095)]], 0, 0, 0xffffffff, [], 0xffffffff⟩

/-- 0x9000.03, BOOL RW P: Alarm enable (R472) -/
def o9000_03 : Obj := ⟨0x9000, 0x03, .bool, .rw, .p, .config, [[(33, 0, 4095)]], 1, 0, 1, [], 1⟩

/-- 0x9010.01, ENUM8 RW P: FAULT_N threshold: 0 corrected, 1 contained, 2 uncontained (R472) -/
def o9010_01 : Obj := ⟨0x9010, 0x01, .enum8, .rw, .p, .config, [[]], 1, 0, 2, [], 255⟩

/-- 0x9010.02, BOOL RO V: FAULT_N asserted (R472) -/
def o9010_02 : Obj := ⟨0x9010, 0x02, .bool, .ro, .v, .status, [[]], 0, 0, 1, [], 1⟩

/-- 0x9012.01, ENUM8 RW P: Alarm threshold, encoded as 0x9010.01 (R472) -/
def o9012_01 : Obj := ⟨0x9012, 0x01, .enum8, .rw, .p, .config, [[]], 1, 0, 2, [], 255⟩

/-- 0x9012.02, U32 RW P: Alarm minimum interval, µs, 10–60,000,000 (R472) -/
def o9012_02 : Obj := ⟨0x9012, 0x02, .u32, .rw, .p, .config, [[]], 1000, 10, 0x3938700, [], 0xffffffff⟩

/-- 0x9012.03, BLOB RC S: Alarm summary, 512 bytes, bit n for source n (R472) -/
def o9012_03 : Obj := ⟨0x9012, 0x03, .blob, .rc, .s, .none, [[]], 0, 0, 0xffffffffffffffffffffffffffffffffffffffffffffffffffffffffffffffffffffffffffffffffffffffffffffffffffffffffffffffffffffffffffffffffffffffffffffffffffffffffffffffffffffffffffffffffffffffffffffffffffffffffffffffffffffffffffffffffffffffffffffffffffffffffffffffffffffffffffffffffffffffffffffffffffffffffffffffffffffffffffffffffffffffffffffffffffffffffffffffffffffffffffffffffffffffffffffffffffffffffffffffffffffffffffffffffffffffffffffffffffffffffffffffffffffffffffffffffffffffffffffffffffffffffffffffffffffffffffffffffffffffffffffffffffffffffffffffffffffffffffffffffffffffffffffffffffffffffffffffffffffffffffffffffffffffffffffffffffffffffffffffffffffffffffffffffffffffffffffffffffffffffffffffffffffffffffffffffffffffffffffffffffffffffffffffffffffffffffffffffffffffffffffffffffffffffffffffffffffffffffffffffffffffffffffffffffffffffffffffffffffffffffffffffffffffffffffffffffffffffffffffffffffffffffffffffffffffffffffffffffffffffffffffffffffffffffffffffffffffffffffffffffffffffffffffffffffffffffffffffffffffffffffffffffffffffffffffff, [], 0xffffffffffffffffffffffffffffffffffffffffffffffffffffffffffffffffffffffffffffffffffffffffffffffffffffffffffffffffffffffffffffffffffffffffffffffffffffffffffffffffffffffffffffffffffffffffffffffffffffffffffffffffffffffffffffffffffffffffffffffffffffffffffffffffffffffffffffffffffffffffffffffffffffffffffffffffffffffffffffffffffffffffffffffffffffffffffffffffffffffffffffffffffffffffffffffffffffffffffffffffffffffffffffffffffffffffffffffffffffffffffffffffffffffffffffffffffffffffffffffffffffffffffffffffffffffffffffffffffffffffffffffffffffffffffffffffffffffffffffffffffffffffffffffffffffffffffffffffffffffffffffffffffffffffffffffffffffffffffffffffffffffffffffffffffffffffffffffffffffffffffffffffffffffffffffffffffffffffffffffffffffffffffffffffffffffffffffffffffffffffffffffffffffffffffffffffffffffffffffffffffffffffffffffffffffffffffffffffffffffffffffffffffffffffffffffffffffffffffffffffffffffffffffffffffffffffffffffffffffffffffffffffffffffffffffffffffffffffffffffffffffffffffffffffffffffffffffffffffffffffffffffffffffffffffffffff⟩

/-- 0x9012.04, BOOL RO V: ALERT_N asserted (R472) -/
def o9012_04 : Obj := ⟨0x9012, 0x04, .bool, .ro, .v, .status, [[]], 0, 0, 1, [], 1⟩

/-- 0x9020.01, BLOB RO S: Log entry (Table FLT-6) (R472) -/
def o9020_01 : Obj := ⟨0x9020, 0x01, .blob, .ro, .s, .none, [[(34, 0, 4095)]], 0, 0, 0xffffffffffffffffffffffffffffffff, [], 0xffffffffffffffffffffffffffffffff⟩

/-- 0x9020.02, U16 RW S: Read pointer, 0–4,095 (R472) -/
def o9020_02 : Obj := ⟨0x9020, 0x02, .u16, .rw, .s, .config, [[]], 0, 0, 4095, [], 0xffff⟩

/-- 0x9020.03, U16 RO S: Write pointer, 0–4,095 (R472) -/
def o9020_03 : Obj := ⟨0x9020, 0x03, .u16, .ro, .s, .none, [[]], 0, 0, 0xffff, [], 0xffff⟩

/-- 0x9020.04, U32 RC S: Words dropped with the ring full (R472) -/
def o9020_04 : Obj := ⟨0x9020, 0x04, .u32, .rc, .s, .counter, [[]], 0, 0, 0xffffffff, [], 0xffffffff⟩

/-- 0x9020.05, U16 RO S: Unread entries, 0–4,096 (R472) -/
def o9020_05 : Obj := ⟨0x9020, 0x05, .u16, .ro, .s, .capacity, [[]], 0, 0, 0xffff, [], 0xffff⟩

/-- 0x9030.01, BOOL RW P: Viral enable (R472) -/
def o9030_01 : Obj := ⟨0x9030, 0x01, .bool, .rw, .p, .config, [[(6, 0, 63)]], 0, 0, 1, [], 1⟩

/-- 0x9030.02, BOOL RO V: VCS viral (R472) -/
def o9030_02 : Obj := ⟨0x9030, 0x02, .bool, .ro, .v, .status, [[(6, 0, 63)]], 0, 0, 1, [], 1⟩

/-- 0x9040.01, BLOB RO S: Stop-press record (Table FLT-12, R597): reason, triggering word, timebase, collector-untrusted flag and sorts discarded; held by the management die on VSB and kept across a cold reset while VSB stays present (R472) -/
def o9040_01 : Obj := ⟨0x9040, 0x01, .blob, .ro, .s, .none, [[]], 0, 0, 0xffffffffffffffffffffffffffffffffffffffffffffffffffffffffffffffff, [], 0xffffffffffffffffffffffffffffffffffffffffffffffffffffffffffffffff⟩

/-- 0x9040.02, ENUM8 RO V: 0 running, 1 stop-press (R472) -/
def o9040_02 : Obj := ⟨0x9040, 0x02, .enum8, .ro, .v, .status, [[]], 0, 0, 255, [], 255⟩

/-- 0x9040.03, U32 RO S: Sorts discarded at stop-press step 5 (R472) -/
def o9040_03 : Obj := ⟨0x9040, 0x03, .u32, .ro, .s, .counter, [[]], 0, 0, 0xffffffff, [], 0xffffffff⟩

/-- 0x9040.04, U32 RO S: Words dropped while the collector is frozen (R472) -/
def o9040_04 : Obj := ⟨0x9040, 0x04, .u32, .ro, .s, .counter, [[]], 0, 0, 0xffffffff, [], 0xffffffff⟩

/-- 0x9050.01, ENUM8 RO V: 0 in service, 1 contained (R472) -/
def o9050_01 : Obj := ⟨0x9050, 0x01, .enum8, .ro, .v, .status, [[(2, 0, 7)]], 0, 0, 255, [], 255⟩

/-- 0x9050.02, U32 RC V: Answers discarded by a substitute quire (R463) (R472) -/
def o9050_02 : Obj := ⟨0x9050, 0x02, .u32, .rc, .v, .counter, [[(2, 0, 7)]], 0, 0, 0xffffffff, [], 0xffffffff⟩

/-- 0x9050.03, U32 RC V: Express sorts discarded from the quire's launch queues at a containment of another quire (R463) (R472) -/
def o9050_03 : Obj := ⟨0x9050, 0x03, .u32, .rc, .v, .counter, [[(2, 0, 7)]], 0, 0, 0xffffffff, [], 0xffffffff⟩

/-- 0xA000.01, ENUM8 RO V: 0 OFF, 1 CHECK, 2 PRECHARGE, 3 ON, 4 BLOCKED, 5 FAULT, 6 DAMAGED (R505) -/
def oA000_01 : Obj := ⟨0xA000, 0x01, .enum8, .ro, .v, .status, [[(42, 0, 1)]], 0, 0, 255, [], 255⟩

/-- 0xA000.02, U32 RO V: VIN, mV (R505) -/
def oA000_02 : Obj := ⟨0xA000, 0x02, .u32, .ro, .v, .none, [[(42, 0, 1)]], 0, 0, 0xffffffff, [], 0xffffffff⟩

/-- 0xA000.03, U32 RO V: Current, mA (R505) -/
def oA000_03 : Obj := ⟨0xA000, 0x03, .u32, .ro, .v, .none, [[(42, 0, 1)]], 0, 0, 0xffffffff, [], 0xffffffff⟩

/-- 0xA000.04, BOOL WO V: Clear FAULT (R505) -/
def oA000_04 : Obj := ⟨0xA000, 0x04, .bool, .wo, .v, .none, [[(42, 0, 1)]], 0, 0, 1, [], 1⟩

/-- 0xA000.05, BOOL RW P: Path enable (R505) -/
def oA000_05 : Obj := ⟨0xA000, 0x05, .bool, .rw, .p, .config, [[(42, 0, 1)]], 1, 0, 1, [], 1⟩

/-- 0xA000.06, U32 RO V: Fault timer accumulated, µs (R505) -/
def oA000_06 : Obj := ⟨0xA000, 0x06, .u32, .ro, .v, .none, [[(42, 0, 1)]], 0, 0, 0xffffffff, [], 0xffffffff⟩

/-- 0xA002.01, U32 RO V: Bulk voltage, mV (R505) -/
def oA002_01 : Obj := ⟨0xA002, 0x01, .u32, .ro, .v, .none, [[]], 0, 0, 0xffffffff, [], 0xffffffff⟩

/-- 0xA002.02, U32 RO V: Input power, mW, ±2 % (R505) -/
def oA002_02 : Obj := ⟨0xA002, 0x02, .u32, .ro, .v, .none, [[]], 0, 0, 0xffffffff, [], 0xffffffff⟩

/-- 0xA002.03, BOOL RO V: PWRGD asserted (R505) -/
def oA002_03 : Obj := ⟨0xA002, 0x03, .bool, .ro, .v, .status, [[]], 0, 0, 1, [], 1⟩

/-- 0xA004.01, BOOL RO V: VIN_WARN_N asserted (R505) -/
def oA004_01 : Obj := ⟨0xA004, 0x01, .bool, .ro, .v, .status, [[]], 0, 0, 1, [], 1⟩

/-- 0xA004.02, BOOL RW P: Send the power-loss message (R505) -/
def oA004_02 : Obj := ⟨0xA004, 0x02, .bool, .rw, .p, .config, [[(5, 0, 127)]], 1, 0, 1, [], 1⟩

/-- 0xA010.01, ENUM8 RO S: 0 OFF, 1 RAMP, 2 ON, 3 COOL, 4 LATCHED; kept across a warm reset (R520) (R505) -/
def oA010_01 : Obj := ⟨0xA010, 0x01, .enum8, .ro, .s, .status, [[(10, 0, 31)]], 0, 0, 255, [], 255⟩

/-- 0xA010.02, U16 RW P: Ramp rate, mV/ms, 100–12,000 (R505) -/
def oA010_02 : Obj := ⟨0xA010, 0x02, .u16, .rw, .p, .config, [[(10, 0, 31)]], 1200, 100, 0x2ee0, [], 0xffff⟩

/-- 0xA010.03, U16 RW P: Ramp-phase limit, mA, 500–20,000 (R505) -/
def oA010_03 : Obj := ⟨0xA010, 0x03, .u16, .rw, .p, .config, [[(10, 0, 31)]], 3000, 500, 0x4e20, [], 0xffff⟩

/-- 0xA010.04, U16 RW P: Steady limit, mA, 500–20,000 (R505) -/
def oA010_04 : Obj := ⟨0xA010, 0x04, .u16, .rw, .p, .config, [[(10, 0, 31)]], 6250, 500, 0x4e20, [], 0xffff⟩

/-- 0xA010.05, U32 RW P: Steady fault timer, µs, 100–50,000 (R505) -/
def oA010_05 : Obj := ⟨0xA010, 0x05, .u32, .rw, .p, .config, [[(10, 0, 31)]], 5000, 100, 0xc350, [], 0xffffffff⟩

/-- 0xA010.06, U32 RW P: Cool-down, ms, 100–60,000 (R505) -/
def oA010_06 : Obj := ⟨0xA010, 0x06, .u32, .rw, .p, .config, [[(10, 0, 31)]], 1000, 100, 0xea60, [], 0xffffffff⟩

/-- 0xA010.07, U8 RW P: Retries, 0–15 (R505) -/
def oA010_07 : Obj := ⟨0xA010, 0x07, .u8, .rw, .p, .config, [[(10, 0, 31)]], 3, 0, 15, [], 255⟩

/-- 0xA010.08, U16 RW P: Shunt, µΩ, 500–50,000 (R505) -/
def oA010_08 : Obj := ⟨0xA010, 0x08, .u16, .rw, .p, .config, [[(10, 0, 31)]], 5000, 500, 0xc350, [], 0xffff⟩

/-- 0xA010.09, U32 RO V: [31:16] output, mV; [15:0] current, mA (R505) -/
def oA010_09 : Obj := ⟨0xA010, 0x09, .u32, .ro, .v, .none, [[(10, 0, 31)]], 0, 0, 0xffffffff, [], 0xffffffff⟩

/-- 0xA010.0A, U8 RO V: Attempts (R505) -/
def oA010_0A : Obj := ⟨0xA010, 0x0A, .u8, .ro, .v, .none, [[(10, 0, 31)]], 0, 0, 255, [], 255⟩

/-- 0xA010.0B, BOOL WO V: Power on an unbound port's channel (R505) -/
def oA010_0B : Obj := ⟨0xA010, 0x0B, .bool, .wo, .v, .none, [[(10, 0, 31)]], 0, 0, 1, [], 1⟩

/-- 0xA010.0C, BOOL WO V: Clear LATCHED (R505) -/
def oA010_0C : Obj := ⟨0xA010, 0x0C, .bool, .wo, .v, .none, [[(10, 0, 31)]], 0, 0, 1, [], 1⟩

/-- 0xA020.01, U32 RW P: [31] VALID; [15:14] bus; [13:7] address; [2:0] group 0–3 (R505) -/
def oA020_01 : Obj := ⟨0xA020, 0x01, .u32, .rw, .p, .config, [[(5, 0, 127)]], 0, 0, 0xffffffff, [], 0x8000ff87⟩

/-- 0xB000.01, ENUM8 RW P: Reference mode, 0–3 (R493) (R505) -/
def oB000_01 : Obj := ⟨0xB000, 0x01, .enum8, .rw, .p, .config, [[]], 0, 0, 3, [], 255⟩

/-- 0xB000.02, ENUM8 RO V: 0 locked, 1 holdover, 2 relocking (R505) -/
def oB000_02 : Obj := ⟨0xB000, 0x02, .enum8, .ro, .v, .status, [[]], 0, 0, 255, [], 255⟩

/-- 0xB000.03, U16 RW P: Spread, ppm, 0–5,000 (R505) -/
def oB000_03 : Obj := ⟨0xB000, 0x03, .u16, .rw, .p, .config, [[]], 0, 0, 5000, [], 0xffff⟩

/-- 0xB000.04, ENUM8 RO V: Datapath divider in effect, 2 or 3 (R505) -/
def oB000_04 : Obj := ⟨0xB000, 0x04, .enum8, .ro, .v, .config, [[]], 2, 0, 255, [], 255⟩

/-- 0xB002.01, U32 RC V: Droop events since last read (R505) -/
def oB002_01 : Obj := ⟨0xB002, 0x01, .u32, .rc, .v, .counter, [[]], 0, 0, 0xffffffff, [], 0xffffffff⟩

/-- 0xB010.01, I32 RO V: Sensor temperature, m°C (R505) -/
def oB010_01 : Obj := ⟨0xB010, 0x01, .i32, .ro, .v, .none, [[(2, 0, 7)], [(32, 0, 0)]], 0, 0, 0xffffffff, [], 0xffffffff⟩

/-- 0xB010.02, I32 RO V: Sensor temperature, m°C (R505) -/
def oB010_02 : Obj := ⟨0xB010, 0x02, .i32, .ro, .v, .none, [[(2, 0, 7)], [(32, 0, 0)]], 0, 0, 0xffffffff, [], 0xffffffff⟩

/-- 0xB010.03, I32 RO V: Sensor temperature, m°C (R505) -/
def oB010_03 : Obj := ⟨0xB010, 0x03, .i32, .ro, .v, .none, [[(2, 0, 7)], [(32, 0, 0)]], 0, 0, 0xffffffff, [], 0xffffffff⟩

/-- 0xB010.04, I32 RO V: Sensor temperature, m°C (R505) -/
def oB010_04 : Obj := ⟨0xB010, 0x04, .i32, .ro, .v, .none, [[(2, 0, 7)], [(32, 0, 0)]], 0, 0, 0xffffffff, [], 0xffffffff⟩

/-- 0xB010.05, I32 RO V: Sensor temperature, m°C (R505) -/
def oB010_05 : Obj := ⟨0xB010, 0x05, .i32, .ro, .v, .none, [[(2, 0, 7)], [(32, 0, 0)]], 0, 0, 0xffffffff, [], 0xffffffff⟩

/-- 0xB010.06, I32 RO V: Sensor temperature, m°C (R505) -/
def oB010_06 : Obj := ⟨0xB010, 0x06, .i32, .ro, .v, .none, [[(2, 0, 7)], [(32, 0, 0)]], 0, 0, 0xffffffff, [], 0xffffffff⟩

/-- 0xB010.07, I32 RO V: Sensor temperature, m°C (R505) -/
def oB010_07 : Obj := ⟨0xB010, 0x07, .i32, .ro, .v, .none, [[(2, 0, 7)], [(32, 0, 0)]], 0, 0, 0xffffffff, [], 0xffffffff⟩

/-- 0xB010.08, I32 RO V: Sensor temperature, m°C (R505) -/
def oB010_08 : Obj := ⟨0xB010, 0x08, .i32, .ro, .v, .none, [[(2, 0, 7)], [(32, 0, 0)]], 0, 0, 0xffffffff, [], 0xffffffff⟩

/-- 0xB011.01, I32 RO V: Management die temperature, m°C (R505) -/
def oB011_01 : Obj := ⟨0xB011, 0x01, .i32, .ro, .v, .none, [[]], 0, 0, 0xffffffff, [], 0xffffffff⟩

/-- 0xB014.01, U8 RO V: Throttle: k of R501, or 1 for spine /3 (R505) -/
def oB014_01 : Obj := ⟨0xB014, 0x01, .u8, .ro, .v, .none, [[(2, 0, 7)], [(32, 0, 0)]], 0, 0, 255, [], 255⟩

/-- 0xB014.02, I32 RW P: THERM_N threshold, m°C, 60,000–100,000 (R505) -/
def oB014_02 : Obj := ⟨0xB014, 0x02, .i32, .rw, .p, .config, [[]], 0x17318, 0xea60, 0x186a0, [], 0xffffffff⟩

/-- 0xB016.01, BOOL RO V: Out of region (R505) -/
def oB016_01 : Obj := ⟨0xB016, 0x01, .bool, .ro, .v, .status, [[(2, 0, 7)]], 0, 0, 1, [], 1⟩

/-- 0xB016.02, U16 RO V: Core rail, mV (R505) -/
def oB016_02 : Obj := ⟨0xB016, 0x02, .u16, .ro, .v, .none, [[(2, 0, 7)], [(32, 0, 0)]], 0, 0, 0xffff, [], 0xffff⟩

/-- 0xB020.01, TIME64 RO S: Timebase; keeps counting through a warm reset (R497) (R505) -/
def oB020_01 : Obj := ⟨0xB020, 0x01, .time64, .ro, .s, .none, [[]], 0, 0, 0xffffffffffffffff, [], 0xffffffffffffffff⟩

/-- 0xB020.03, ENUM8 RW P: PTP: 0 off, 1 slave, 2 master (R505) -/
def oB020_03 : Obj := ⟨0xB020, 0x03, .enum8, .rw, .p, .config, [[]], 0, 0, 2, [], 255⟩

/-- 0xB020.04, ENUM8 RW P: PTP port: 0 MGMT0, 1 MGMT1 (R505) -/
def oB020_04 : Obj := ⟨0xB020, 0x04, .enum8, .rw, .p, .config, [[]], 0, 0, 1, [], 255⟩

/-- 0xB020.05, U8 RW P: PTP domain number (R505) -/
def oB020_05 : Obj := ⟨0xB020, 0x05, .u8, .rw, .p, .config, [[]], 0, 0, 255, [], 255⟩

/-- 0xB020.06, I32 RO V: Offset from master, ns (R505) -/
def oB020_06 : Obj := ⟨0xB020, 0x06, .i32, .ro, .v, .none, [[]], 0, 0, 0xffffffff, [], 0xffffffff⟩

/-- 0xB020.07, ENUM8 RO V: 0 unlocked, 1 locked, 2 holdover (R505) -/
def oB020_07 : Obj := ⟨0xB020, 0x07, .enum8, .ro, .v, .status, [[]], 0, 0, 255, [], 255⟩

/-- 0xB022.01, TIME64 RO V: Timebase at the last TSYNC_IN edge (R505) -/
def oB022_01 : Obj := ⟨0xB022, 0x01, .time64, .ro, .v, .none, [[]], 0, 0, 0xffffffffffffffff, [], 0xffffffffffffffff⟩

/-- 0xB022.02, ENUM8 RW P: TSYNC_IN: 0 off, 1 capture, 2 capture and align (R505) -/
def oB022_02 : Obj := ⟨0xB022, 0x02, .enum8, .rw, .p, .config, [[]], 0, 0, 2, [], 255⟩

/-- 0xB022.03, U32 RW P: TSYNC_OUT period, µs, 1–1,000,000; 0 off (R505) -/
def oB022_03 : Obj := ⟨0xB022, 0x03, .u32, .rw, .p, .config, [[]], 0xf4240, 1, 0xf4240, [0], 0xffffffff⟩

/-- 0xB022.04, U32 RW P: TSYNC_OUT width, ns, 8 to half the period (R505) -/
def oB022_04 : Obj := ⟨0xB022, 0x04, .u32, .rw, .p, .config, [[]], 1000, 8, 0xffffffff, [], 0xffffffff⟩

/-- 0xD000.01, BOOL WO V: Warm reset (R531) -/
def oD000_01 : Obj := ⟨0xD000, 0x01, .bool, .wo, .v, .none, [[]], 0, 0, 1, [], 1⟩

/-- 0xD000.02, BOOL WO V: Cold reset (R531) -/
def oD000_02 : Obj := ⟨0xD000, 0x02, .bool, .wo, .v, .none, [[]], 0, 0, 1, [], 1⟩

/-- 0xD000.03, ENUM8 RO V: 0 BOOT, 1 SERVICE, 2 PROOF, 3 STOP_PRESS (R531) -/
def oD000_03 : Obj := ⟨0xD000, 0x03, .enum8, .ro, .v, .status, [[]], 0, 0, 255, [], 255⟩

/-- 0xD000.04, U32 RO S: Last boot time to step 9, µs (R531) -/
def oD000_04 : Obj := ⟨0xD000, 0x04, .u32, .ro, .s, .none, [[]], 0, 0, 0xffffffff, [], 0xffffffff⟩

/-- 0xD000.05, ENUM8 RO S: Last reset cause: 0 power-on, 1 RESET_N, 2 0xD000.01, 3 0xD000.02, 4 boot deadline, 5 watchdog, 6 thermal shutdown (R531) -/
def oD000_05 : Obj := ⟨0xD000, 0x05, .enum8, .ro, .s, .status, [[]], 0, 0, 255, [], 255⟩

/-- 0xD002.01, BOOL WO V: VCS hot reset (R531) -/
def oD002_01 : Obj := ⟨0xD002, 0x01, .bool, .wo, .v, .none, [[(6, 0, 63)]], 0, 0, 1, [], 1⟩

/-- 0xD002.02, ENUM8 WO V: Port link reset: 0 retrain, 1 hot reset, 2 PERST pulse (R531) -/
def oD002_02 : Obj := ⟨0xD002, 0x02, .enum8, .wo, .v, .none, [[(5, 0, 127)]], 0, 0, 255, [], 255⟩

/-- 0xD002.03, BOOL WO V: Cluster reset (R531) -/
def oD002_03 : Obj := ⟨0xD002, 0x03, .bool, .wo, .v, .none, [[(8, 0, 11)]], 0, 0, 1, [], 1⟩

/-- 0xD002.04, BOOL WO V: Engine reset (R531) -/
def oD002_04 : Obj := ⟨0xD002, 0x04, .bool, .wo, .v, .none, [[(9, 0, 191)]], 0, 0, 1, [], 1⟩

/-- 0xD010.01, ENUM8 RW P: Preferred slot: 0 A, 1 B (R531) -/
def oD010_01 : Obj := ⟨0xD010, 0x01, .enum8, .rw, .p, .config, [[]], 0, 0, 1, [], 255⟩

/-- 0xD010.02, BLOB RO V: Headers of loader, runtime and boot configuration in slot A (R531) -/
def oD010_02 : Obj := ⟨0xD010, 0x02, .blob, .ro, .v, .none, [[]], 0, 0, 0, [], 0⟩

/-- 0xD010.03, BLOB RO V: As 0xD010.02, slot B (R531) -/
def oD010_03 : Obj := ⟨0xD010, 0x03, .blob, .ro, .v, .none, [[]], 0, 0, 0, [], 0⟩

/-- 0xD010.04, ENUM8 RO V: Slot A: 0 empty, 1 valid, 2 invalid (R531) -/
def oD010_04 : Obj := ⟨0xD010, 0x04, .enum8, .ro, .v, .status, [[]], 0, 0, 255, [], 255⟩

/-- 0xD010.05, ENUM8 RO V: Slot B, as 0xD010.04 (R531) -/
def oD010_05 : Obj := ⟨0xD010, 0x05, .enum8, .ro, .v, .status, [[]], 0, 0, 255, [], 255⟩

/-- 0xD010.06, ENUM8 RO V: Running: 0 A, 1 B, 2 boot ROM recovery (R531) -/
def oD010_06 : Obj := ⟨0xD010, 0x06, .enum8, .ro, .v, .status, [[]], 0, 0, 255, [], 255⟩

/-- 0xD010.07, U16 RO P: Minimum SVN (R531) [DESIGN CHOICE, log 10] -/
def oD010_07 : Obj := ⟨0xD010, 0x07, .u16, .ro, .p, .none, [[]], 0, 0, 0xffff, [], 0xffff⟩

/-- 0xD010.08, BOOL WO V: Fuse the minimum SVN to the running runtime's SVN (R531) -/
def oD010_08 : Obj := ⟨0xD010, 0x08, .bool, .wo, .v, .none, [[]], 0, 0, 1, [], 1⟩

/-- 0xD010.09, U8 RO P: Revoked Genelxus keys, bit per key (R531) [DESIGN CHOICE, log 10] -/
def oD010_09 : Obj := ⟨0xD010, 0x09, .u8, .ro, .p, .none, [[]], 0, 0, 255, [], 255⟩

/-- 0xD020.01, BLOB WO V: Image staging, up to 16 MB (R531) -/
def oD020_01 : Obj := ⟨0xD020, 0x01, .blob, .wo, .v, .none, [[]], 0, 0, 0, [], 0⟩

/-- 0xD020.02, ENUM8 WO V: 1 verify and install to the slot not running; 2 roll (R525) (R531) -/
def oD020_02 : Obj := ⟨0xD020, 0x02, .enum8, .wo, .v, .none, [[]], 0, 0, 255, [], 255⟩

/-- 0xD020.03, ENUM8 RO V: 0 idle, 1 running, 2 done, 3 invalid image, 4 flash error, 5 reverted (R531) -/
def oD020_03 : Obj := ⟨0xD020, 0x03, .enum8, .ro, .v, .status, [[]], 0, 0, 255, [], 255⟩

/-- 0xD030.01, U8 RO S: Boot-failure count; held by the management die on VSB and kept across warm and cold resets while VSB stays present (R513) (R531) -/
def oD030_01 : Obj := ⟨0xD030, 0x01, .u8, .ro, .s, .counter, [[]], 0, 0, 255, [], 255⟩

/-- 0xD030.02, BOOL WO V: Clear the count (R531) -/
def oD030_02 : Obj := ⟨0xD030, 0x02, .bool, .wo, .v, .none, [[]], 0, 0, 1, [], 1⟩

/-- 0xD040.01, ENUM8 RO S: Proof reason: 0 none, 1 failed boots, 2 no valid image, 3 commanded, 4 retired (R531) -/
def oD040_01 : Obj := ⟨0xD040, 0x01, .enum8, .ro, .s, .status, [[]], 0, 0, 255, [], 255⟩

/-- 0xD040.02, U8 RW P: Recovery port, 0–127 (R531) -/
def oD040_02 : Obj := ⟨0xD040, 0x02, .u8, .rw, .p, .config, [[]], 0, 0, 127, [], 255⟩

/-- 0xD040.03, BOOL WO V: Enter proof mode, reason 3, at the next reset (R531) -/
def oD040_03 : Obj := ⟨0xD040, 0x03, .bool, .wo, .v, .none, [[]], 0, 0, 1, [], 1⟩

/-- 0xD050.01, ENUM8 RO V: 0 MANUFACTURE, 1 PRODUCTION, 2 DEBUG_UNLOCK, 3 RETIRED (R531) [DESIGN CHOICE, log 10] -/
def oD050_01 : Obj := ⟨0xD050, 0x01, .enum8, .ro, .v, .status, [[]], 1, 0, 255, [], 255⟩

/-- 0xD050.02, BLOB RO V: Debug challenge, 48 bytes (R531) -/
def oD050_02 : Obj := ⟨0xD050, 0x02, .blob, .ro, .v, .none, [[]], 0, 0, 0xffffffffffffffffffffffffffffffffffffffffffffffffffffffffffffffffffffffffffffffffffffffffffffffff, [], 0xffffffffffffffffffffffffffffffffffffffffffffffffffffffffffffffffffffffffffffffffffffffffffffffff⟩

/-- 0xD050.03, BLOB WO V: Debug token (R517) (R531) -/
def oD050_03 : Obj := ⟨0xD050, 0x03, .blob, .wo, .v, .none, [[]], 0, 0, 0xffffffffffffffffffffffffffffffffffffffffffffffffffffffffffffffffffffffffffffffffffffffffffffffffffffffffffffffffffffffffffffffffffffffffffffffffffffffffffffffffffffffffffffffffffffffffffffffff, [], 0xffffffffffffffffffffffffffffffffffffffffffffffffffffffffffffffffffffffffffffffffffffffffffffffffffffffffffffffffffffffffffffffffffffffffffffffffffffffffffffffffffffffffffffffffffffffffffffffff⟩

/-- 0xD050.04, U32 WO V: Retire; only 0x5245_5449 accepted (R531) -/
def oD050_04 : Obj := ⟨0xD050, 0x04, .u32, .wo, .v, .none, [[]], 0, 0, 0xffffffff, [], 0xffffffff⟩

/-- 0xD050.05, ENUM8 RW P: Debug authority: 0 Genelxus key, 1 owner keys, 2 either, 3 none (R531) -/
def oD050_05 : Obj := ⟨0xD050, 0x05, .enum8, .rw, .p, .config, [[]], 0, 0, 3, [], 255⟩

/-- 0xD060.01, ENUM8 WO V: 1 offline, 2 return (R531) -/
def oD060_01 : Obj := ⟨0xD060, 0x01, .enum8, .wo, .v, .none, [[(3, 0, 31)], [(2, 0, 7)], [(8, 0, 11)]], 0, 0, 255, [], 255⟩

/-- 0xD060.02, ENUM8 RO V: 0 IN_SERVICE, 1 DRAINING, 2 OFFLINE, 3 RETURNING, 4 CONTAINED (R531) -/
def oD060_02 : Obj := ⟨0xD060, 0x02, .enum8, .ro, .v, .status, [[(3, 0, 31)], [(2, 0, 7)], [(8, 0, 11)]], 0, 0, 255, [], 255⟩

/-- 0xD060.03, U32 RW P: Quire drain limit, ms, 10–10,000 (R531) -/
def oD060_03 : Obj := ⟨0xD060, 0x03, .u32, .rw, .p, .config, [[]], 100, 10, 0x2710, [], 0xffffffff⟩

/-- 0xD070.01, U32 RW P: Heartbeat period, µs, 100–100,000 (R531) -/
def oD070_01 : Obj := ⟨0xD070, 0x01, .u32, .rw, .p, .config, [[]], 1000, 100, 0x186a0, [], 0xffffffff⟩

/-- 0xD070.02, ENUM8 RO V: HB_IN: 0 not seen, 1 alive, 2 lost (R531) -/
def oD070_02 : Obj := ⟨0xD070, 0x02, .enum8, .ro, .v, .status, [[]], 0, 0, 255, [], 255⟩

/-- 0xD070.03, U32 RW P: Watchdog period, ms, 100–10,000 (R531) -/
def oD070_03 : Obj := ⟨0xD070, 0x03, .u32, .rw, .p, .config, [[]], 500, 100, 0x2710, [], 0xffffffff⟩

/-- 0xD070.04, BOOL WO V: Watchdog refresh; Rirath only (R531) -/
def oD070_04 : Obj := ⟨0xD070, 0x04, .bool, .wo, .v, .none, [[]], 0, 0, 1, [], 1⟩

/-- 0xC000.01, U64 RO V: Live counter word (Table CNT-3) (R546) -/
def oC000_01 : Obj := ⟨0xC000, 0x01, .u64, .ro, .v, .none, [[(35, 0, 13311)]], 0, 0, 0xffffffffffffffff, [], 0xffffffffffffffff⟩

/-- 0xC000.02, STR RO V: Event name, unit path and weight (R546) -/
def oC000_02 : Obj := ⟨0xC000, 0x02, .str, .ro, .v, .none, [[(35, 0, 13311)]], 0, 0, 0, [], 0⟩

/-- 0xC000.03, U32 RO S: Reset epoch (R534) (R546) -/
def oC000_03 : Obj := ⟨0xC000, 0x03, .u32, .ro, .s, .counter, [[]], 0, 0, 0xffffffff, [], 0xffffffff⟩

/-- 0xC010.01, U8 RW P: Bank tie, shadow, 0–63 (R546) -/
def oC010_01 : Obj := ⟨0xC010, 0x01, .u8, .rw, .p, .config, [[(35, 0, 13311)]], 0, 0, 63, [], 255⟩

/-- 0xC010.02, U8 RO V: Bank tie in effect (R546) -/
def oC010_02 : Obj := ⟨0xC010, 0x02, .u8, .ro, .v, .config, [[(35, 0, 13311)]], 0, 0, 255, [], 255⟩

/-- 0xC020.01, BLOB RW P: Filter bank, shadow (R546) -/
def oC020_01 : Obj := ⟨0xC020, 0x01, .blob, .rw, .p, .config, [[(36, 1, 63)]], 0x3fe000000000000000000000000000, 0, 0xffffffffffffffffffffffffffffffffffffffffffffffffffffffffffffffff, [], 0xfffffffffffffffffffffffffffffffffffff800000000000000000000000000⟩

/-- 0xC020.02, BLOB RO V: Filter bank in effect (R546) -/
def oC020_02 : Obj := ⟨0xC020, 0x02, .blob, .ro, .v, .config, [[(36, 0, 63)]], 0x3fe000000000000000000000000000, 0, 0xffffffffffffffffffffffffffffffffffffffffffffffffffffffffffffffff, [], 0xffffffffffffffffffffffffffffffffffffffffffffffffffffffffffffffff⟩

/-- 0xC020.03, BOOL WO V: Commit banks and ties (R537) (R546) -/
def oC020_03 : Obj := ⟨0xC020, 0x03, .bool, .wo, .v, .none, [[]], 0, 0, 1, [], 1⟩

/-- 0xC020.04, ENUM8 RO V: 0 idle, 1 pending (R546) -/
def oC020_04 : Obj := ⟨0xC020, 0x04, .enum8, .ro, .v, .status, [[]], 0, 0, 255, [], 255⟩

/-- 0xC030.01, BOOL WO V: Trigger a snapshot (R546) -/
def oC030_01 : Obj := ⟨0xC030, 0x01, .bool, .wo, .v, .none, [[]], 0, 0, 1, [], 1⟩

/-- 0xC030.02, U32 RW P: Snapshot period, µs, 10–60,000,000; 0 off (R546) -/
def oC030_02 : Obj := ⟨0xC030, 0x02, .u32, .rw, .p, .config, [[]], 0, 10, 0x3938700, [0], 0xffffffff⟩

/-- 0xC030.03, U16 RO V: SNAPSEQ, 0–32,767 (R546) -/
def oC030_03 : Obj := ⟨0xC030, 0x03, .u16, .ro, .v, .none, [[]], 0, 0, 0xffff, [], 0xffff⟩

/-- 0xC030.04, TIME64 RO V: T of the last snapshot (R546) -/
def oC030_04 : Obj := ⟨0xC030, 0x04, .time64, .ro, .v, .none, [[]], 0, 0, 0xffffffffffffffff, [], 0xffffffffffffffff⟩

/-- 0xC030.05, BITS32 RO V: Reasons: [0] period, [1] object write, [2] bank commit (R546) -/
def oC030_05 : Obj := ⟨0xC030, 0x05, .bits32, .ro, .v, .none, [[]], 0, 0, 0xffffffff, [], 0xffffffff⟩

/-- 0xC040.01, U64 RO V: Shadow counter word (Table CNT-3) (R546) -/
def oC040_01 : Obj := ⟨0xC040, 0x01, .u64, .ro, .v, .none, [[(35, 0, 13311)]], 0, 0, 0xffffffffffffffff, [], 0xffffffffffffffff⟩

/-- 0xC040.02, BLOB RO V: All shadow words of the unit (R546) -/
def oC040_02 : Obj := ⟨0xC040, 0x02, .blob, .ro, .v, .none, [[(2, 0, 7)], [(32, 0, 0)]], 0, 0, 0, [], 0⟩

/-- 0xC050.01, U8 RW P: Tag exponent n, 4–24; 0 off (R546) -/
def oC050_01 : Obj := ⟨0xC050, 0x01, .u8, .rw, .p, .config, [[(2, 0, 7)]], 0, 4, 24, [0], 255⟩

/-- 0xC050.02, U8 RW P: Sampling bank, 0–63 (R546) -/
def oC050_02 : Obj := ⟨0xC050, 0x02, .u8, .rw, .p, .config, [[(2, 0, 7)]], 0, 0, 63, [], 255⟩

/-- 0xC050.03, U32 RW P: Trace timeout, µs, 10–10,000 (R546) -/
def oC050_03 : Obj := ⟨0xC050, 0x03, .u32, .rw, .p, .config, [[]], 1000, 10, 0x2710, [], 0xffffffff⟩

/-- 0xC050.04, U32 RW P: LFSR seed, applied at the next reset; 0 refused (R546) -/
def oC050_04 : Obj := ⟨0xC050, 0x04, .u32, .rw, .p, .config, [[(2, 0, 7)]], 1, 1, 0xffffffff, [], 0xffffffff⟩

/-- 0xC050.05, BLOB RO V: Trace record (Table CNT-5) (R546) -/
def oC050_05 : Obj := ⟨0xC050, 0x05, .blob, .ro, .v, .none, [[(37, 0, 4095)]], 0, 0, 0xffffffffffffffffffffffffffffffffffffffffffffffffffffffffffffffffffffffffffffffffffffffffffffffffffffffffffffffffffffffffffffffffffffffffffffffffffffffffffffffffffffffffffffffffffffffffffffffff, [], 0xffffffffffffffffffffffffffffffffffffffffffffffffffffffffffffffffffffffffffffffffffffffffffffffffffffffffffffffffffffffffffffffffffffffffffffffffffffffffffffffffffffffffffffffffffffffffffffffff⟩

/-- 0xC050.06, U16 RW S: Trace read pointer, 0–4,095 (R546) -/
def oC050_06 : Obj := ⟨0xC050, 0x06, .u16, .rw, .s, .config, [[]], 0, 0, 4095, [], 0xffff⟩

/-- 0xC050.07, U16 RO S: Trace write pointer, 0–4,095 (R546) -/
def oC050_07 : Obj := ⟨0xC050, 0x07, .u16, .ro, .s, .none, [[]], 0, 0, 0xffff, [], 0xffff⟩

/-- 0xC050.08, U16 RO V: Records unread or open, 0–4,096 (R546) -/
def oC050_08 : Obj := ⟨0xC050, 0x08, .u16, .ro, .v, .capacity, [[]], 0, 0, 0xffff, [], 0xffff⟩

/-- 0xE000.01, U16 RO V: [15:8] last refused instruction; [7:0] instruction in effect (R581) -/
def oE000_01 : Obj := ⟨0xE000, 0x01, .u16, .ro, .v, .none, [[]], 1, 0, 0xffff, [], 0xffff⟩

/-- 0xE000.02, U32 RO V: IDCODE (R581) -/
def oE000_02 : Obj := ⟨0xE000, 0x02, .u32, .ro, .v, .none, [[]], 0xb9512c4d, 0, 0xffffffff, [], 0xffffffff⟩

/-- 0xE000.03, U32 RC V: Instructions refused since last read (R581) -/
def oE000_03 : Obj := ⟨0xE000, 0x03, .u32, .rc, .v, .counter, [[]], 0, 0, 0xffffffff, [], 0xffffffff⟩

/-- 0xE010.01, BOOL WO V: Start a self-test (Table TST-2) (R581) -/
def oE010_01 : Obj := ⟨0xE010, 0x01, .bool, .wo, .v, .none, [[(2, 0, 7)], [(2, 0, 7), (43, 0, 0)], [(8, 0, 11)], [(9, 0, 191)], [(32, 0, 0)]], 0, 0, 1, [], 1⟩

/-- 0xE010.02, U64 RO S: Self-test result (Table TST-3) (R581) -/
def oE010_02 : Obj := ⟨0xE010, 0x02, .u64, .ro, .s, .none, [[(2, 0, 7)], [(2, 0, 7), (43, 0, 0)], [(8, 0, 11)], [(9, 0, 191)], [(32, 0, 0)]], 0, 0, 0xffffffffffffffff, [], 0xffffffffffffffff⟩

/-- 0xE010.03, U16 RO V: Spare rows remaining in the unit (R581) [DESIGN CHOICE, log 10] -/
def oE010_03 : Obj := ⟨0xE010, 0x03, .u16, .ro, .v, .capacity, [[(2, 0, 7)], [(2, 0, 7), (43, 0, 0)], [(8, 0, 11)], [(9, 0, 191)], [(32, 0, 0)]], 0, 0, 0xffff, [], 0xffff⟩

/-- 0xE020.01, U32 RC V: Debug accesses completed since last read (R581) -/
def oE020_01 : Obj := ⟨0xE020, 0x01, .u32, .rc, .v, .counter, [[]], 0, 0, 0xffffffff, [], 0xffffffff⟩

/-- 0xE020.02, BOOL RO V: DBG_ACCESS loaded since the last Test-Logic-Reset (R581) -/
def oE020_02 : Obj := ⟨0xE020, 0x02, .bool, .ro, .v, .status, [[]], 0, 0, 1, [], 1⟩
/-- Part 0 of the dictionary, in the order of the chapters. -/
def dictionary0 : List Obj :=
  [o2010_01, o2010_02, o2011_00, o2020_01, o2020_02, o2020_03, o4100_01, o4100_02,
   o4100_03, o4100_04, o4100_05, o4110_01, o4110_02, o4110_03, o4110_04, o4110_05,
   o4180_01, o4200_01, o4200_02, o4200_03, o4200_04, o4200_05, o4200_06, o4200_07,
   o4200_08, o4200_09, o5010_01, o5010_02, o4020_01, o4020_02, o4022_01, o4022_02,
   o4022_03, o4022_04, o4024_01, o4024_02, o4024_03, o4030_01, o4030_02, o4030_03,
   o4030_04, o4032_01, o4032_02, o4032_03, o4032_04, o4032_05, o4034_01, o4034_02,
   o4034_03, o4034_04, o4034_05, o4034_06, o4038_01, o403A_01, o403A_02, o403A_03,
   o403C_01, o4040_01, o4040_02, o4040_03]

/-- Part 1 of the dictionary, in the order of the chapters. -/
def dictionary1 : List Obj :=
  [o4040_04, o4040_05, o4040_06, o4040_07, o4040_08, o4040_09, o4042_01, o4042_02,
   o4042_03, o4042_04, o4044_01, o4044_02, o4044_03, o4044_04, o4046_01, o4046_02,
   o4046_03, o4048_01, o4048_02, o4048_03, o4048_04, o4048_05, o4048_06, o4048_07,
   o5020_01, o5020_02, o5022_01, o5022_02, o5022_03, o5022_04, o5030_01, o5030_03,
   o5030_04, o5030_05, o5030_06, o5030_07, o5040_01, o5040_02, o5040_03, o5040_04,
   o5042_01, o5042_02, o5100_01, o5100_02, o5100_03, o5100_04, o5100_05, o5110_01,
   o5110_02, o5120_01, o5120_02, o5120_03, o5120_04, o5120_05, o5120_06, o5120_07,
   o5120_08, o5130_01, o5130_02, o5140_01]

/-- Part 2 of the dictionary, in the order of the chapters. -/
def dictionary2 : List Obj :=
  [o5140_02, o5200_01, o5200_02, o5210_01, o5210_02, o5210_03, o5210_04, o5210_05,
   o5220_01, o5220_02, o5220_03, o5220_04, o5220_05, o5230_01, o5230_02, o5230_03,
   o5230_04, o5230_05, o5230_06, o5230_07, o5240_01, o5240_02, o5240_03, o6000_01,
   o6001_00, o6001_01, o6001_02, o6010_01, o6010_02, o6012_01, o6012_02, o6012_03,
   o6020_01, o6020_02, o6020_03, o6020_04, o6030_01, o6030_02, o3000_01, o3000_02,
   o3000_03, o3000_04, o3000_05, o3000_06, o3000_07, o3000_08, o3010_01, o3010_02,
   o3010_03, o3012_01, o3012_02, o3012_03, o3014_01, o3014_02, o3014_03, o3020_01,
   o3020_02, o3020_03, o3020_04, o3020_05]

/-- Part 3 of the dictionary, in the order of the chapters. -/
def dictionary3 : List Obj :=
  [o3022_01, o3022_02, o3030_01, o3030_02, o3030_03, o3030_04, o3030_05, o3030_06,
   o3030_07, o3030_08, o3030_09, o3030_0A, o2100_01, o2100_02, o2100_03, o2100_04,
   o2100_05, o2100_06, o2110_01, o2110_02, o2110_03, o2110_04, o2110_05, o2110_06,
   o2110_07, o2110_08, o2110_09, o2110_0A, o2120_01, o2120_02, o2130_01, o2130_02,
   o2130_03, o2130_04, o2130_05, o2130_06, o2130_07, o2140_01, o4400_01, o4400_02,
   o4400_03, o4400_04, o4400_05, o4410_01, o4410_02, o4420_01, o4420_02, o4420_03,
   o4430_01, o4440_01, o4450_01, o8000_01, o8000_02, o8000_03, o8000_04, o8000_05,
   o8000_06, o8010_01, o8010_02, o8020_01]

/-- Part 4 of the dictionary, in the order of the chapters. -/
def dictionary4 : List Obj :=
  [o8020_02, o8030_01, o7000_01, o7000_02, o7000_04, o7010_01, o7010_02, o7020_01,
   o7022_01, o7030_01, o7030_02, o7030_03, o7040_01, o7040_02, o7050_01, o7050_02,
   o7050_03, o7050_04, o7050_05, o7050_06, o7050_07, o7050_08, o7060_01, o1000_01,
   o1000_02, o1001_00, o1002_00, o1003_00, o1004_00, o1005_00, o1100_01, o1100_02,
   o1100_03, o1100_04, o1100_05, o1100_06, o1100_07, o1100_08, o1110_01, o1110_02,
   o1110_03, o1120_01, o1120_02, o1120_03, o1120_04, o1120_05, o1120_06, o1120_07,
   o1120_08, o1120_09, o1130_01, o1130_02, o1140_01, o9000_01, o9000_02, o9000_03,
   o9010_01, o9010_02, o9012_01, o9012_02]

/-- Part 5 of the dictionary, in the order of the chapters. -/
def dictionary5 : List Obj :=
  [o9012_03, o9012_04, o9020_01, o9020_02, o9020_03, o9020_04, o9020_05, o9030_01,
   o9030_02, o9040_01, o9040_02, o9040_03, o9040_04, o9050_01, o9050_02, o9050_03,
   oA000_01, oA000_02, oA000_03, oA000_04, oA000_05, oA000_06, oA002_01, oA002_02,
   oA002_03, oA004_01, oA004_02, oA010_01, oA010_02, oA010_03, oA010_04, oA010_05,
   oA010_06, oA010_07, oA010_08, oA010_09, oA010_0A, oA010_0B, oA010_0C, oA020_01,
   oB000_01, oB000_02, oB000_03, oB000_04, oB002_01, oB010_01, oB010_02, oB010_03,
   oB010_04, oB010_05, oB010_06, oB010_07, oB010_08, oB011_01, oB014_01, oB014_02,
   oB016_01, oB016_02, oB020_01, oB020_03]

/-- Part 6 of the dictionary, in the order of the chapters. -/
def dictionary6 : List Obj :=
  [oB020_04, oB020_05, oB020_06, oB020_07, oB022_01, oB022_02, oB022_03, oB022_04,
   oD000_01, oD000_02, oD000_03, oD000_04, oD000_05, oD002_01, oD002_02, oD002_03,
   oD002_04, oD010_01, oD010_02, oD010_03, oD010_04, oD010_05, oD010_06, oD010_07,
   oD010_08, oD010_09, oD020_01, oD020_02, oD020_03, oD030_01, oD030_02, oD040_01,
   oD040_02, oD040_03, oD050_01, oD050_02, oD050_03, oD050_04, oD050_05, oD060_01,
   oD060_02, oD060_03, oD070_01, oD070_02, oD070_03, oD070_04, oC000_01, oC000_02,
   oC000_03, oC010_01, oC010_02, oC020_01, oC020_02, oC020_03, oC020_04, oC030_01,
   oC030_02, oC030_03, oC030_04, oC030_05]

/-- Part 7 of the dictionary, in the order of the chapters. -/
def dictionary7 : List Obj :=
  [oC040_01, oC040_02, oC050_01, oC050_02, oC050_03, oC050_04, oC050_05, oC050_06,
   oC050_07, oC050_08, oE000_01, oE000_02, oE000_03, oE010_01, oE010_02, oE010_03,
   oE020_01, oE020_02]

/-- Every object of the object tables (15 R421). -/
def dictionary : List Obj :=
  dictionary0 ++ dictionary1 ++ dictionary2 ++ dictionary3 ++ dictionary4 ++ dictionary5 ++ dictionary6 ++ dictionary7

/-- The default of an instance, where the table gives it per instance: the credits of 0x2100.01 by class (11 Table LNK-7),
the mode-0 key map (05 R139), run control on for K8-K11 (14), the role of RK00 (15), the BAR4 share of 0x4400.05 and the
first engine of a cluster (14). -/
def objDefault (o : Obj) (p : Path) : Nat :=
  if o.code = 0x404002 ∨ o.code = 0x404009 then
    let k := pathNum 18 p
    if k < 512 then 4 * (k / 8) + k % 8 / 2 else 255
  else if o.code = 0x210001 then
    match pathNum 27 p with
    | 0 => 128 | 1 => 192 | 2 => 96 | 3 => 128 | 4 => 448 | _ => 32
  else if o.code = 0x700004 then (if 128 ≤ pathNum 9 p then 1 else 0)
  else if o.code = 0x702201 then 16 * pathNum 8 p
  else if o.code = 0x440005 then 64 * pathNum 6 p
  else if o.code = 0x113002 then (if pathNum 41 p = 0 then 3 else 0)
  else o.dflt

end Sys2Proof.Machine
end

