-- ==== Sys2Proof/Machine/Tables.lean ====
section
/-!
DEFINITION. Reading and writing a sparse table in its canonical form.
-/
namespace Sys2Proof

/-- The value at a key; the default where none is listed. -/
def Tbl.look {α : Type} (d : α) : Tbl α → Nat → α
  | [], _ => d
  | e :: t, k => if e.1 = k then e.2 else Tbl.look d t k

/-- An entry put in its place by its key. -/
def Tbl.ins {α : Type} (k : Nat) (v : α) : Tbl α → Tbl α
  | [] => [(k, v)]
  | e :: t => if k < e.1 then (k, v) :: e :: t else e :: Tbl.ins k v t

/-- The table with a value at a key: the order is kept, and the default value is not listed. -/
def Tbl.upd {α : Type} [DecidableEq α] (d : α) (t : Tbl α) (k : Nat) (v : α) : Tbl α :=
  if v = d then t.filter fun e => e.1 != k else Tbl.ins k v (t.filter fun e => e.1 != k)

/-- The canonical form: keys strictly rising, no entry at the default. -/
def Tbl.wf {α : Type} [DecidableEq α] (d : α) : Tbl α → Bool
  | [] => true
  | [e] => decide (e.2 ≠ d)
  | e :: f :: t => decide (e.2 ≠ d) && decide (e.1 < f.1) && Tbl.wf d (f :: t)

/-- The value at a key replaced by a function of it. -/
def Tbl.mod {α : Type} [DecidableEq α] (d : α) (t : Tbl α) (k : Nat) (f : α → α) : Tbl α :=
  Tbl.upd d t k (f (Tbl.look d t k))

/-- The first element that meets a test, and the list without it. -/
def takeFirst {α : Type} (p : α → Bool) : List α → Option (α × List α)
  | [] => none
  | x :: r =>
    if p x then some (x, r)
    else match takeFirst p r with
      | some (y, r') => some (y, x :: r')
      | none => none

end Sys2Proof
end

