-- ==== Sys2Proof/Machine/Ops.lean ====
section
/-!
DEFINITION. The operations every chapter shares: object values, outputs, free values, time, fault words, event counters
and trace stamps.
-/
namespace Sys2Proof.Machine

/-! ### Objects -/

/-- The bytes a number takes. -/
def byteLen (v : Nat) : Nat := if v = 0 then 0 else v.log2 / 8 + 1

/-- The bytes of a value that the queue of values not yet durable holds (15 R428): the value's alone. [DESIGN CHOICE, log 191] -/
def queuedBytes (o : Obj) (v : Nat) : Nat :=
  match o.ty with
  | .u8 | .bool | .enum8 => 1
  | .u16 => 2
  | .u32 | .i32 | .bits32 => 4
  | .u64 | .time64 => 8
  | .str => byteLen v
  | .blob => if o.hi = 0 then byteLen v - 1 else byteLen o.hi

/-- The bytes in the queue of values not yet durable. -/
def queueBytes (s : State) : Nat := (s.store.pq.map (·.bytes)).sum

/-- The value of an object's instance. [DESIGN CHOICE, log 9] -/
def State.val (s : State) (o : Obj) (p : Path) : Nat :=
  Tbl.look (objDefault o p) (Tbl.look [] s.store.objs o.code) (pathKey p)

/-- How often an instance has changed (15 R434). -/
def State.changes (s : State) (o : Obj) (p : Path) : Nat :=
  Tbl.look 0 (Tbl.look [] s.store.chg o.code) (pathKey p)

/-- An instance takes a value. A change is counted for the subscriptions, and a persistent value joins the queue of
values not yet durable (15 R428, R434). -/
def State.put (o : Obj) (p : Path) (v : Nat) (s : State) : State :=
  let old := s.val o p
  let k := pathKey p
  if old = v then s else
  { s with store :=
    { objs := Tbl.upd [] s.store.objs o.code
        (Tbl.upd (objDefault o p) (Tbl.look [] s.store.objs o.code) k v)
      chg := Tbl.upd [] s.store.chg o.code
        (Tbl.upd 0 (Tbl.look [] s.store.chg o.code) k (s.changes o p + 1))
      pq := if o.pers = .p then s.store.pq ++ [⟨o.code, k, old, queuedBytes o v⟩] else s.store.pq } }

/-- A counter object counts, and saturates at its type's largest value unless it wraps. -/
def State.bump (o : Obj) (p : Path) (n : Nat) (s : State) : State :=
  s.put o p (min (s.val o p + n) o.hi)

/-- A flag object. -/
def State.flag (s : State) (o : Obj) (p : Path) : Bool := s.val o p != 0

/-- Every instance of an object that is not at its default: instance number and value. -/
def State.listed (s : State) (o : Obj) : Tbl Nat := Tbl.look [] s.store.objs o.code

/-! ### Outputs and free values -/

/-- Something leaves the block. -/
def emit (o : Output) (s : State) : State := { s with out := s.out ++ [o] }

/-- A management operation is answered. -/
def answer (st : Status) (v : Option Nat) (s : State) : State := emit (.answer st v) s

/-- The next free value. [DESIGN CHOICE, log 8] -/
def freshValue (s : State) : Nat × State := (Config.freeValue s.freeCtr, { s with freeCtr := s.freeCtr + 1 })

/-! ### Time (01 Table ARC-10, 03 R79, 17 R494, R498) -/

/-- The datapath cycle: half a nanosecond at /2, three quarters at /3 (17 R494). -/
def cycle (s : State) : Nat := s.val oB000_04 []

/-- Time passes: the slot counter advances by a cycle at a time, the timebase by its increment each 8 ns. [DESIGN CHOICE, log 5] -/
def advance (dt : Nat) (s : State) : State :=
  let now := s.clk.now + dt
  let c := cycle s
  let n := (now - s.clk.slotAt) / (if c = 0 then 1 else c)
  let ticks := (now - s.clk.tickAt) / 32
  { s with clk := { s.clk with
      now := now
      slot := s.clk.slot + n
      slotAt := s.clk.slotAt + n * c
      done1 := if n = 0 then s.clk.done1 else false
      done2 := if n = 0 then s.clk.done2 else false
      tb := s.clk.tb + ticks * s.clk.inc
      tickAt := s.clk.tickAt + ticks * 32 } }

/-- Time has passed at least up to `t`. [DESIGN CHOICE, log 5] -/
def advanceTo (t : Nat) (s : State) : State := if s.clk.now < t then advance (t - s.clk.now) s else s

/-- The timebase in ns. -/
def tbNs (s : State) : Nat := s.clk.tb / 4294967296

/-- Time passes until the timebase reads `n` ns or more. -/
def advanceToTb (n : Nat) (s : State) : State :=
  if n ≤ tbNs s then s
  else
    let inc := if s.clk.inc = 0 then 1 else s.clk.inc
    advance (s.clk.tickAt + 32 * ((n * 4294967296 - s.clk.tb + inc - 1) / inc) - s.clk.now) s

/-- The next instant of a periodic action: multiples of `n` ns of the timebase after the last one taken; time passes up to
it. An instant that several were missed before is taken once. [DESIGN CHOICE, log 5] -/
def toInstant (key n : Nat) (s : State) : State :=
  let n := if n = 0 then 1 else n
  let next := (Tbl.look 0 s.clk.inst key / n + 1) * n
  let s' := advanceToTb next s
  let at_ := if next ≤ tbNs s then tbNs s / n * n else next
  { s' with clk := { s'.clk with inst := Tbl.upd 0 s'.clk.inst key at_ } }

/-! ### Fault words (16 R444-R446) -/

/-- Severities: 0 corrected, 1 contained, 2 uncontained (16 Table FLT-3, 17 Table PWR-7, 18 Table BOT-13, 19 Table CNT-8,
21 Table TST-7). -/
def kindSev (k : Nat) : Nat :=
  if k ∈ [0x05, 0x0A, 0x0B, 0x0C, 0x16, 0xF3, 0xF4, 0x5B, 0x5E, 0x66] then 2
  else if k ∈ [0x01, 0x04, 0x06, 0x09, 0x14, 0x22, 0x23, 0x26, 0x34, 0xF0, 0x53, 0x55, 0x59, 0x5A, 0x5C, 0x5D, 0x5F,
      0x63, 0x68, 0x70, 0x80, 0x82, 0x83, 0x84] then 0
  else 1

/-- The 64-bit fault word (16 Table FLT-1). -/
def FWord.word (w : FWord) : Nat :=
  w.source * 2 ^ 52 + w.kind * 2 ^ 44 + kindSev w.kind * 2 ^ 42 + w.ctx % 2 ^ 42

/-- A source raises a fault: it sends the word, makes it the waiting word, or counts it in MISSED (16 R446). [DEDUCED, log 129] -/
def raiseFault (source kind ctx : Nat) (s : State) : State :=
  let w : FWord := { source := source, kind := kind, ctx := ctx, time := tbNs s }
  let f := Tbl.look {} s.fsrc source
  if ¬ f.outstanding then
    { s with fsrc := Tbl.upd {} s.fsrc source { f with outstanding := true }, fnet := s.fnet ++ [w] }
  else
    match f.waiting with
    | none => { s with fsrc := Tbl.upd {} s.fsrc source { f with waiting := some w } }
    | some v =>
      let f' := if kindSev v.kind < kindSev kind then { f with waiting := some w } else f
      { s with fsrc := Tbl.upd {} s.fsrc source { f' with missed := min (f.missed + 1) 0x7FFF } }

/-- Contexts (16 Table FLT-4). -/
def ctxCross (q stage dir sheet : Nat) : Nat := q * 2 ^ 39 + stage * 2 ^ 38 + dir * 2 ^ 37 + sheet * 2 ^ 34
def ctxPort (p : Nat) : Nat := p * 2 ^ 35
def ctxVcs (n : Nat) : Nat := n * 2 ^ 36
def ctxQuire (q : Nat) : Nat := q * 2 ^ 39
def ctxBlock (b : Nat) : Nat := b * 2 ^ 26
def ctxInit (i : Nat) : Nat := i * 2 ^ 29
def ctxSlot (d n : Nat) : Nat := n * 2 ^ 36 + d * 2 ^ 32

/-! ### Units (01 R13-R15) -/

def quireOf (port : Nat) : Nat := port / 16
def groupOf (port : Nat) : Nat := port / 4

/-- Role in effect, link state and presence of a port (02 Table FAB-10). -/
def roleOf (s : State) (p : Nat) : Nat := s.val o2020_01 [pP p]
def linkOf (s : State) (p : Nat) : Nat := s.val o2020_02 [pP p]

/-- The device's own forme position; a standalone device is position 0 (02 R64). -/
def ownPos (s : State) : Nat := if s.val o4200_01 [] < 16 then s.val o4200_01 [] else 0

/-- The enabled VCS whose upstream port a port is. -/
def vcsOfUp (s : State) (p : Nat) : Option Nat :=
  (List.range 64).find? fun n => s.flag o4100_02 [pVCS n] && s.val o4100_01 [pVCS n] == p

/-- The upstream port of an enabled VCS. -/
def upOf (s : State) (n : Nat) : Option Nat :=
  let p := s.val o4100_01 [pVCS n]
  if p < 128 ∧ s.flag o4100_02 [pVCS n] = true then some p else none

/-! ### Self-tests (21 R577) -/

/-- The status of a unit's last self-test (21 Table TST-3). -/
def testStatus (s : State) (p : Path) : Nat := bits (s.val oE010_02 p) 63 61

/-- A self-test that runs in a unit is aborted: the unit leaves the state the test may run in, stop-press begins, or a warm reset does. -/
def abortTest (p : Path) (s : State) : State :=
  if testStatus s p = 1 then
    { s.put oE010_02 p (5 * 2 ^ 61) with tap := { s.tap with tests := Tbl.upd none s.tap.tests (pathKey p) none } }
  else s

/-- The instances with a test that runs. -/
def testPaths : List Path :=
  (List.range 8).map (fun q => [pQ q]) ++ (List.range 8).map (fun q => [pQ q, pDIR]) ++ (List.range 12).map (fun k => [pK k])
  ++ (List.range 192).map (fun c => [pC c]) ++ [[pSPINE]]

def abortTests (s : State) : State := testPaths.foldl (fun s p => abortTest p s) s

/-! ### Event counters (19 R533, R536) -/

/-- The attributes an event carries: initiator (none for what the block itself originates), address, class. -/
structure EvAttr where
  init : Option Nat := none
  space : Nat := 0
  addr : Option Nat := none
  cls : Option Nat := none

/-- An event passes a filter bank when it matches every enabled field (19 R536, Table CNT-2). 0x1FFF stands for no initiator index. -/
def bankPass (s : State) (b : Nat) (a : EvAttr) : Bool :=
  if b = 0 then true else
  let w := s.val oC020_02 [pFB b]
  let init := a.init.bind fun i => if i = 0x1FFF then none else some i
  let priv := if s.val oD000_03 [] = 0 then 117
    else match init with
      | some i => if i < 0x1840 then 115 else 116
      | none => 116
  bit w priv
  && (match a.cls with | some c => bit w (109 + c) | none => true)
  && (match init with | some i => ((i ^^^ bits w 143 131) &&& bits w 130 118) == 0 | none => true)
  && (!bit w 108 || (match a.addr with
      | some x => b2n (bit w 107) == a.space && bits w 255 200 * 256 ≤ x && x ≤ bits w 199 144 * 256 + 255
      | none => true))

/-- An event is counted with its weight; a counter wraps at 48 bits and keeps INVALID, bit 48 (19 R533, R535). -/
def countEvent (ct : Nat) (a : EvAttr) (w : Nat) (s : State) : State :=
  if bankPass s (s.val oC010_02 [pCT ct]) a then
    let c := Tbl.look 0 s.counts ct
    { s with counts := Tbl.upd 0 s.counts ct (setBits c 47 0 (bits c 47 0 + w)) }
  else s

/-- A port event: code `e` of 19 Table CNT-1. -/
def countPort (p e : Nat) (a : EvAttr) (w : Nat) (s : State) : State :=
  countEvent (1536 * (p / 16) + 64 * (p % 16) + e) a w s

/-- The attributes of a sort's transaction. -/
def attrOf (x : DSort) : EvAttr := { init := some x.init, addr := some x.pkt.addr, cls := some x.cls }

/-! ### Trace stamps (19 R542, R543) -/

/-- A tagged packet passes a stamp point. The record closes at its last stamp of R543, and a record that closes while a
fault word waits for its log write is dropped (R545). -/
def stamp (rec point quire : Nat) (s : State) : State :=
  let r := Tbl.look { open_ := false } s.trc rec
  if ¬ r.open_ ∨ 16 ≤ r.stamps.length then s else
  let st := r.stamps ++ [point * 2 ^ 28 + quire * 2 ^ 25 + (tbNs s - r.t0) % 2 ^ 24]
  let close := (point = 0xB ∧ r.posted) ∨ (point = 0xE ∧ ¬ r.posted) ∨ point = 0xC ∨ st.length = 16
  let r' := { r with stamps := st, open_ := !decide close, endc := if close then 1 else r.endc
                     gone := decide close && !s.fnet.isEmpty }
  let s := { s with trc := Tbl.upd { open_ := false } s.trc rec r' }
  if close ∧ s.fnet ≠ [] then countEvent (12288 + 644) {} 1 s else s

/-- A sort stamps its record when it is the tagged packet's first. -/
def stampSort (x : DSort) (point quire : Nat) (s : State) : State :=
  if x.trace ∧ x.sop then stamp x.traceid point quire s else s

/-! ### Memory of the block's own spaces -/

/-- A byte of memory; a byte that nothing has written reads as 0. [DESIGN CHOICE, log 2] -/
def memByte (m : List Host.Cell) (a : Nat) : BitVec 8 := Tbl.look 0 m a

/-- A byte of memory is written. -/
def memSet (m : List Host.Cell) (a : Nat) (b : BitVec 8) : List Host.Cell := Tbl.upd 0 m a b

/-- `n` bytes of memory, lowest address first, as a number. -/
def memRead (m : List Host.Cell) (a : Nat) : Nat → Nat
  | 0 => 0
  | n + 1 => (memByte m a).toNat + 256 * memRead m (a + 1) n

/-- `n` bytes of memory are written from a number, lowest byte at the lowest address (15 R426). -/
def memWrite (m : List Host.Cell) (a : Nat) : Nat → Nat → List Host.Cell
  | 0, _ => m
  | n + 1, v => memWrite (memSet m a (BitVec.ofNat 8 v)) (a + 1) n (v / 256)

/-- The canonical form of memory. -/
def Memory.wf (m : List Host.Cell) : Bool := Tbl.wf 0 m

/-! ### Management writes -/

/-- The roles that may write an object (15 R429, Table ODX-4): nobody but boot code writes BOOT objects, an OBSERVER
writes nothing, and some objects are owner-only. -/
def ownerOnly (o : Obj) : Bool :=
  o.code ∈ [0x113001, 0x113002, 0x705001, 0x705002, 0x705003, 0x705004, 0x705005, 0x114001,
    0xD01008, 0xD05003, 0xD05004, 0xD05005]

/-- `none` where the role may write the object: nobody writes a read-only or read-clear one (00 R5). A host writes two objects, whose instances
its own rows check (15 Table ODX-5); the log's read pointer is for a MANAGER or OWNER (16 R453); an engine writes in the ranges of its view (14 R413), and Rirath on K8-K11 refreshes the watchdog. [DEDUCED, log 118] -/
def mayWrite (role : Role) (o : Obj) (p : Path) (s : State) : Option Status :=
  let fixed := o.acc = .boot ∨ ((o.code = 0x113001 ∨ o.code = 0x113002) ∧ pathNum 41 p = 0) ∨ o.acc = .ro ∨ o.acc = .rc
  match role with
  | .observer => some .auth
  | .boot => if o.code = 0x902002 then some .auth else if o.acc = .ro ∨ o.acc = .rc then some .refused else none
  | .host _ => if o.code = 0x800006 ∨ o.code = 0x212001 then none else some .refused
  | .engine e =>
    if o.code = 0xD07004 ∧ 128 ≤ e.val then none
    else if ¬ bit (s.val o7060_01 [pC e.val]) (16 + o.idx / 4096) then some .notInView
    else if fixed then some .refused else if ownerOnly o ∨ o.code = 0x902002 then some .auth else none
  | .manager => if fixed then some .refused else if ownerOnly o then some .auth else none
  | .owner => if fixed then some .refused else none

/-- A write is in range for the object's type and meaning (00 R7, 15 Table ODX-3). -/
def inRange (o : Obj) (v : Nat) : Bool := (decide (o.lo ≤ v) && decide (v ≤ o.hi)) || decide (v ∈ o.extra)

/-- The device is in stop-press (16 R466). -/
def inStopPress (s : State) : Bool := s.val o9040_02 [] == 1

/-- An error in the collector itself has frozen its content (16 R468). -/
def frozen (s : State) : Bool := inStopPress s && s.prf.spReason == 1

/-- Objects that the lead answers: bindings, and domain memberships (02 R68). [DEDUCED, log 28] -/
def formeLevel (o : Obj) : Bool := o.code ∈ [0x411002, 0x411004, 0x501001]

/-- Why a forme-level change is not made: no lead (02 R68, R70), or a part of a split forme without authority (R72). [DESIGN CHOICE, log 27] -/
def formeHolds (s : State) : Option Status :=
  if 16 ≤ s.val o4200_01 [] ∨ s.val o4200_08 [] = 0 then none
  else if s.forme.leadLost.isSome ∨ s.val o4200_07 [] = 0xFF then some .formeBusy
  else if s.forme.noAuthority then some .refused
  else none

/-- What decides a write before its object does: the role, proof mode (18 Table BOT-5: three ranges), stop-press (16 R468: only the reset
objects), the forme's lead (02 R70), services moving between spine clusters (18 Table BOT-8), and
the room of the queue of values not yet durable (15 R428). [DEDUCED, log 118] -/
def writeGate (role : Role) (o : Obj) (p : Path) (s : State) : Option Status :=
  match mayWrite role o p s with
  | some st => some st
  | none =>
    if s.val oD000_03 [] = 2 ∧ ¬ (o.idx / 4096 ∈ [1, 9, 13]) then some .notFound
    else if inStopPress s ∧ ¬ (o.code ∈ [0xD00001, 0xD00002]) then some .refused
    else if formeLevel o ∧ (formeHolds s).isSome then formeHolds s
    else if formeLevel o ∧ s.clk.now < s.boot.moveUntil then some .busy
    else if o.pers = .p ∧ 65536 < queueBytes s + queuedBytes o 0 then some .busy
    else none

/-- A management write by a role: the gate, then the object's own handler. -/
def managed (role : Role) (o : Obj) (p : Path) (h : State → Status × State) (s : State) : Status × State :=
  match writeGate role o p s with
  | some st => (st, s)
  | none => h s

/-- A management write and its answer. -/
def answered (r : Status × State) : State := answer r.1 none r.2

/-- The plain handler: the value is taken when it is in range, with its reserved bits dropped (00 R6, R7). -/
def plainWrite (o : Obj) (p : Path) (v : Nat) (s : State) : Status × State :=
  if inRange o v then (.ok, s.put o p (v &&& o.mask)) else (.refused, s)

end Sys2Proof.Machine
end

