-- ==== Sys2Proof/Machine/Queues.lean ====
section
/-!
DEFINITION. The Galley queues (04 R106-R118): their names, packets, back-pressure, buffers, charges and credits, and their reset.
-/
namespace Sys2Proof
open Machine

/-! ### Classes and kinds of messages (06 Table COH-5) -/

/-- The class code of a message (03 Table PLN-1): RSP 0, DAT 1, SNP 2, REQ 3, BLK 4. -/
def MsgOp.cls : MsgOp → Nat
  | .mWr | .msg | .mRd | .cplD | .cpl => 4
  | .memRd | .memRdData | .memInv | .memInvNT | .memClnEvct | .memSpecRd | .biConflict | .memRdFwd | .memWrFwd => 3
  | .memWr | .memWrPtl => 1
  | .biRspI | .biRspS | .biRspE | .biRspIBlk | .biRspSBlk | .biRspEBlk => 0
  | .biSnpCur | .biSnpData | .biSnpInv | .biSnpCurBlk | .biSnpDataBlk | .biSnpInvBlk => 2
  | .cmp | .cmpS | .cmpE | .biConflictAck => 0
  | .memData | .memDataNXM => 1
  | .d2hReq => 3
  | .h2dReq => 2
  | .d2hRsp | .h2dRsp => 0
  | .d2hData | .h2dData => 1
  | .dllp => 5

/-- The CXL channel a message travels on (11 Table LNK-7): M2S Req 0, M2S RwD 1, M2S BIRsp 2, S2M NDR 3, S2M DRS 4, S2M
BISnp 5, D2H Req 6, D2H Rsp 7, D2H Data 8, H2D Req 9, H2D Rsp 10, H2D Data 11. -/
def MsgOp.channel : MsgOp → Nat
  | .mWr | .msg | .mRd | .cplD | .cpl | .dllp => 12
  | .memRd | .memRdData | .memInv | .memInvNT | .memClnEvct | .memSpecRd | .biConflict | .memRdFwd | .memWrFwd => 0
  | .memWr | .memWrPtl => 1
  | .biRspI | .biRspS | .biRspE | .biRspIBlk | .biRspSBlk | .biRspEBlk => 2
  | .cmp | .cmpS | .cmpE | .biConflictAck => 3
  | .memData | .memDataNXM => 4
  | .biSnpCur | .biSnpData | .biSnpInv | .biSnpCurBlk | .biSnpDataBlk | .biSnpInvBlk => 5
  | .d2hReq => 6
  | .d2hRsp => 7
  | .d2hData => 8
  | .h2dReq => 9
  | .h2dRsp => 10
  | .h2dData => 11

def MsgOp.posted (o : MsgOp) : Bool := o = .mWr || o = .msg
def MsgOp.nonPosted (o : MsgOp) : Bool := o = .mRd
def MsgOp.completion (o : MsgOp) : Bool := o = .cplD || o = .cpl

/-- The PCIe credit type of a bulk packet: posted 0, non-posted 1, completion 2. -/
def MsgOp.credType (o : MsgOp) : Nat := if o.posted then 0 else if o.nonPosted then 1 else 2

/-- A CXL.mem M2S request or write, or a CXL.cache D2H request: what the transaction tracker follows beside non-posted
bulk requests (11 R336). [DEDUCED, log 161] -/
def MsgOp.tracked (o : MsgOp) : Bool :=
  o.nonPosted || o.channel == 0 || o.channel == 1 || o.channel == 6

/-- The data bytes a packet carries across the sheets. -/
def Packet.bytes (p : Packet) : Nat :=
  match p.op with
  | .mWr | .msg | .cplD => p.len
  | .mRd | .cpl => 0
  | _ => 64

/-- The charge of a bulk packet: its 16-byte header and its data (05 R141, Table SCH-3). -/
def Packet.charge (p : Packet) : Nat := 16 + p.bytes

/-- The sorts a packet is cut into: 112 payload bytes each for a bulk packet (01 "The path of a bulk packet"), one for a
message of the express plane (06 R163). -/
def Packet.sorts (p : Packet) : Nat := if p.op.cls = 4 then (p.charge + 111) / 112 else 1

/-! ### Names of queues -/

def QRef.key : QRef → Nat
  | .stage m p c => (m.val * 129 + p.val) * 8 + c.val
  | .home m c => (m.val * 129 + 128) * 8 + c.val
  | .egress p e => 1048576 + p.val * 512 + e.val
  | .egressCls p c => 1048576 + p.val * 512 + 256 + c.val

/-- The quire whose slice holds a queue. -/
def QRef.quire : QRef → Nat
  | .stage m _ _ => m.val
  | .home m _ => m.val
  | .egress p _ => p.val / 16
  | .egressCls p _ => p.val / 16

/-- The queue exists: a port has no class queue for BLK (04 R115). -/
def QRef.real : QRef → Bool
  | .egressCls _ c => c != 4
  | _ => true

/-- The instance path of a queue. -/
def QRef.path : QRef → Path
  | .stage m p c => [pQ m.val, pP p.val, pCLS c.val]
  | .home m c => [pQ m.val, pHOME, pCLS c.val]
  | .egress p e => [pP p.val, pEQ e.val]
  | .egressCls p c => [pP p.val, pCLS c.val]

end Sys2Proof

namespace Sys2Proof.Machine

/-- The queue of a key. -/
def qrefOfKey (k : Nat) : QRef :=
  if k < 1048576 then
    let u := k / 8 % 129
    if u = 128 then .home (Fin.ofNat 8 (k / 1032)) (Fin.ofNat 4 (k % 8))
    else .stage (Fin.ofNat 8 (k / 1032)) (Fin.ofNat 128 u) (Fin.ofNat 6 (k % 8))
  else
    let j := k - 1048576
    if j % 512 < 256 then .egress (Fin.ofNat 128 (j / 512)) (Fin.ofNat 256 (j % 512))
    else .egressCls (Fin.ofNat 128 (j / 512)) (Fin.ofNat 6 (j % 512 - 256))

/-- The queue names of numbers in range. -/
def stageRef (m p c : Nat) : QRef := .stage (Fin.ofNat 8 m) (Fin.ofNat 128 p) (Fin.ofNat 6 c)
def homeRef (m c : Nat) : QRef := .home (Fin.ofNat 8 m) (Fin.ofNat 4 c)
def egressRef (p e : Nat) : QRef := .egress (Fin.ofNat 128 p) (Fin.ofNat 256 e)
def classRef (p c : Nat) : QRef := .egressCls (Fin.ofNat 128 p) (Fin.ofNat 6 c)

/-- High and low watermarks (04 Table GAL-2): fixed at 64 and 32 on the class egress queues (R115). [DESIGN CHOICE, log 35] -/
def highOf (s : State) : QRef → Nat
  | .egress p e => s.val o4032_02 [pP p.val, pEQ e.val]
  | .egressCls _ _ => 64
  | q => s.val o4030_02 q.path

def lowOf (s : State) : QRef → Nat
  | .egress p e => s.val o4032_03 [pP p.val, pEQ e.val]
  | .egressCls _ _ => 32
  | q => s.val o4030_03 q.path

/-- The interrupt enable of a queue (04 R110). -/
def irqOf (s : State) : QRef → Bool
  | .egress p e => s.flag o4032_04 [pP p.val, pEQ e.val]
  | .egressCls _ _ => false
  | q => s.flag o4030_04 q.path

def queueOf (s : State) (q : QRef) : Queue := Tbl.look {} s.gal.queues q.key

def setQueue (q : QRef) (v : Queue) (s : State) : State :=
  { s with gal := { s.gal with queues := Tbl.upd {} s.gal.queues q.key v } }

def depthOf (s : State) (q : QRef) : Nat := (queueOf s q).ents.length

/-! ### Streams and packets -/

/-- The number of an ordering stream (03 R83, R585); what goes to a unit of the egress quire is in streams of its own. -/
def streamKey (x : DSort) : Nat :=
  (((((if x.orig then 8 + x.srcq else 0) + (if x.unit.isSome then 16 else 0)) * 128 + x.sport) * 128 + x.dport) * 8) + x.tc

/-- The packet that a sort belongs to. -/
def pktId (x : DSort) : PktId := (streamKey x, x.pid)

/-- The sorts of a queue that belong to the packet at its head: packets of several streams may stand sort by sort between each other. -/
def headPacket : List GEnt → List GEnt
  | [] => []
  | g :: r => g :: r.filter fun h => pktId h.x == pktId g.x

/-- A queue that holds packets: an egress queue. A sort of a stage queue stands alone (04 R113). -/
def holdsPackets : QRef → Bool
  | .egress _ _ | .egressCls _ _ => true
  | _ => false

/-! ### Back-pressure (04 R109, R110) -/

/-- Back-pressure after a change of depth (04 R109). -/
def bpAfter (hi lo depth : Nat) (bp : Bool) : Bool :=
  if hi ≤ depth then true else if depth ≤ lo then false else bp

/-- The interrupt of a Galley queue goes to the engine that takes those of cluster Kq (04 R110, 14 R412). The manual gives it no vector:
a free value. [DESIGN CHOICE, log 173] -/
def queueIrq (q : QRef) (s : State) : State :=
  let (f, s) := freshValue (emit (.clusterIrq q.quire q.key) s)
  { s with net := { s.net with
      eng := Tbl.mod {} s.net.eng (s.val o7022_01 [pK q.quire]) fun e => { e with pend := e.pend ||| 2 ^ (f % 2048) } } }

/-- The queue with its back-pressure state brought up to date; a rise raises the interrupt where enabled (04 R110). -/
def settleQueue (q : QRef) (s : State) : State :=
  let v := queueOf s q
  let b := bpAfter (highOf s q) (lowOf s q) v.ents.length v.bp
  let s' := setQueue q { v with bp := b } s
  if b ∧ ¬ v.bp ∧ irqOf s q then queueIrq q s' else s'

/-! ### Charges (04 R121) -/

/-- The return of a charge of the account of a port's packets toward egress quire `e`, or of an originating unit's:
`charge_return` of 04 "Admission". -/
def chargeReturn (i p e k : Nat) (s : State) : State :=
  let u := s.val o4034_03 [pP p, pQ e]
  let r := s.val o4034_01 [pP p]
  let sh := u - r
  let u' := u - k
  s.put o4034_03 [pP p, pQ e] u'
  |>.put o4034_04 [pQ i, pQ e] (s.val o4034_04 [pQ i, pQ e] - (sh - (u' - r)))

/-- The account of an originating unit other than a port controller draws only on S(i) (03 R585). -/
def origReturn (i code e k : Nat) (s : State) : State :=
  let key := (i * 32 + code) * 8 + e
  { s with gal := { s.gal with origUsed := Tbl.mod 0 s.gal.origUsed key (· - k) } }
  |>.put o4034_04 [pQ i, pQ e] (s.val o4034_04 [pQ i, pQ e] - k)

/-- The charge of one bulk sort comes home: a port's through the next congestion map (04 R128), an originated sort's
account at once. -/
def returnCharge (e : Nat) (x : DSort) (s : State) : State :=
  if x.orig then
    if x.sport < 16 then chargeReturn x.srcq (16 * x.srcq + x.sport) e 1 s
    else origReturn x.srcq x.sport e 1 s
  else { s with gal := { s.gal with retCum := Tbl.mod 0 s.gal.retCum (e * 128 + x.sport) (fun n => (n + 1) % 4096) } }

/-- A collation window credit returns to its ingress quire (03 R95). -/
def returnWindow (i e : Nat) (s : State) : State :=
  s.put o4022_01 [pQ i, pQ e] (min 64 (s.val o4022_01 [pQ i, pQ e] + 1))

/-- Class credits at reset (04 Table GAL-1). -/
def classCredits (c : Nat) : Nat := if c < 2 then 192 else 128

def creditKey (i m c : Nat) : Nat := (i * 8 + m) * 4 + c

/-- The credits quire `i` holds of class `c` toward intermediate `m`. -/
def creditOf (s : State) (i m c : Nat) : Nat := Tbl.look (classCredits c) s.gal.credit (creditKey i m c)

def setCredit (i m c v : Nat) (s : State) : State :=
  { s with gal := { s.gal with credit := Tbl.upd (classCredits c) s.gal.credit (creditKey i m c) v } }

/-- A class credit comes back: to the first originated sort that waits for one, which enters the launch queue (R124), or to the quire. -/
def returnCredit (i m c : Nat) (s : State) : State :=
  let k := creditKey i m c
  match Tbl.look [] s.stg.expWait k with
  | x :: r => { s with stg := { s.stg with
      expWait := Tbl.upd [] s.stg.expWait k r, expQ := Tbl.mod [] s.stg.expQ k (· ++ [x]) } }
  | [] => setCredit i m c (min (classCredits c) (creditOf s i m c + 1)) s

def returnCredits (i m c : Nat) : Nat → State → State
  | 0, s => s
  | n + 1, s => returnCredits i m c n (returnCredit i m c s)

/-! ### Buffers (04 R106) -/

/-- The buffers of a slice that hold a sort, in its queues or in the hands of a sweep. -/
def sliceBufs (s : State) (q : Nat) : List Nat :=
  (s.gal.queues.flatMap fun e => if (qrefOfKey e.1).quire = q then e.2.ents.map (·.buf) else [])
  ++ s.gal.swept.flatMap fun w => if w.queue.quire = q then w.ents.map (·.buf) else []

/-- The banks of a slice that were accessed in this cycle. -/
def banksNow (s : State) (q : Nat) : List Nat :=
  if Tbl.look 0 s.gal.banksAt q = s.clk.now + 1 then Tbl.look [] s.gal.banks q else []

/-- A bank is accessed. -/
def useBank (q b : Nat) (s : State) : State :=
  { s with gal := { s.gal with
      banks := Tbl.upd [] s.gal.banks q (b :: banksNow s q), banksAt := Tbl.upd 0 s.gal.banksAt q (s.clk.now + 1) } }

/-- The first row from `r` on that is not taken. -/
def freeRow (taken : List Nat) : Nat → Nat → Nat
  | 0, r => r
  | n + 1, r => if taken.contains r then freeRow taken n ((r + 1) % 3072) else r

/-- The buffer of a written sort: in a bank that is not accessed in this cycle, of those one with the most free buffers; which one of
equals, and which free row, the manual leaves open. [DESIGN CHOICE, log 36] -/
def pickBuffer (q : Nat) (s : State) : Nat × State :=
  let (f, s) := freshValue s
  let used := sliceBufs s q
  let held := fun (b : Nat) => (used.filter fun a => a / 4096 == b).length
  let open_ := (List.range 32).filter fun b => !(banksNow s q).contains b
  let least := (open_.map held).foldl min 3072
  let best := open_.filter fun b => held b == least
  let b := best.getD (f / 3072 % best.length) (f / 3072 % 32)
  let rows := (used.filter fun a => a / 4096 == b).map (· % 4096)
  (4096 * b + freeRow rows (rows.length + 1) (f % 3072), useBank q b s)

/-! ### Reset of a queue (04 R116, R117) -/

/-- QUEUE context (16 Table FLT-4). -/
def ctxQueue (q : QRef) (gen : Nat) : Nat :=
  match q with
  | .stage _ p c => p.val * 2 ^ 34 + c.val * 2 ^ 26 + gen * 2 ^ 24
  | .home _ c => c.val * 2 ^ 26 + gen * 2 ^ 24 + 2 ^ 23
  | .egress p e => 2 ^ 41 + p.val * 2 ^ 34 + e.val * 2 ^ 26 + gen * 2 ^ 24
  | .egressCls p c => 2 ^ 41 + p.val * 2 ^ 34 + c.val * 2 ^ 26 + gen * 2 ^ 24

/-- A bulk egress queue leaves the active list with deficit 0 (05 R142). -/
def leaveActive (q : QRef) (s : State) : State :=
  match q with
  | .egress p e =>
    { s with egr := { s.egr with
        active := Tbl.mod [] s.egr.active p.val (·.filter (· ≠ e.val))
        visiting := if Tbl.look none s.egr.visiting p.val = some e.val
          then Tbl.upd none s.egr.visiting p.val none else s.egr.visiting } }
    |>.put o4042_02 [pP p.val, pEQ e.val] 0
    |>.put o4042_04 [pP p.val, pEQ e.val] 0
  | _ => s

/-- The watermarks of a queue at their reset values (04 Table GAL-2). -/
def resetMarks (q : QRef) (s : State) : State :=
  match q with
  | .egress p e => (s.put o4032_02 [pP p.val, pEQ e.val] 4096).put o4032_03 [pP p.val, pEQ e.val] 2048
  | .egressCls _ _ => s
  | q => (s.put o4030_02 q.path 512).put o4030_03 q.path 256

/-- A queue reset (04 R117): reset values with the next generation, the fault, and the sweep of its buffers. What still arrives of a
packet of an egress queue is discarded: the manual does not say. [DESIGN CHOICE, log 35] -/
def resetQueue (q : QRef) (s : State) : State :=
  let v := queueOf s q
  let g := (v.gen + 1) % 4
  let m := q.quire
  let s := setQueue q { gen := g, drop := v.drop ++ v.pushing } s
  { s with gal := { s.gal with swept := s.gal.swept ++ [⟨q, v.gen, v.ents⟩] } }
  |> resetMarks q |> leaveActive q
  |>.bump o403A_01 [pQ m] 1
  |>.put o403A_02 [pQ m] 1
  |> raiseFault (0x2A0 + m) 0x08 (ctxQueue q g)

/-- The copies of the pointers differ, or UNDR is set (04 R116, R117). -/
def Queue.broken (v : Queue) : Bool := v.undr || v.ptr / 2 ^ 34 != v.ptr % 2 ^ 34

/-- The check that every push makes: a queue that is broken is reset (04 R116, R117). -/
def checkQueue (q : QRef) (s : State) : State := if (queueOf s q).broken then resetQueue q s else s

/-- A bit of a pointer copy changes. -/
def strikeQueue (q : QRef) (b : Nat) (s : State) : State :=
  setQueue q { queueOf s q with ptr := (queueOf s q).ptr ^^^ 2 ^ b } s

/-- The upset of a command at the queue that it has pushed or popped at quire `m` and sheet `sh`. -/
def strike (u : Option Upset) (m sh : Nat) (q : QRef) (s : State) : State :=
  match u with
  | some e => (match e.ptr with
    | some b => if e.quire.val = m ∧ e.sheet.val = sh then strikeQueue q b.val s else s
    | none => s)
  | none => s


end Sys2Proof.Machine
end

