-- ==== Sys2Proof/Machine/Cfg.lean ====
section
/-!
DEFINITION. The configuration registers of a VCS's functions (12), stored by function and name.
-/
namespace Sys2Proof.Machine

/-- The number of a function of VCS `n`. -/
def fnKey (n : Nat) (f : Func) : Nat :=
  n * 1024 + (match f with
    | .pf => 0
    | .vf k => k.val + 1
    | .upBridge => 512
    | .mgmtBridge => 513
    | .vppb v => 514 + v.val)

/-- Registers that are stored as written. -/
def regNum : CfgReg → Nat
  | .ids => 0 | .command => 1 | .status => 2 | .classRev => 3 | .bar k => 4 + k.val | .busNumbers => 10 | .devCap => 11
  | .devCtl => 12 | .linkCap => 13 | .linkCtl => 14 | .linkStatus => 15 | .msixCap => 16 | .msixCtl => 17 | .pmcsr => 18
  | .sriovCap => 19 | .sriovCtl => 20 | .numVfs => 21 | .vfBar k => 22 + k.val | .slotCap => 28 | .slotCtl => 29
  | .slotStatus => 30 | .acsCap => 31 | .acsCtl => 32 | .acsVector => 33 | .dpcCtl => 34 | .dpcStatus => 35 | .aerStatus => 36
  | .ariCap => 37 | .readiness => 38 | .absent => 39 | .l1ssCap => 40 | .vcCap => 41
  | .vcCtl k => 42 + k.val
  | .header => 46 | .pcieCaps => 47 | .devCap2 => 48 | .devCtl2 => 49 | .cxlLocator => 50 | .aerHeader => 51

/-- Reset values of PCI Express: Device Control has relaxed ordering, no snoop and a 512-byte Max_Read_Request_Size; VC resource 0 is enabled with
every traffic class, the others are not, each with its own VC ID. [PRESUMED, log 22] -/
def cfgDefault : CfgReg → Nat
  | .devCtl => 0x2810
  | .vcCtl k => if k = 0 then 0x800000FF else k.val * 2 ^ 24
  | _ => 0

def cfgOf (s : State) (fn : Nat) (r : CfgReg) : Nat := Tbl.look (cfgDefault r) s.host.cfg (fn * 64 + regNum r)

def setCfg (fn : Nat) (r : CfgReg) (v : Nat) (s : State) : State :=
  { s with host := { s.host with cfg := Tbl.upd (cfgDefault r) s.host.cfg (fn * 64 + regNum r) v } }

end Sys2Proof.Machine
end

