-- ==== Sys2Proof/Machine/Net.lean ====
section
/-!
DEFINITION. The internal space and the on-chip network (14): network targets, the memories of the internal space, reservations,
interrupt messages, trays, the traps and store failures of engines.
-/
namespace Sys2Proof.Machine

/-! ### Engines -/

def engOf (s : State) (c : Nat) : Engine := Tbl.look {} s.net.eng c

def setEng (c : Nat) (e : Engine) (s : State) : State :=
  { s with net := { s.net with eng := Tbl.upd {} s.net.eng c e } }

/-- 0 HALTED, 1 RUNNING, 2 STOPPED, 3 OFF. -/
def engState (s : State) (c : Nat) : Nat := s.val o7000_01 [pC c]

/-- An engine takes a trap: mcause and mtval are written, and its reservation is broken (14 R410). -/
def trap (c cause tval : Nat) (s : State) : State :=
  emit (.trap c cause tval) (setEng c { engOf s c with mcause := cause, mtval := tval, resv := none, wait := none } s)

/-- A store fails after it has left the engine (14 R415): SFADDR and SFINFO record the first failure, MORE counts the others, and
mip[16] is SFINFO VALID. -/
def storeFail (c cause target a : Nat) (s : State) : State :=
  let e := engOf s c
  let e := if bit e.sfinfo 63 then
      { e with sfinfo := setBits e.sfinfo 50 35 (min (bits e.sfinfo 50 35 + 1) 0xFFFF) }
    else { e with sfaddr := a % 2 ^ 48, sfinfo := 2 ^ 63 + cause * 2 ^ 59 + target * 2 ^ 51 }
  (setEng c e s).bump o7020_01 [pK (c / 16)] 1

/-- mtime: the timebase in steps of 8 ns (14 R395). -/
def mtimeOf (s : State) : Nat := tbNs s / 8 * 8 % 2 ^ 64

/-- mip as the chapter gives its bits (14 Table CMP-1). -/
def mipOf (s : State) (c : Nat) : Nat :=
  let e := engOf s c
  b2n e.msip * 2 ^ 3 + b2n (decide (e.mtimecmp ≤ mtimeOf s)) * 2 ^ 7 + b2n (e.pend &&& e.enab != 0) * 2 ^ 11
    + b2n (bit e.sfinfo 63) * 2 ^ 16

/-- What the CSRs that 14 R395, R415, Table CMP-1 and Table CMP-8 name read as: misa, mimpid, mhartid, mip, mcause, mtval, SFADDR, SFINFO, and mcycle
and minstret, which count at the Compositor clock of 1.333 GHz. No command of the table reads one: an engine's own instructions do. [DESIGN CHOICE, log 100; PRESUMED, log 101] -/
def engineCsr (s : State) (c a : Nat) : Option Nat :=
  let e := engOf s c
  match a with
  | 0x301 => some (2 ^ 63 + 2 ^ 20 + 2 ^ 12 + 2 ^ 8 + 2 ^ 2 + 1)
  | 0x342 => some e.mcause
  | 0x343 => some e.mtval
  | 0x344 => some (mipOf s c)
  | 0x7C0 => some e.sfaddr
  | 0x7C1 => some e.sfinfo
  | 0xB00 | 0xB02 => some (s.clk.now / 3 % 2 ^ 64)
  | 0xF13 => some 0xB1
  | 0xF14 => some c
  | _ => none

/-- The state of a network target: 0 OK, 1 ISOLATED, 2 OFFLINE. -/
def targetState (s : State) (t : Nat) : Nat := s.val o7030_01 [pNT t]

/-- An interrupt message sets its vector's pending bit at the target engine (14 R412); a control block out of service takes none. -/
def raiseVec (c v : Nat) (s : State) : State :=
  if targetState s (204 + c / 16) ≠ 0 then s else setEng c { engOf s c with pend := (engOf s c).pend ||| 2 ^ v } s


/-- The engine that takes a cluster's interrupts. -/
def clusterEngine (s : State) (k : Nat) : Nat := s.val o7022_01 [pK k]

/-- The lowest set bit below `n`, counting from `k`. -/
def lowestBit (m : Nat) (n : Nat) : Option Nat := (List.range n).find? fun k => bit m k

/-! ### The map of the internal space (14 Table CMP-2) -/

/-- What an internal-space address names: its unit, and the offset in it. -/
inductive Place where
  | loc (c off : Nat) | shared (k off : Nat) | ctl (k off : Nat) | page (r off : Nat) | cfg (t off : Nat)
  | sram (off : Nat) | adsum (c off : Nat) | rom (off : Nat) | aper (off : Nat)
  deriving DecidableEq, Repr

/-- The place of an address of the global rows. [DESIGN CHOICE, log 108] -/
def placeOf (a : Nat) : Option Place :=
  let o := a % 2 ^ 40
  match a / 2 ^ 40 with
  | 0x01 => if o / 2 ^ 17 < 192 ∧ o % 2 ^ 17 < 0x18000 then some (.loc (o / 2 ^ 17) (o % 2 ^ 17)) else none
  | 0x02 =>
    if o < 0x1000000000 then
      (if o / 2 ^ 20 < 12 ∧ o % 2 ^ 20 < 0x80000 then some (.shared (o / 2 ^ 20) (o % 2 ^ 20)) else none)
    else if (o - 0x1000000000) / 2 ^ 16 < 12 then some (.ctl ((o - 0x1000000000) / 2 ^ 16) (o % 2 ^ 16)) else none
  | 0x03 => if o / 256 < 65536 then some (.page (o / 256) (o % 256)) else none
  | 0x04 =>
    if o / 2 ^ 32 < 8 then some (.cfg (216 + o / 2 ^ 32) (o % 2 ^ 32))
    else if o / 2 ^ 32 = 8 then some (.cfg 240 (o % 2 ^ 32))
    else if o / 2 ^ 32 = 9 then some (.cfg 243 (o % 2 ^ 32)) else none
  | 0x05 =>
    if o < 0x400000 then some (.sram o)
    else if 0x1000000 ≤ o ∧ (o - 0x1000000) / 4096 < 192 then some (.adsum ((o - 0x1000000) / 4096) (o % 4096))
    else if 0x10000000 ≤ o ∧ o < 0x10040000 then some (.rom (o - 0x10000000)) else none
  | _ => if 0x10 ≤ a / 2 ^ 40 ∧ a / 2 ^ 40 < 0x20 then some (.aper (a - 0x100000000000)) else none

/-- The aliases of an engine's own units at their global addresses; the aperture is its own. -/
def globalAddr (c a : Nat) : Nat :=
  if a < 0x18000 then 0x10000000000 + 0x20000 * c + a
  else if 0x1000000 ≤ a ∧ a < 0x1080000 then 0x20000000000 + 0x100000 * (c / 16) + (a - 0x1000000)
  else if 0x2000000 ≤ a ∧ a < 0x2010000 then 0x21000000000 + 0x10000 * (c / 16) + (a - 0x2000000)
  else a

/-- The network target of a place; the aperture's is that of the quire of the target port. -/
def targetOf : Place → Nat
  | .loc c _ => c
  | .shared k _ => 192 + k
  | .ctl k _ => 204 + k
  | .page r _ => 224 + r / 8192
  | .cfg t _ => t
  | .sram _ => 241
  | .adsum _ _ => 245
  | .rom _ => 242
  | .aper _ => 232

/-- A request to a target that is ISOLATED or OFFLINE is answered with error, without fault (14 R414). -/
def answeredError (t : Nat) (s : State) : State := s.bump o7030_03 [pNT t] 1

/-! ### Reservations and memory (14 R409, R410) -/

def granule (a : Nat) : Nat := a / 128

/-- Reservations on the granules of a written span are broken. -/
def breakResv (a len : Nat) (s : State) : State :=
  let g1 := granule a
  let g2 := granule (a + len - 1)
  let l : Tbl Engine := s.net.eng.foldl (fun t e =>
      match e.2.resv with
      | some g => if g1 ≤ g ∧ g ≤ g2 then Tbl.upd {} t e.1 { e.2 with resv := none } else t
      | none => t) s.net.eng
  { s with net := { s.net with eng := l } }

/-- The engine that holds a granule (14 R411). [DEDUCED, log 104] -/
def heldBy (s : State) (a : Nat) : Option Nat := (Tbl.look none s.net.holds (granule a)).bind (·.eng)

/-- The first granule of a span that is held (14 R411). -/
def heldIn (s : State) (a len : Nat) : Option Nat :=
  ((List.range (granule (a + len - 1) + 1 - granule a)).map (granule a + ·)).find? fun g => (heldBy s (128 * g)).isSome

/-- Bytes of the internal space are written: reservations on them are broken. -/
def spaceWrite (a len data : Nat) (s : State) : State :=
  let s := breakResv a len { s with mem := memWrite s.mem a len data }
  match placeOf a with
  | some (.loc c _) =>
    let e := engOf s c
    if e.undet then
      setEng c { e with known := (List.range len).foldl (fun t i => Tbl.upd false t (a + i) true) e.known } s
    else s
  | _ => s

/-- Bytes of the internal space are read; a byte of undetermined local memory is a free value. -/
def spaceRead (a : Nat) : Nat → State → Nat × State
  | 0, s => (0, s)
  | n + 1, s =>
    let free := match placeOf a with
      | some (.loc c _) => (engOf s c).undet && !Tbl.look false (engOf s c).known a
      | _ => false
    let (b, s) := if free then ((freshValue s).1 % 256, (freshValue s).2) else ((memByte s.mem a).toNat, s)
    let (r, s) := spaceRead (a + 1) n s
    (b + 256 * r, s)

/-! ### Trays (14 R402, 04 R109-R113) -/

def trayOf (s : State) (k n : Nat) : Tray := Tbl.look {} s.net.tray (32 * k + n)

/-- A tray after a change of depth; a rise of its back-pressure raises its vector where enabled. -/
def setTray (k n : Nat) (t : Tray) (s : State) : State :=
  let b := bpAfter (bits t.ctl 6 0) (bits t.ctl 14 8) t.ents.length t.bp
  let s := { s with net := { s.net with tray := Tbl.upd {} s.net.tray (32 * k + n) { t with bp := b } } }
  if b ∧ ¬ t.bp ∧ bit t.ctl 16 = true then raiseVec (16 * k + bits t.ctl 23 20) (bits t.ctl 42 32) s else s

/-- A push; a push to a full tray is dropped and sets OVR. -/
def trayPush (k n v : Nat) (s : State) : State :=
  let t := trayOf s k n
  if 64 ≤ t.ents.length then
    { s with net := { s.net with tray := Tbl.upd {} s.net.tray (32 * k + n) { t with ovr := true } } }
  else setTray k n { t with ents := t.ents ++ [v % 2 ^ 64] } s

/-- A pop; a pop of an empty tray sets UNDR and gives the last entry popped. -/
def trayPop (k n : Nat) (s : State) : Nat × State :=
  let t := trayOf s k n
  match t.ents with
  | [] => (t.last, { s with net := { s.net with tray := Tbl.upd {} s.net.tray (32 * k + n) { t with undr := true } } })
  | v :: r => (v, setTray k n { t with ents := r, last := v } s)

/-- A flush: each entry is one packet, so every entry is discarded at once. -/
def trayFlush (k n : Nat) (s : State) : State := setTray k n { trayOf s k n with ents := [] } s

/-- The status word of a tray. -/
def trayStatus (t : Tray) : Nat :=
  t.ents.length + b2n t.bp * 2 ^ 8 + b2n t.ents.isEmpty * 2 ^ 9 + b2n t.flush * 2 ^ 10 + b2n t.undr * 2 ^ 11
    + b2n t.ovr * 2 ^ 12

/-! ### The quire of a checker at the network entry -/

/-- A check at an engine's network entry (09 R249): the cluster's own checker, in its quire or on the spine. -/
def entryQuire (c : Nat) : Nat := if c / 16 < 8 then c / 16 else 8

end Sys2Proof.Machine
end

