-- ==== Sys2Proof/Machine/Datapath.lean ====
section
/-!
DEFINITION. What the stages, the Galley, the ports and the units that originate packets share: bindings, streams, frames,
express launch, answers of refused, flushed and timed-out requests, and the transaction tracker.
-/
namespace Sys2Proof.Machine

/-! ### The sort header (03 Table PLN-1) -/

/-- The header of a sort, 128 bits, as trace capture and the debug master present it; the SECDED code in HECC is not given. -/
def headerWord (x : DSort) : Nat :=
  let w := x.cls % 8 * 2 ^ 125 + x.srcq % 8 * 2 ^ 122 + x.midq % 8 * 2 ^ 119 + x.dstq % 8 * 2 ^ 116 + x.sport % 128 * 2 ^ 109
    + x.dport % 128 * 2 ^ 102 + x.dld % 16 * 2 ^ 98 + x.tc % 8 * 2 ^ 95 + x.vc % 8 * 2 ^ 92 + x.seq % 1024 * 2 ^ 82 + b2n x.sop * 2 ^ 81
    + b2n x.eop * 2 ^ 80 + x.plen % 128 * 2 ^ 73 + b2n x.poison * 2 ^ 72 + b2n x.err * 2 ^ 71 + b2n x.trace * 2 ^ 70 + x.spbr % 4096 * 2 ^ 58
    + x.dpbr % 4096 * 2 ^ 46 + x.stamp % 65536 * 2 ^ 30 + x.fidx % 8 * 2 ^ 27 + x.flen % 8 * 2 ^ 24
    + (if x.trace then x.traceid % 4096 * 2 ^ 12 else 0) + b2n x.orig * 2 ^ 11
  w + Config.checkCode w % 256

/-! ### Bindings (02 Table FAB-2) -/

/-- Element `i` of an instance number, counted from the outermost. -/
def elemAt (key i : Nat) : Nat := key / 16777216 ^ i % 65536

/-- The vPPB that a downstream port, or one of its LDs, is bound to. -/
def boundTo (s : State) (port ld : Nat) : Option (Nat × Nat) :=
  match (s.listed o4110_01).find? fun e =>
      bits e.2 31 30 != 0 && bits e.2 23 17 == port && bits e.2 27 24 == ownPos s
      && (bits e.2 29 28 == 0 || bits e.2 16 13 == ld) with
  | some e => some (elemAt e.1 0, elemAt e.1 1)
  | none => none

/-- Every vPPB bound to a port or to any of its LDs. -/
def vppbsOf (s : State) (port : Nat) : List (Nat × Nat) :=
  ((s.listed o4110_01).filter fun e =>
      bits e.2 31 30 != 0 && bits e.2 23 17 == port && bits e.2 27 24 == ownPos s).map
    fun e => (elemAt e.1 0, elemAt e.1 1)

/-- The member, VCS and vPPB that a target here is bound to on another member (02 R60): a whole port, or the LD. -/
def farBound (s : State) (port ld : Nat) : Option (Nat × Nat × Nat) :=
  match Tbl.look none s.forme.bound (port * 32) with
  | some b => some b
  | none => Tbl.look none s.forme.bound (port * 32 + 16 + ld)

/-- The port, or an LD of it, is bound to a vPPB of another member. -/
def boundFar (s : State) (port : Nat) : Bool := s.forme.bound.any fun e => e.1 / 32 == port

/-- The Folio port a route leaves by: PORT, or ALTPORT once PORT's link is declared down (02 R62). [DEDUCED, log 25] -/
def routePort (s : State) (e : Nat) : Nat :=
  if bit e 11 ∧ linkOf s (bits e 29 23) = 0 then bits e 18 12 else bits e 29 23

/-- The port that what goes back to a requester leaves by: its own, or, of a requester on another member, that of its PBR ID's route (02 R62). -/
def replyPort (s : State) (port spbr : Nat) : Nat :=
  let e := s.val o4180_01 [pPBR spbr]
  if roleOf s port = 3 ∧ spbr < 0xFFF ∧ bit e 31 = true ∧ bit e 30 = false then routePort s e else port

/-- A whole port is bound to a vPPB of VCS `n`: what a host may retrain (15 Table ODX-5). -/
def hostBound (s : State) (n port : Nat) : Bool :=
  (s.listed o4110_01).any fun e =>
    bits e.2 31 30 != 0 && bits e.2 29 28 == 0 && bits e.2 23 17 == port && bits e.2 27 24 == ownPos s && elemAt e.1 0 == n

/-- The VCS a packet of a port comes from, and its member: an upstream port's own, or that of the vPPB the port or LD is bound to
(05 R138). -/
def sourceOf (s : State) (port ld : Nat) : Option (Nat × Nat) :=
  if roleOf s port = 1 then (vcsOfUp s port).map fun n => (ownPos s, n)
  else match boundTo s port ld with
    | some b => some (ownPos s, b.1)
    | none => (farBound s port ld).map fun b => (b.1, b.2.1)

def sourceVcs (s : State) (port ld : Nat) : Option Nat := (sourceOf s port ld).map (·.2)

/-- The initiator index of a request entering at a port (09 Table FRK-2). -/
def initOf (s : State) (port ld : Nat) : Nat :=
  if roleOf s port = 1 then (vcsOfUp s port).getD 0x1FFF else 0x40 + 16 * port + ld

/-! ### Virtual channels (03 R83, 11 Table LNK-7) -/

/-- The VC that a port maps a traffic class to: what the VC resource controls of its bridge say, the traffic class in the map of an enabled resource;
VC 0 where none does, and at a Folio port. [PRESUMED, log 22] -/
def egressVc (s : State) (port ld tc : Nat) : Nat :=
  let fn := if roleOf s port = 1 then (vcsOfUp s port).map fun n => n * 1024 + 512
    else if roleOf s port = 2 then (boundTo s port ld).map fun b => b.1 * 1024 + 514 + b.2
    else none
  match fn with
  | none => 0
  | some f =>
    match ([0, 1, 2, 3] : List (Fin 4)).find? fun k =>
        decide (k.val < s.val o2140_01 [pP port]) && bit (cfgOf s f (.vcCtl k)) 31 && bit (cfgOf s f (.vcCtl k)) tc with
    | some k => bits (cfgOf s f (.vcCtl k)) 26 24 % 4
    | none => 0

/-- A bulk sort with the VC of its egress port. -/
def onVc (s : State) (x : DSort) : DSort :=
  if x.cls < 4 ∨ x.unit.isSome then x else
  let v := egressVc s x.dport x.dld x.tc
  { x with vc := v, pkt := { x.pkt with vc := Fin.ofNat 8 v } }

/-! ### The express hash (06 R155) -/

/-- The exclusive-OR of the sixteen 3-bit groups of A[59:12]. -/
def homeQuire (a : Nat) : Nat :=
  (List.range 16).foldl (fun h k => h ^^^ bits a (14 + 3 * k) (12 + 3 * k)) 0

/-- A quire's phase of live repair (18 R523, R524): 0 none, 1 draining, 2 substituted, 3 returning. -/
def repairPhase (s : State) (m : Nat) : Nat := Tbl.look 0 s.boot.phase m

/-- The quire that express sorts for quire `m` pass: itself, or `(m + 4) mod 8` while it is contained or substituted (16 R463, 18 R523). -/
def substQuire (s : State) (m : Nat) : Nat :=
  if s.val o9050_01 [pQ m] = 1 ∨ 2 ≤ repairPhase s m then (m + 4) % 8 else m

/-- The intermediate of a bulk sort that the rotation gives `m`: the substitution begins as the quire begins to drain (18 R523). -/
def bulkQuire (s : State) (m : Nat) : Nat :=
  if s.val o9050_01 [pQ m] = 1 ∨ 1 ≤ repairPhase s m then (m + 4) % 8 else m

/-- An express sort that opens a transaction: REQ, and DAT of M2S RwD (18 R523). -/
def opens (x : DSort) : Bool := x.cls == 3 || x.pkt.op == .memWr || x.pkt.op == .memWrPtl

/-- A sort is held in its launch queue: it would open a transaction at a quire that drains, or at the substitute of one that returns. -/
def expressHeld (s : State) (x : DSort) : Bool :=
  opens x && (repairPhase s x.midq == 1
    || (repairPhase s (homeQuire x.pkt.addr) == 3 && x.midq == (homeQuire x.pkt.addr + 4) % 8))

/-! ### Frames (03 R83-R85, R586) -/

/-- Open frames at quire `i` for egress quire `e` close: they join the closed frames in the order of their stream keys, which the manual
leaves open. [DESIGN CHOICE, log 184] -/
def closeFrames (i e : Nat) (s : State) : State :=
  let fs := s.stg.frames.filter fun f => match f.2.sorts with
    | x :: _ => x.srcq == i && x.dstq == e
    | [] => false
  { s with stg := { s.stg with
      frames := s.stg.frames.filter fun f => match f.2.sorts with
        | x :: _ => !(x.srcq == i && x.dstq == e)
        | [] => true
      closed := Tbl.mod [] s.stg.closed (8 * i + e) (· ++ fs.map (·.2.sorts)) } }

/-- One open frame closes. -/
def closeFrame (key : Nat) (s : State) : State :=
  match (Tbl.look {} s.stg.frames key).sorts with
  | [] => s
  | x :: r =>
    { s with stg := { s.stg with
        frames := Tbl.upd {} s.stg.frames key {}
        closed := Tbl.mod [] s.stg.closed (8 * x.srcq + x.dstq) (· ++ [x :: r]) } }

/-- The third condition of R84: with no closed frame waiting for an egress quire, every open frame for it closes. -/
def testFrames (i e : Nat) (s : State) : State :=
  if (Tbl.look [] s.stg.closed (8 * i + e)).isEmpty then closeFrames i e s else s

/-- A numbered sort joins its stream's open frame, which closes at 8 sorts (03 R84). -/
def joinFrame (x : DSort) (s : State) : State :=
  let k := streamKey x
  let n := Tbl.look 0 s.stg.seq k
  let y := { x with seq := n }
  let f := Tbl.look {} s.stg.frames k
  let f' : Frame := { since := if f.sorts.isEmpty then s.clk.now else f.since, sorts := f.sorts ++ [y] }
  let s := { s with stg := { s.stg with
      seq := Tbl.upd 0 s.stg.seq k ((n + 1) % 1024)
      frames := Tbl.upd {} s.stg.frames k f' } }
  if f'.sorts.length = 8 then closeFrame k s else s

/-- The sorts a bulk packet is cut into (01 "The path of a bulk packet"): 112 payload bytes each, SOP on the first and
EOP on the last. -/
def cutSorts (x : DSort) (bytes : Nat) : Nat → Bool → List DSort
  | 0, _ => []
  | n + 1, first =>
    { x with sop := first, eop := n == 0, plen := min 112 bytes } :: cutSorts x (bytes - 112) n false

/-- The sorts of a packet from its header fields. -/
def sortsOf (x : DSort) : List DSort :=
  if x.cls < 4 then [{ x with sop := true, eop := true, plen := min 112 (x.pkt.bytes + 16) }]
  else cutSorts x x.pkt.charge x.pkt.sorts true

/-- Sorts of bulk packets that wait at quire `i`: in open and closed frames and in bulk launch queues. -/
def launchHeld (s : State) (i : Nat) : Nat :=
  ((s.stg.frames.map fun f => if (f.2.sorts.head?.map (·.srcq)) == some i then f.2.sorts.length else 0).sum)
  + (List.range 8).foldl (fun n e => n + ((Tbl.look [] s.stg.closed (8 * i + e)).map (·.length)).sum) 0
  + (List.range 64).foldl (fun n j => n + (Tbl.look [] s.stg.bulkQ (64 * i + j)).length) 0

/-- Launch room: the frame buffers of a quire, 4,096 sorts with the collation buffer's 512 taken off (01 Table ARC-3). -/
def launchRoom (s : State) (i : Nat) : Nat := 3584 - launchHeld s i

/-- A bulk packet enters frame assembly at its ingress quire. -/
def assemble (x : DSort) (s : State) : State :=
  testFrames x.srcq x.dstq ((sortsOf x).foldl (fun s y => joinFrame y s) s)

/-- An express sort takes its class credit and enters the launch queue of its intermediate, which has room for every credit (04 R124). An
admitted message has found one free; a sort that the block originates waits for one outside the launch queue. -/
def launchExpress (x : DSort) (s : State) : State :=
  let n := creditOf s x.srcq x.midq x.cls
  let k := creditKey x.srcq x.midq x.cls
  let x := { x with plen := min 112 x.pkt.charge }
  if n = 0 then { s with stg := { s.stg with expWait := Tbl.mod [] s.stg.expWait k (· ++ [x]) } }
  else
    let s := setCredit x.srcq x.midq x.cls (n - 1) s
    { s with stg := { s.stg with expQ := Tbl.mod [] s.stg.expQ k (· ++ [x]) } }

/-! ### Every sort in the device (05 R140, 09 R273) -/

/-- Every sort between admission and its link, but for those at a home: in frames, launch queues, stage and egress queues, on its way, in
collation and in staging. -/
def flowing (s : State) : List DSort :=
  s.stg.frames.flatMap (·.2.sorts)
  ++ s.stg.closed.flatMap (fun e => e.2.flatten)
  ++ s.stg.expQ.flatMap (·.2)
  ++ s.stg.expWait.flatMap (·.2)
  ++ s.stg.bulkQ.flatMap (fun e => e.2.map (·.x))
  ++ s.gal.queues.flatMap (fun e => e.2.ents.map (·.x))
  ++ s.stg.toEgress.flatMap (fun e => e.2.map (·.x))
  ++ s.stg.coll.flatMap (fun e => e.2.map (·.x))
  ++ s.egr.staging.flatMap (fun e => e.2.flatMap fun x => List.replicate x.pkt.sorts x)

/-- Every sort in the device. -/
def allSorts (s : State) : List DSort := flowing s ++ s.stg.toHome.flatMap fun e => e.2.map (·.x)

/-! ### Egress entries of answers (04 R125, 06 R170, R182) -/

/-- An answer of class `c`, 0 RSP or 1 DAT, that an express request draws. -/
def draws (o : MsgOp) (c : Nat) : Bool :=
  if c = 0 then o.cls < 4 && (o.tracked || o == .biConflict) else o == .memRd || o == .memRdData || o == .memRdFwd || o == .d2hReq

/-- The express requests of ports that were admitted and are not answered: on their way to a device, in the trackers, and at their homes. -/
def unanswered (s : State) : List DSort :=
  ((flowing s).filter fun x => !x.home) ++ s.lnk.track.flatMap (fun e => e.2.map (·.x))
  |>.filter (fun x => !x.orig && !x.fromHome)
  |> (· ++ (s.home.lines.flatMap fun e => e.2.reqs.flatMap fun r => r.x :: r.acks) ++ s.home.wbuf.flatMap fun e => e.2.map (·.x))

/-- The express egress queue of class RSP or DAT of a port, 64 sorts, has a free entry: one is held by each sort of the class on its way to
it, and by each answer that a request of the port awaits. -/
def egressFree (s : State) (p c : Nat) : Bool :=
  let onWay := (flowing s).filter fun x => x.cls == c && x.dport == p && x.unit.isNone && !x.home
  let coming := (s.gal.intake.flatMap (·.2)).filter fun r => r.cls == c && r.dport == p && r.unit.isNone && !r.home && !r.pkt.op.tracked
  let owed := (unanswered s).filter fun x => !x.orig && draws x.pkt.op c && replyPort s x.sport x.spbr == p
  decide (onWay.length + coming.length + owed.length < 64)

/-! ### The admission of bulk packets (04 R121-R123) -/

/-- The map bits a quire acts on: every bit of a sender counts as 1 until a good map (04 R129). -/
def eqBit (s : State) (i x q : Nat) : Bool :=
  let m := Tbl.look {} s.gal.mapIn (8 * i + quireOf x)
  !m.good || decide ((256 * (x % 16) + q) ∈ m.map.eqbp)

def sqBit (s : State) (i x : Nat) : Bool :=
  (List.range 8).any fun e =>
    let m := Tbl.look {} s.gal.mapIn (8 * i + e)
    !m.good || decide (x ∈ m.map.sqbp)

/-- The shared part S(i) of quire `i`'s grants (04 R122). -/
def sharedPart (s : State) (i : Nat) : Nat :=
  10496 - ((List.range 16).map fun j => s.val o4034_01 [pP (16 * i + j)]).sum

/-- The draw on the shared part that `n` more sorts need, and the present share (04 R123). -/
def sharesOf (s : State) (p e n : Nat) : Nat × Nat :=
  let u := s.val o4034_03 [pP p, pQ e]
  let r := s.val o4034_01 [pP p]
  (u - r, (u + n - r) - (u - r))

/-- The account check of R123. -/
def accountOk (s : State) (p e n : Nat) : Bool :=
  let (sh, past) := sharesOf s p e n
  if past = 0 then true else
  let free := sharedPart s (quireOf p) - s.val o4034_04 [pQ (quireOf p), pQ e]
  decide (past ≤ free) && decide ((sh + past) * 8 ≤ 2 ^ s.val o4034_02 [pP p] * free)

/-! ### Packets the block originates (03 R585, 06 R161, R590) -/

/-- An originated bulk packet is charged (03 R585): a port controller's to the account of its port, another unit's to an
account of its own, which draws only on S(i). -/
def chargeOrigin (q code e n : Nat) (s : State) : State :=
  if code < 16 then
    let (_, past) := sharesOf s (16 * q + code) e n
    s.put o4034_03 [pP (16 * q + code), pQ e] (s.val o4034_03 [pP (16 * q + code), pQ e] + n)
    |>.put o4034_04 [pQ q, pQ e] (s.val o4034_04 [pQ q, pQ e] + past)
  else
    let g := Tbl.mod 0 s.gal.origUsed ((q * 32 + code) * 8 + e) (fun k => k + n)
    let s' : State := { s with gal := { s.gal with origUsed := g } }
    s'.put o4034_04 [pQ q, pQ e] (s.val o4034_04 [pQ q, pQ e] + n)

/-- The account check of an originated packet: that of its port, or with reservation 0 and a threshold of 1 (03 R585). -/
def originOk (s : State) (q code e n : Nat) : Bool :=
  if code < 16 then accountOk s (16 * q + code) e n
  else
    let free := sharedPart s q - s.val o4034_04 [pQ q, pQ e]
    decide (Tbl.look 0 s.gal.origUsed ((q * 32 + code) * 8 + e) + n ≤ free)

/-- The staging buffer and credit type of a bulk packet at its egress port (05 R137). -/
def stagingKey (x : DSort) : Nat := x.dport * 32 + x.pkt.vc.val % 4 * 3 + x.pkt.op.credType

/-! ### Staging (05 R137) -/

/-- Posted packets staged in a VC: headers and bytes. -/
def postedHeld (s : State) (p vc : Nat) : Nat × Nat :=
  ((Tbl.look [] s.egr.staging (p * 4 + vc)).filter (·.pkt.op.posted)).foldl
    (fun a x => (a.1 + 1, a.2 + x.pkt.bytes)) (0, 0)

/-- Bytes a staging buffer holds: posted and completion 16 KB, non-posted 4 KB; each 64 headers. -/
def stagingBytes (t : Nat) : Nat := if t = 1 then 4096 else 16384

/-- A staging buffer has room for a packet; one that holds its reservation always has. [DEDUCED, log 40] -/
def stagingRoom (s : State) (x : DSort) : Bool :=
  if x.resv then true else
  let t := x.pkt.op.credType
  let used := if t = 0 then postedHeld s x.dport (x.pkt.vc.val % 4)
    else (Tbl.look 0 s.egr.resH (stagingKey x), Tbl.look 0 s.egr.resB (stagingKey x))
  decide (used.1 + 1 ≤ 64) && decide (used.2 + x.pkt.bytes ≤ stagingBytes t)

/-- A header and the data bytes of a packet are reserved (R137). [DEDUCED, log 40] -/
def reserveStaging (x : DSort) (s : State) : State :=
  { s with egr := { s.egr with
      resH := Tbl.mod 0 s.egr.resH (stagingKey x) (· + 1)
      resB := Tbl.mod 0 s.egr.resB (stagingKey x) (· + x.pkt.bytes) } }

/-- The MGT sorts inside the device that go to a port. -/
def mgtInside (s : State) (p : Nat) : Nat := ((allSorts s).filter fun x => x.dport == p && x.cls == 5).length

/-- A non-posted request or a completion to a PCIe or CXL port reserves staging room at its admission. -/
def stages (s : State) (x : DSort) : Bool :=
  x.unit.isNone && roleOf s x.dport != 3 && (x.pkt.op.nonPosted || x.pkt.op.completion)

/-- An originated packet waits: a bulk packet under the checks of 04 R123, an MGT packet until the MGT egress queue of its
port, 64 sorts, has room for it (04 R125); a request or completion for staging room (05 R137). What goes to a unit enters no egress queue. [DEDUCED, log 165] -/
def originHeld (s : State) (x : DSort) : Bool :=
  let n := x.pkt.sorts
  (if x.cls = 5 then decide (64 < mgtInside s x.dport + n)
   else (x.unit.isNone && eqBit s x.srcq x.dport (s.val o4040_03 [pP x.dport])) || sqBit s x.srcq x.dport)
  || !originOk s x.srcq x.sport x.dstq n || decide (launchRoom s x.srcq < n) || (stages s x && !stagingRoom s x)

/-- An originated packet enters frame assembly, or waits behind those of its stream. [DEDUCED, log 165] -/
def askOrigin (s : State) (x : DSort) : State :=
  let w := Tbl.look [] s.gal.orig x.srcq
  if (w.any fun y => streamKey y == streamKey x) || originHeld s x then
    { s with gal := { s.gal with orig := Tbl.upd [] s.gal.orig x.srcq (w ++ [x]) } }
  else
    let keep := stages s x
    assemble { x with resv := keep } (chargeOrigin x.srcq x.sport x.dstq x.pkt.sorts (if keep then reserveStaging x s else s))

/-- The originated packets that wait at quire `q` ask again, oldest first. [DEDUCED, log 165] -/
def askOrigins (q : Nat) (s : State) : State :=
  match Tbl.look [] s.gal.orig q with
  | [] => s
  | w => w.foldl askOrigin { s with gal := { s.gal with orig := Tbl.upd [] s.gal.orig q [] } }

/-- The header fields of a packet that the unit of origin code `code` at quire `q` originates; an express message is pinned by its
line address. [DESIGN CHOICE, log 174] -/
def originSort (s : State) (q code cls : Nat) (pkt : Packet) : DSort := {
  cls := cls, srcq := q, midq := substQuire s (homeQuire pkt.addr), sport := code, tc := pkt.tc.val, vc := pkt.vc.val, orig := true
  poison := pkt.poison, err := pkt.err, stamp := tbNs s % 65536, pid := s.gal.nextOrd, pkt := pkt }

/-- An originated packet sets out: a bulk packet asks for admission. -/
def sendOrigin (x : DSort) (s : State) : State :=
  let s := { s with gal := { s.gal with nextOrd := s.gal.nextOrd + 1 } }
  if x.cls < 4 then launchExpress x s else askOrigin s (onVc s x)

/-- A packet originated at quire `q` by the unit of origin code `code` toward port `dport`. `dpbr` is the target's PBR ID over Folio and
`spbr` the source's, 0xFFF else. -/
def originateAs (q code dport dld cls spbr dpbr : Nat) (pkt : Packet) (s : State) : State :=
  sendOrigin { originSort s q code cls pkt with dstq := quireOf dport, dport := dport, dld := dld, spbr := spbr, dpbr := dpbr } s

/-- A packet of a unit that has no PBR ID of its own. [DESIGN CHOICE, log 174] -/
def originate (q code dport dld cls dpbr : Nat) (pkt : Packet) (s : State) : State := originateAs q code dport dld cls 0xFFF dpbr pkt s

/-- A sort for the unit that sent request `x`: it goes to the quire of the unit, and there to the unit by its code and the request's
number. The manual gives DPORT no value for it: the first port of the quire. [DESIGN CHOICE, log 172] -/
def forUnit (x d : DSort) : DSort :=
  { d with dstq := x.srcq, dport := 16 * x.srcq, dld := 0, dpbr := 0xFFF, unit := some (x.sport, x.pid) }

/-- The home logic of quire `q` sends an express message (06 R161): pinned to the home quire itself. -/
def homeSort (s : State) (q : Nat) (trace : Option Nat) (pkt : Packet) : DSort := {
  cls := pkt.op.cls, srcq := q, midq := q, sport := 0x15, orig := true, fromHome := true, poison := pkt.poison, err := pkt.err
  stamp := tbNs s % 65536, pid := s.gal.nextOrd, trace := trace.isSome, traceid := trace.getD 0, hown := true, pkt := pkt }

/-- The home logic of quire `q` sends an express message toward a port. `hid` is the number the home gives it, 0 for none; `spbr` and
`dpbr` are the PBR IDs over Folio. -/
def homeSend (q dport dld spbr dpbr hid : Nat) (trace : Option Nat) (pkt : Packet) (s : State) : State :=
  sendOrigin { homeSort s q trace pkt with
    dstq := quireOf dport, dport := dport, dld := dld, spbr := spbr, dpbr := dpbr, hid := hid } s

/-- The answers a failed request draws (11 R336, 09 Table FRK-5, 04 Table GAL-3): a completion with error for a bulk
request, poisoned data and a Cmp without state for a CXL.mem read, a Cmp for MemInv and MemClnEvct, an error response for a
write, GO-Err for CXL.cache. -/
def failAnswers (how : FailKind) (p : Packet) : List Packet :=
  let a : Packet := { p with poison := false, err := false, len := 0, data := 0 }
  match p.op with
  | .mRd => [{ a with op := .cpl, err := true, status := if how = .completerAbort then 4 else 1 }]
  | .memRd | .memRdData | .memRdFwd => [{ a with op := .memData, poison := true }, { a with op := .cmp }]
  | .memInv | .memInvNT | .memClnEvct | .biConflict => [{ a with op := .cmp }]
  | .memWr | .memWrPtl | .memWrFwd => [{ a with op := .cmp, err := true }]
  | .d2hReq => [{ a with op := .h2dRsp, err := true }]
  | _ => []

/-- A message for the home logic of quire `m` waits to be taken. -/
def toHomeLogic (m t : Nat) (x : DSort) (s : State) : State :=
  { s with stg := { s.stg with toHome := Tbl.mod [] s.stg.toHome m fun l => l ++ [⟨t, x⟩] } }

/-! ### Answers at the Imposition path (12 R353, R358; 14 R398, R400) -/

/-- Completions of a host read of a BAR, in address order, cut at multiples of the requester's Max_Payload_Size, which the upstream
bridge holds (12 R358). They come from the message logic of the port's quire. [DEDUCED, log 87] -/
def sendCompletions (port mps : Nat) (p : Packet) (poison : Bool) : Nat → Nat → Nat → Nat → State → State
  | 0, _, _, _, s => s
  | fuel + 1, a, len, data, s =>
    let n := min len (mps - a % mps)
    let c : Packet := { p with op := .cplD, addr := a, len := n, data := data % 256 ^ n, dst := some (Fin.ofNat 128 port)
                               poison := poison, err := false, status := 0, last := decide (len ≤ n) }
    let s := originate (quireOf port) 0x15 port 0 5 0xFFF c s
    if len ≤ n then s else sendCompletions port mps p poison fuel (a + n) (len - n) (data / 256 ^ n) s

/-- A host read of a BAR is answered with data. -/
def answerRead (n port : Nat) (p : Packet) (data : Nat) (poison : Bool) (s : State) : State :=
  sendCompletions port (128 * 2 ^ bits (cfgOf s (n * 1024 + 512) .devCtl) 7 5) p poison (p.len + 1) p.addr p.len data s

/-- A host request of a BAR fails: a read completes with a status, 1 Unsupported Request or 4 Completer Abort; a posted write is
discarded. -/
def failRead (port st : Nat) (p : Packet) (s : State) : State :=
  if p.op.posted then s else
  originate (quireOf port) 0x15 port 0 5 0xFFF
    { p with op := .cpl, len := 0, data := 0, status := st, err := true, dst := some (Fin.ofNat 128 port) } s

def setImp (k : Nat) (w : Option ImpWait) (s : State) : State :=
  { s with net := { s.net with imp := Tbl.upd none s.net.imp k w } }

/-- An access through a window has every answer: a host read completes, an engine's load ends, or traps where it failed. The result
of a merge line waits for the line's response. -/
def settleImp (k : Nat) (w : ImpWait) (s : State) : State :=
  if ¬ w.parts.isEmpty then setImp k (some w) s
  else
    match w.who with
    | .host p port =>
      if w.write then setImp k (if w.sent.isEmpty then none else some w) s
      else
        let s := setImp k none s
        if w.status ≠ 0 then failRead port w.status p s
        else answerRead ((vcsOfUp s port).getD 0) port p w.data w.poison s
    | .load c =>
      let s := setImp k none s
      if w.status ≠ 0 ∨ w.poison = true then trap c 5 w.addr s
      else emit (.engine c (some w.data)) (setEng c { engOf s c with wait := none } s)
    | .line _ | .debug => setImp k (some w) s

/-- An access takes a failure. [DEDUCED, log 90] -/
def failImp (st : Nat) (w : ImpWait) : ImpWait := if w.status = 0 then { w with status := st } else w

/-- An answer to a packet of an Imposition path; one that nothing waits for is discarded. [DESIGN CHOICE, log 46] -/
def impAnswer (x : DSort) (s : State) : State :=
  match s.net.imp.find? fun e => match e.2 with
      | some w => w.parts.any (·.pid == x.pid)
      | none => false with
  | some (k, some w) =>
    match w.parts.find? (·.pid == x.pid) with
    | none => s
    | some a =>
      let rest := w.parts.filter fun b => b.pid != a.pid
      let p := x.pkt
      if a.write then settleImp k (if p.err then failImp 4 { w with parts := rest } else { w with parts := rest }) s
      else if p.op = .cmp ∨ p.op = .cmpS ∨ p.op = .cmpE then s
      else if p.err ∨ p.status ≠ 0 ∨ p.op = .cpl ∨ p.op = .memDataNXM then
        settleImp k (failImp (if p.status = 0 then 4 else p.status) { w with parts := rest }) s
      else
        let n := min (if p.op.cls = 4 then p.len else a.len) (a.len - a.got)
        let w := { w with data := w.data + p.data % 256 ^ n * 256 ^ (a.off + a.got), poison := w.poison || p.poison || x.poison }
        let short := decide (a.got + n < a.len)
        if short ∧ ¬ p.last then
          settleImp k { w with parts := w.parts.map fun b => if b.pid = a.pid then { b with got := b.got + n } else b } s
        else
          let w := { w with parts := rest }
          settleImp k (if short then failImp 4 w else w) s
  | _ => s

/-- An answer reaches the unit that originated a request. [DESIGN CHOICE, log 46] -/
def toUnitLogic (x : DSort) (s : State) : State :=
  if x.sport = 0x14 then impAnswer x s
  else { s with stg := { s.stg with toUnit := s.stg.toUnit ++ [⟨s.clk.now, x⟩] } }

/-- A sort that has reached the unit it is for at egress quire `e`: a bulk sort's charge comes home, and the unit takes the packet with
its last sort. -/
def reachUnit (e : Nat) (x : DSort) (s : State) : State :=
  match x.unit with
  | none => s
  | some (code, pid) =>
    let s := if x.cls < 4 then s else returnCharge e x s
    let k := streamKey x
    let bad := x.poison || (!x.sop && Tbl.look false s.stg.unitBad k)
    if ¬ x.eop then { s with stg := { s.stg with unitBad := Tbl.upd false s.stg.unitBad k bad } }
    else
      toUnitLogic { x with
        orig := true, srcq := e, sport := code, pid := pid, unit := none, poison := bad
        pkt := { x.pkt with poison := x.pkt.poison || bad } }
        { s with stg := { s.stg with unitBad := Tbl.upd false s.stg.unitBad k false } }

/-- One answer of a failed request goes to its requester: a port, the home that forwarded it, or an originating unit. It enters stage 1
at quire `q` with the origin code of the port controller that gives it (03 R585, 06 R590). -/
def sendFail (q code : Nat) (x : DSort) (s : State) (a : Packet) : State :=
  let y := originSort s q code a.op.cls a
  if x.fromHome then
    sendOrigin { y with midq := x.midq, dstq := x.midq, home := true, hid := x.hid, hown := x.hown } s
  else if x.orig then sendOrigin (forUnit x y) s
  else
    let d := replyPort s x.sport x.spbr
    originateAs q code d x.pkt.ld.val a.op.cls x.dpbr x.spbr { a with dst := some (Fin.ofNat 128 d) } s

/-- A failed request is answered by the controller of port `p`. -/
def failRequest (p : Nat) (how : FailKind) (x : DSort) (s : State) : State :=
  (failAnswers how x.pkt).foldl (sendFail (quireOf p) (p % 16) x) s

/-- Data credits of 16 bytes that a packet needs. -/
def dataCredits (p : Packet) : Nat := (p.bytes + 15) / 16

/-- A packet's place in its staging buffer is given back. [DEDUCED, log 40] -/
def unreserve (x : DSort) (s : State) : State :=
  if x.sop ∧ x.resv then
    { s with egr := { s.egr with
        resH := Tbl.mod 0 s.egr.resH (stagingKey x) (· - 1)
        resB := Tbl.mod 0 s.egr.resB (stagingKey x) (· - x.pkt.bytes) } }
  else s

/-- An upstream port whose link is down: its VCS is host-absent (02 Table FAB-7). -/
def hostAbsent (s : State) (p : Nat) : Bool := roleOf s p == 1 && linkOf s p == 0

/-- A sort leaves a queue without being sent: its charge or credit comes home, and the first sort of a packet answers
for the packet (04 Table GAL-3, R114): a request by the tracker of its ingress port. A posted packet is counted as discarded, and whatever goes
to a host that is absent (04 R589). -/
def discardSort (q : QRef) (how : FailKind) (x : DSort) (s : State) : State :=
  match q with
  | .stage m _ _ => if x.cls < 4 then returnCredit x.srcq m.val x.cls s else s
  | .home m _ => returnCredit x.srcq m.val x.cls s
  | .egress p _ | .egressCls p _ =>
    let s := unreserve x (if 4 ≤ x.cls then returnCharge (p.val / 16) x s else s)
    let q := if x.orig then p.val else x.sport
    if ¬ x.sop then s
    else if x.pkt.op.tracked then failRequest q how x s
    else if x.pkt.op.posted ∨ hostAbsent s p.val = true then countPort p.val 13 (attrOf x) 1 s
    else s

/-- How a port whose link is lost completes requests: an upstream port with Unsupported Request (02 Table FAB-7), a
downstream port as DPC Completion Control of its vPPB selects (Table FAB-8). -/
def lostHow (s : State) (p ld : Nat) : FailKind :=
  if roleOf s p = 1 then .unsupported else
  match boundTo s p ld with
  | some b => if Tbl.look false s.host.dpcCc (128 * b.1 + b.2) then .unsupported else .completerAbort
  | none => .completerAbort

/-- A PCIe or CXL port has lost its link: what is queued for it is flushed (04 R589). -/
def portLost (s : State) (p : Nat) : Bool := roleOf s p != 3 && linkOf s p == 0

/-- A queue that has emptied leaves the active list. [DEDUCED, log 44] -/
def settleActive (q : QRef) (s : State) : State := if (queueOf s q).ents.isEmpty then leaveActive q s else s

/-! ### Flush, push and pop (04 R109-R117) -/

/-- The flush point: every packet but the one being popped is discarded, and the rest of those being pushed as it arrives. The
queue's deficit is 0 and it leaves the active list (05 R142). -/
def flushNow (q : QRef) (how : FailKind) (s : State) : State :=
  let v := queueOf s q
  let mine := fun (g : GEnt) => v.popping == some (pktId g.x)
  let d := v.drop ++ v.pushing.filter fun i => !v.drop.contains i && v.popping != some i
  let s := setQueue q { v with ents := v.ents.filter mine, drop := d, flush := none, flushing := !d.isEmpty } s
  leaveActive q (settleQueue q ((v.ents.filter fun g => !mine g).foldl (fun s g => discardSort q how g.x s) s))

/-- A flush that waits takes effect at the later of the end of the pop and of the pushes that were in progress (04 R113). -/
def settleFlush (q : QRef) (s : State) : State :=
  let v := queueOf s q
  match v.flush with
  | none => s
  | some (how, ws) =>
    let ws := ws.filter v.pushing.contains
    if ws.isEmpty ∧ v.popping = none then flushNow q how s else setQueue q { v with flush := some (how, ws) } s

/-- A flush is asked for. -/
def flushQueue (q : QRef) (how : FailKind) (s : State) : State :=
  let v := queueOf s q
  settleFlush q (setQueue q { v with flush := some (how, v.pushing) } s)

/-- A sort of a packet that was cut off returns its charge as if it left normally (04 R114). -/
def dropSort (e : Nat) (x : DSort) (s : State) : State := if 4 ≤ x.cls then returnCharge e x s else s

/-- The packets being pushed after a sort has come. -/
def pushingAfter (x : DSort) (l : List PktId) : List PktId :=
  let r := l.filter (· != pktId x)
  if x.eop then r else r ++ [pktId x]

/-- A sort is pushed. The rest of a packet cut off by a flush or a reset is discarded on arrival (04 R113). -/
def pushSort (q : QRef) (ready : Nat) (x : DSort) (s : State) : State :=
  let s := checkQueue q s
  let v := queueOf s q
  if holdsPackets q ∧ v.drop.contains (pktId x) = true then
    let d := if x.eop then v.drop.filter (· != pktId x) else v.drop
    setQueue q { v with drop := d, flushing := v.flushing && !d.isEmpty, pushing := pushingAfter x v.pushing } s
    |> dropSort q.quire x |> settleFlush q
  else
    let (b, s) := pickBuffer q.quire s
    let v' := { v with
      ents := v.ents ++ [⟨b, ready, x⟩]
      headAt := if v.ents.isEmpty then s.clk.now else v.headAt
      pushing := if holdsPackets q then pushingAfter x v.pushing else v.pushing }
    setQueue q v' s |> settleQueue q |> settleFlush q

/-- The next sort of a queue: of the packet being popped, else the head. -/
def nextEntry (v : Queue) : Option (GEnt × List GEnt) :=
  match v.popping with
  | some i => (match takeFirst (fun g : GEnt => pktId g.x == i) v.ents with
    | some r => some r
    | none => v.ents.head?.map fun g => (g, v.ents.tail))
  | none => v.ents.head?.map fun g => (g, v.ents.tail)

/-- A sort is popped; the copies of the pointers are compared (04 R116). A pop of an empty queue sets UNDR (R112). -/
def popSort (q : QRef) (s : State) : Option GEnt × State :=
  let v := queueOf s q
  if v.broken then (none, resetQueue q s) else
  match nextEntry v with
  | none => (none, setQueue q { v with undr := true } s)
  | some (g, r) =>
    let v' := { v with
      ents := r, last := some g.x
      headAt := if (v.ents.head?.map (·.buf)) = some g.buf then s.clk.now else v.headAt
      popping := if holdsPackets q ∧ g.x.eop = false then some (pktId g.x) else none }
    (some g, setQueue q v' (useBank q.quire (g.buf / 4096) s) |> settleQueue q |> settleFlush q)

/-! ### The transaction tracker (11 R336, R337) -/

def tracksOf (s : State) (p : Nat) : List Track := Tbl.look [] s.lnk.track p

def setTracks (p : Nat) (t : List Track) (s : State) : State :=
  { s with lnk := { s.lnk with track := Tbl.upd [] s.lnk.track p t } } |>.put o2130_03 [pP p] t.length

/-- The timeout of a request's entry. -/
def trackTimeout (s : State) (p : Nat) (o : MsgOp) : Nat :=
  if o.cls = 4 then ms (s.val o2130_02 [pP p]) else us (s.val o2130_01 [pP p])

/-- A request leaves the port and takes an entry. [DEDUCED, log 45] -/
def takeTrack (p : Nat) (x : DSort) (s : State) : State :=
  if x.pkt.op.tracked then
    { s with lnk := { s.lnk with nextId := s.lnk.nextId + 1 } }
    |> setTracks p (tracksOf s p ++ [⟨s.lnk.nextId, x, s.clk.now + trackTimeout s p x.pkt.op⟩])
    |> countPort p 32 (attrOf x) 1
  else s

end Sys2Proof.Machine
end

