-- ==== Sys2Proof/Machine/HostRegs.lean ====
section
/-!
DEFINITION. The functions a host sees (12): their configuration registers as named fields, and the errors they show.
-/
namespace Sys2Proof.Machine

/-- Bus Master Enable, bit 2 of Command (PCI Local Bus). [PRESUMED, log 22] -/
def bmeOf (s : State) (fn : Nat) : Bool := bit (cfgOf s fn .command) 2

/-- INTx Disable, bit 10 of Command. [PRESUMED, log 22] -/
def intxOff (s : State) (fn : Nat) : Bool := bit (cfgOf s fn .command) 10

/-- MSI-X Enable, bit 15, and Function Mask, bit 14, of MSI-X Message Control. [PRESUMED, log 22] -/
def msixOn (s : State) (fn : Nat) : Bool := bit (cfgOf s fn .msixCtl) 15
def msixMask (s : State) (fn : Nat) : Bool := bit (cfgOf s fn .msixCtl) 14

/-- D3hot: Power State of PMCSR is 3. [PRESUMED, log 22] -/
def inD3 (s : State) (fn : Nat) : Bool := bits (cfgOf s fn .pmcsr) 1 0 == 3

/-- An uncorrectable error is shown in a function's AER with the header of its packet (PCI Express bit numbers: 12 Poisoned
TLP, 15 Completer Abort, 20 Unsupported Request, 21 ACS Violation). The first error keeps the header log. [PRESUMED, log 22] -/
def setAer (fn : Option Nat) (k : Nat) (p : Packet) (s : State) : State :=
  match fn with
  | none => s
  | some b =>
    let hdr := if (Tbl.look 0 s.host.aer b) = 0 then Tbl.upd none s.host.aerHdr b (some p) else s.host.aerHdr
    { s with host := { s.host with aer := Tbl.mod 0 s.host.aer b (· ||| 2 ^ k), aerHdr := hdr } }

/-- VFs of a VCS that are enabled: VF Enable is bit 0 of SR-IOV Control. [PRESUMED, log 22] -/
def vfsOf (s : State) (n : Nat) : Nat :=
  if bit (cfgOf s (n * 1024) .sriovCtl) 0 then min (cfgOf s (n * 1024) .numVfs) (s.val o4400_02 [pVCS n]) else 0

/-! ### Bindings seen from a VCS (02 Table FAB-2) -/

/-- The binding record of a vPPB. -/
def bindRec (s : State) (n v : Nat) : Nat := s.val o4110_01 [pVCS n, pV v]

def recState (r : Nat) : Nat := bits r 31 30
def recKind (r : Nat) : Nat := bits r 29 28
def recDev (r : Nat) : Nat := bits r 27 24
def recPort (r : Nat) : Nat := bits r 23 17
def recLd (r : Nat) : Nat := bits r 16 13

/-- A vPPB carries traffic while it is BOUND or UNBIND_PENDING. -/
def bindLive (r : Nat) : Bool := recState r == 2 || recState r == 3

/-- The bridge function a request entered: the upstream bridge, or the vPPB its port or LD is bound to. -/
def bridgeOf (s : State) (port ld : Nat) : Option Nat :=
  if roleOf s port = 1 then (vcsOfUp s port).map fun n => n * 1024 + 512
  else (boundTo s port ld).map fun b => b.1 * 1024 + 514 + b.2

end Sys2Proof.Machine
end

