-- ==== Sys2Proof/Machine/HostIrq.lean ====
section
/-!
DEFINITION. The interrupts of a VCS's functions (12 R359-R361) and the Imprint generation (R351).
-/
namespace Sys2Proof.Machine

/-- An MSI-X table entry: address [63:0], data [95:64], mask in bit 96, set at reset. [PRESUMED, log 22] -/
def msixEntry (s : State) (fn v : Nat) : Nat := Tbl.look (2 ^ 96) s.host.msix (fn * 2048 + v)

def setMsixEntry (fn v e : Nat) (s : State) : State :=
  { s with host := { s.host with msix := Tbl.upd (2 ^ 96) s.host.msix (fn * 2048 + v) e } }

def setPba (fn v : Nat) (b : Bool) (s : State) : State :=
  { s with host := { s.host with pba := Tbl.upd false s.host.pba (fn * 2048 + v) b } }

def pbaOf (s : State) (fn v : Nat) : Bool := Tbl.look false s.host.pba (fn * 2048 + v)

/-- An FLR of the function runs, so that it sends no interrupt (12 Table HST-11). -/
def flrRuns (s : State) (fn : Nat) : Bool :=
  (Tbl.look none s.host.flr fn).isSome || (Tbl.look none s.host.flr (fn / 1024 * 1024)).isSome

/-- The originating unit of a function's messages: the message logic of the upstream port's quire (03 R585). [DEDUCED, log 87] -/
def messageUnit (s : State) (fn : Nat) : Nat × Nat := (quireOf ((upOf s (fn / 1024)).getD 0), 0x15)

/-- The MSI-X message of a vector: a posted write of 4 bytes toward the host, in the stream of the unit `src` (quire, origin
code) and traffic class that carries what it announces (12 R359); class MGT where the message logic sends it (03 R585). [DEDUCED, log 87] -/
def sendMsix (src : Nat × Nat) (tc fn v : Nat) (s : State) : State :=
  match upOf s (fn / 1024) with
  | none => s
  | some p =>
    let e := msixEntry s fn v
    originate src.1 src.2 p 0 (if src.2 = 0x15 then 5 else 4) 0xFFF
      { op := .mWr, addr := bits e 63 0, len := 4, data := bits e 95 64, tc := Fin.ofNat 8 tc } s

/-- Assert_INTA or Deassert_INTA (PCI Express message codes 0x20 and 0x24). [PRESUMED, log 86] -/
def sendIntx (fn : Nat) (up : Bool) (s : State) : State :=
  let s := { s with host := { s.host with intx := Tbl.upd false s.host.intx fn up } }
  match upOf s (fn / 1024) with
  | none => s
  | some p => originate (messageUnit s fn).1 0x15 p 0 5 0xFFF { op := .msg, data := if up then 0x20 else 0x24 } s

/-- Events of a function that are pending. -/
def anyEvent (s : State) (fn : Nat) : Bool := s.host.events.any fun e => e.1 / 2048 == fn

def setEvent (fn v : Nat) (b : Bool) (s : State) : State :=
  { s with host := { s.host with events := Tbl.upd false s.host.events (fn * 2048 + v) b } }

/-- The INTA line follows the pending events while MSI-X is off and Interrupt Disable is clear; a VF has none. -/
def settleIntx (fn : Nat) (s : State) : State :=
  let want := anyEvent s fn && !msixOn s fn && !intxOff s fn && decide (fn % 1024 = 0)
  if want = Tbl.look false s.host.intx fn then s else sendIntx fn want s

/-- The function's MSI-X may go out: Bus Master Enable and not D3hot (12 R367, R369). -/
def mayMaster (s : State) (fn : Nat) : Bool := bmeOf s fn && !inD3 s fn

/-- An event on a vector (12 R361): MSI-X, its PBA bit where masked or held back, or INTA. -/
def signalFrom (src : Nat × Nat) (tc fn v : Nat) (s : State) : State :=
  if flrRuns s fn then s
  else if msixOn s fn then
    if msixMask s fn ∨ bit (msixEntry s fn v) 96 = true ∨ ¬ mayMaster s fn then setPba fn v true s
    else sendMsix src tc fn v s
  else settleIntx fn (setEvent fn v true s)

def signal (fn v : Nat) (s : State) : State := signalFrom (messageUnit s fn) 0 fn v s

/-- The source of an event is clear (12 R361). -/
def clearEvent (fn v : Nat) (s : State) : State := settleIntx fn (setEvent fn v false s)

/-- Pending messages that may go out now are sent: after an unmask, Bus Master Enable or D0. -/
def releasePba (fn : Nat) (s : State) : State :=
  if msixOn s fn ∧ ¬ msixMask s fn ∧ mayMaster s fn = true then
    (s.host.pba.filter fun e => e.1 / 2048 == fn && !bit (msixEntry s fn (e.1 % 2048)) 96).foldl (fun s e =>
      sendMsix (messageUnit s fn) 0 fn (e.1 % 2048) (setPba fn (e.1 % 2048) false s)) s
  else s

/-- The content of a VCS's Imprint table changes: GEN advances, and vector 0 is raised (12 R351). -/
def imprintChange (n : Nat) (s : State) : State :=
  if s.flag o4100_02 [pVCS n] then
    signal (n * 1024) 0 (s.put o4400_03 [pVCS n] ((s.val o4400_03 [pVCS n] + 1) % 2 ^ 32))
  else s

end Sys2Proof.Machine
end

