-- ==== Sys2Proof/Machine/Domains.lean ====
section
/-!
DEFINITION. Composite addresses, ranges and sharing domains (06 Tables COH-1 and COH-2, 02 R51-R55), and the home view of a
slot (06 Table COH-10).
-/
namespace Sys2Proof.Machine

/-! ### Composite addresses and ranges -/

def caDev (a : Nat) : Nat := bits a 63 60
def caPort (a : Nat) : Nat := bits a 59 53
def caLd (a : Nat) : Nat := bits a 52 49

def rangeBase (w : Nat) : Nat := bits w 63 28
def rangeBlocks (w : Nat) : Nat := bits w 27 8
def rangeMode (w : Nat) : Nat := bits w 7 6
def rangeDom (w : Nat) : Nat := bits w 5 2

/-- The active range entry that covers an address: its number and entry. -/
def rangeAt (s : State) (a : Nat) : Option (Nat × Nat) :=
  ((s.listed o5020_01).find? fun e =>
    rangeMode e.2 != 0 && decide (rangeBase e.2 ≤ a / 2 ^ 28)
    && decide (a / 2 ^ 28 < rangeBase e.2 + rangeBlocks e.2)).map fun e => (elemAt e.1 0, e.2)

/-- The address lies in a homed or broadcast-homed range of this member (06 R156, R157). -/
def homedHere (s : State) (a : Nat) : Bool :=
  caDev a == ownPos s &&
  (match rangeAt s a with
  | some (_, w) => rangeMode w == 1 || rangeMode w == 2
  | none => false)

/-! ### Slots of a domain -/

def slotPath (d n : Nat) : Path := [pDOM d, pS n]

/-- 0 FREE, 1 MEMBER, 2 LEAVING. -/
def slotState (s : State) (d n : Nat) : Nat := s.val o5010_02 (slotPath d n)

/-- The member that a slot names, also while it is in LEAVING: [11:8] device position, [5:0] VCS. Past the domains, 16 stands for the hosts
of this device, by VCS: what a recall in a pass-through range snoops (08 R232). [DESIGN CHOICE, log 183] -/
def slotWord (s : State) (d n : Nat) : Nat :=
  if 16 ≤ d then ownPos s * 256 + n
  else if slotState s d n = 2 then Tbl.look 0xFFFF s.home.leaving (64 * d + n) else s.val o5010_01 (slotPath d n)

/-- The slot that a VCS of a member holds in a domain; with `leaving`, a slot in LEAVING counts. [DEDUCED, log 51] -/
def domSlot (s : State) (d dev vcs : Nat) (leaving : Bool) : Option Nat :=
  if 16 ≤ d then (if dev = ownPos s then some vcs else none) else
  (List.range 64).find? fun n =>
    (slotState s d n == 1 || (leaving && slotState s d n == 2))
    && bits (slotWord s d n) 11 8 == dev && bits (slotWord s d n) 5 0 == vcs

/-- The slot of the VCS a message comes from. [DEDUCED, log 51] -/
def slotFrom (s : State) (d : Nat) (p : Packet) (leaving : Bool) : Option Nat :=
  match p.vcs with
  | some v => domSlot s d p.dev.val v.val leaving
  | none => none

/-- Every slot of a domain in MEMBER, as a mask. -/
def memberMask (s : State) (d : Nat) : Nat :=
  (List.range 64).foldl (fun m n => if slotState s d n = 1 then m + 2 ^ n else m) 0

/-- 0 NORMAL, 1 ABSENT, 2 SWEEPING, 3 ISOLATED. -/
def homeView (s : State) (d n : Nat) : Nat := s.val o5030_06 (slotPath d n)

/-- The VCS that a member word names is active: this member's own, or another's as it last told. -/
def wordActive (s : State) (w : Nat) : Bool :=
  if bits w 11 8 = ownPos s then s.val o4100_05 [pVCS (bits w 5 0)] == 2
  else Tbl.look 0 s.forme.vcsState (64 * bits w 11 8 + bits w 5 0) == 2

/-- The upstream port of a slot of this member, when its VCS has one. -/
def slotPort (s : State) (d n : Nat) : Option Nat :=
  let w := slotWord s d n
  if w = 0xFFFF ∨ bits w 11 8 ≠ ownPos s then none
  else
    let v := bits w 5 0
    let p := s.val o4100_01 [pVCS v]
    if s.flag o4100_02 [pVCS v] ∧ p < 128 then some p else none

/-- A request of a SWEEPING slot to its domain's ranges is held at its intake (06 Table COH-10). -/
def sweepHolds (s : State) (p : Packet) : Bool :=
  match rangeAt s p.addr with
  | some (_, w) => (p.op.channel == 0 || p.op.channel == 1) &&
      (match slotFrom s (rangeDom w) p true with
      | some n => homeView s (rangeDom w) n == 2
      | none => false)
  | none => false

end Sys2Proof.Machine
end

