-- ==== Sys2Proof/Machine/Directory.lean ====
section
/-!
DEFINITION. The directory slices (07): their arrays, lookup, what a region entry can cover, promotion, folding, victims and
the reach of the rebuild sweep.
-/
namespace Sys2Proof.Machine

/-! ### Names (07 R193, R194) -/

def regionSet (a : Nat) : Nat := bits a 25 12 ^^^ bits a 39 26 ^^^ bits a 53 40 ^^^ bits a 59 54
def regionTag (a : Nat) : Nat := bits a 59 26

/-- The region of an entry: its set and tag give A[59:12] (R194). -/
def regionAddr (s : State) (k : Nat) (e : DirReg) : Nat :=
  let hi := e.tag * 2 ^ 26
  ownPos s * 2 ^ 60 + hi + ((k / 16) ^^^ bits hi 39 26 ^^^ bits hi 53 40 ^^^ bits hi 59 54) * 4096

def regEnt (s : State) (q k : Nat) : DirReg := Tbl.look {} s.dir.reg (q * 262144 + k)

def setReg (q k : Nat) (e : DirReg) (s : State) : State :=
  { s with dir := { s.dir with reg := Tbl.upd {} s.dir.reg (q * 262144 + k) e } }

def lineEnt (s : State) (q i : Nat) : DirLine := Tbl.look {} s.dir.line (q * 1048576 + i)

def setLine (q i : Nat) (e : DirLine) (s : State) : State :=
  { s with dir := { s.dir with line := Tbl.upd {} s.dir.line (q * 1048576 + i) e } }

/-- The valid entry of a region: set·16 + way. -/
def findReg (s : State) (q a : Nat) : Option Nat :=
  ((List.range 16).map (regionSet a * 16 + ·)).find? fun k =>
    let e := regEnt s q k
    e.valid && e.tag == regionTag a

/-- The valid entries of a slice: their keys. -/
def validRegs (s : State) (q : Nat) : List Nat :=
  (s.dir.reg.filter fun e => e.1 / 262144 == q && e.2.valid).map (·.1 % 262144)

/-- Slots of a vector. -/
def slotsOf (m : Nat) : List Nat := (List.range 64).filter (bit m ·)
def popcount (m : Nat) : Nat := (slotsOf m).length

/-- The vector without a slot. -/
def dropSlot (m n : Nat) : Nat := if bit m n then m - 2 ^ n else m

/-- The line entry of an address in a promoted region. -/
def lineIdx (e : DirReg) (a : Nat) : Nat := 64 * e.block + bits a 11 6

/-! ### Blocks (07 R199, R202) -/

/-- The lowest-numbered free block. -/
def firstFree (s : State) (q : Nat) : Nat → Nat → Option Nat
  | 0, _ => none
  | n + 1, b => if Tbl.look none s.dir.owner (q * 16384 + b) = none then some b else firstFree s q n (b + 1)

def blocksUsed (s : State) (q : Nat) : Nat := (s.dir.owner.filter fun e => e.1 / 16384 == q).length

def setOwner (q b : Nat) (o : Option Nat) (s : State) : State :=
  { s with dir := { s.dir with owner := Tbl.upd none s.dir.owner (q * 16384 + b) o } }

/-- A block is freed and its line entries are empty. -/
def freeBlock (q b : Nat) (s : State) : State :=
  (List.range 64).foldl (fun s j => setLine q (64 * b + j) {} s) (setOwner q b none s)

/-- A region is promoted with the lowest-numbered free block (R202): every line entry takes the region's state and vector,
and SHARERS becomes the summary. False where no block is free. -/
def promote (q k : Nat) (s : State) : Bool × State :=
  match firstFree s q 16384 0 with
  | none => (false, s)
  | some b =>
    let e := regEnt s q k
    let s := setOwner q b (some k) (setReg q k { e with prom := true, block := b, state := 0 } s)
    (true, (List.range 64).foldl (fun s j => setLine q (64 * b + j) { sharers := e.sharers, state := e.state } s) s)

/-- An entry is invalidated, and its block freed (R208). -/
def dropReg (q k : Nat) (s : State) : State :=
  let e := regEnt s q k
  setReg q k {} (if e.prom then freeBlock q e.block s else s)

/-- Both arrays and the block owner table of a slice are emptied (Table DIR-4). -/
def clearSlice (q : Nat) (s : State) : State :=
  { s with dir := { s.dir with
      reg := s.dir.reg.filter fun e => e.1 / 262144 != q
      line := s.dir.line.filter fun e => e.1 / 1048576 != q
      owner := s.dir.owner.filter fun e => e.1 / 16384 != q } }

/-! ### Lookup and cover (07 R200, R201) -/

/-- What tracks a line. -/
inductive Grain where
  | none | region | line
  deriving DecidableEq, Repr

/-- A lookup: the grain, the state and the vector; REF and TOUCH are set. -/
def lookupDir (q a : Nat) (s : State) : (Grain × Nat × Nat) × State :=
  match findReg s q a with
  | .none => ((.none, 0, 0), s)
  | some k =>
    let e := regEnt s q k
    let s := setReg q k { e with ref := true } s
    if e.prom then
      let l := lineEnt s q (lineIdx e a)
      ((.line, l.state, l.sharers), setLine q (lineIdx e a) { l with touch := true } s)
    else ((.region, e.state, e.sharers), s)

/-- `cover` of R201: the state and vector with which a region entry covers a result, none at a contention. A region in P takes
the result itself. -/
def coverOf (e : DirReg) (st held : Nat) : Option (Nat × Nat) :=
  if e.state = 3 then some (st, held) else
  let u := e.sharers ||| held
  let em := e.state == 2 || st == 2
  if u = 0 then some (0, 0)
  else if popcount u = 1 then some (if em then 2 else 1, u)
  else if em then none
  else some (1, u)

/-- A region entry with a result that it covers. -/
def DirReg.with (e : DirReg) (st held : Nat) : DirReg :=
  match coverOf e st held with
  | some (st, u) => { e with state := st, sharers := u }
  | none => e

/-- The region entry as it will be once the transactions that hold its lines in T have ended: each has been found coverable at its lookup,
with the ones before it (R201). -/
def regAhead (s : State) (q k : Nat) : DirReg :=
  (s.home.lines.filter fun l => l.2.begun && l.2.dir && l.2.q == q && findReg s q (l.1 * 64) == some k).foldl
    (fun e l => e.with l.2.next l.2.nextHeld) (regEnt s q k)

/-- A result is written where its line is tracked (R198, R201): the line entry, or the region entry that covers it. -/
def commitDir (q a st held : Nat) (last : Option Nat) (s : State) : State :=
  match findReg s q a with
  | .none => s
  | some k =>
    let e := regEnt s q k
    if e.prom then
      let l := lineEnt s q (lineIdx e a)
      setLine q (lineIdx e a) { l with state := st, sharers := held, last := last.getD l.last } s
      |> setReg q k { e with sharers := e.sharers ||| held }
    else
      setReg q k (e.with st held) s

/-- P is recorded for a line at a timeout (R206): in the line entry, promoting the region where a block is free; else through
the device's poison bit alone. -/
def recordPoison (q a n : Nat) (s : State) : State :=
  match findReg s q a with
  | .none => s
  | some k =>
    let e := regEnt s q k
    if e.busy ≠ 0 then s else
    let (ok, s) := if e.prom then (true, s) else promote q k s
    if ¬ ok then s else
    let e := regEnt s q k
    let l := lineEnt s q (lineIdx e a)
    setLine q (lineIdx e a) { l with state := 3, sharers := dropSlot l.sharers n } s

/-! ### Folding (07 R205) -/

/-- The union of the holders of a block's line entries. -/
def blockUnion (s : State) (q b : Nat) : Nat :=
  (List.range 64).foldl (fun u j => u ||| (lineEnt s q (64 * b + j)).sharers) 0

/-- A block is folded into its region entry and freed. -/
def foldBlock (q k : Nat) (s : State) : State :=
  let e := regEnt s q k
  let u := blockUnion s q e.block
  let states := (List.range 64).map fun j => (lineEnt s q (64 * e.block + j)).state
  let st := if popcount u = 1 ∧ 2 ∈ states then 2 else if u ≠ 0 then 1 else if states.all (· == 3) then 3 else 0
  freeBlock q e.block s
  |> setReg q k { e with state := st, sharers := u, prom := false, block := 0, hits := 0, quiet := 0, busy := 0 }

/-! ### Victims (07 R207) -/

/-- A line of the region is held in T by a transaction. -/
def regionInT (s : State) (q a : Nat) : Bool :=
  s.home.lines.any fun e => e.1 / 64 == a / 4096 && e.2.q == q && e.2.begun

/-- The victim among the ways of a set: REF 0 first, then PROM 0, then the fewest SHARERS bits, then the lowest way. -/
def victim (s : State) (q set : Nat) : Option Nat :=
  let rank := fun k : Nat =>
    let e := regEnt s q k
    ((b2n e.ref * 2 + b2n e.prom) * 128 + popcount e.sharers) * 16 + k % 16
  let ks := ((List.range 16).map (set * 16 + ·)).filter fun k =>
    let e := regEnt s q k
    e.valid && e.busy == 0 && !regionInT s q (regionAddr s k e)
  ks.foldl (fun b k => match b with
    | none => some k
    | some j => if rank k < rank j then some k else some j) none

/-- An invalid way of a set. -/
def freeWay (s : State) (q set : Nat) : Option Nat :=
  ((List.range 16).map (set * 16 + ·)).find? fun k => !(regEnt s q k).valid

/-! ### Directory service (07 R217-R219, R593) -/

def sliceState (s : State) (q : Nat) : Nat := s.val o5100_01 [pQ q]

/-- A range's conversion is under way. -/
def converting (s : State) (rg : Nat) : Bool := (Tbl.look none s.home.conv rg).isSome

/-- A line is served from the directory of quire `q`: its range is homed and not converting, `q` is its home, and the slice is
in service, or its rebuild sweep has passed the region or the range became homed during the rebuild. -/
def dirServed (s : State) (q a : Nat) : Bool :=
  match rangeAt s a with
  | some (rg, w) =>
    rangeMode w == 1 && !converting s rg && homeQuire a == q &&
    (sliceState s q == 0 ||
      (sliceState s q == 3 &&
        (decide (a / 4096 * 4096 < s.val o5100_05 [pQ q]) ||
          decide (Tbl.look 0 s.dir.rebuildAt q ≤ Tbl.look 0 s.dir.since rg ∧ Tbl.look 0 s.dir.since rg ≠ 0))))
  | none => false

/-- Region `n` of those of a 256 MB-aligned span whose home is quire `q`: eight consecutive regions have eight homes (06
R155). -/
def wideRegion (q base n : Nat) : Nat :=
  let g := base + n * 32768
  g + ((q ^^^ homeQuire g) % 8) * 4096

/-- The ranges in homed mode: base and end address. -/
def homedSpans (s : State) : List (Nat × Nat) :=
  ((s.listed o5020_01).filter fun e => rangeMode e.2 == 1 && !converting s (elemAt e.1 0)).map fun e =>
    (rangeBase e.2 * 2 ^ 28, (rangeBase e.2 + rangeBlocks e.2) * 2 ^ 28)

/-- The lowest region homed at quire `q` in a homed range, at or above an address. -/
def nextHomed (s : State) (q a : Nat) : Option Nat :=
  let cand := (homedSpans s).filterMap fun r =>
    let lo := max r.1 a
    let g := lo / 32768 * 32768
    let c := wideRegion q g 0
    let c := if c < lo then wideRegion q g 1 else c
    if c < r.2 then some c else none
  cand.foldl (fun b c => match b with
    | none => some c
    | some x => some (min x c)) none

/-- Region entries of a slice that lie in the domain's ranges and hold a slot's bit. -/
def regsWith (s : State) (q d n : Nat) : List Nat :=
  (validRegs s q).filter fun k =>
    let e := regEnt s q k
    bit e.sharers n &&
    (match rangeAt s (regionAddr s k e) with
    | some (_, w) => rangeDom w == d
    | none => false)

/-! ### Contexts (16 Table FLT-4) -/

/-- The capacity block that holds an address. -/
def blockOf (s : State) (a : Nat) : Option Nat :=
  (s.blocks.find? fun e => match e.2 with
    | some b => b.base == a / 2 ^ 28
    | none => false).map (·.1)

/-- LINE context. -/
def ctxLine (s : State) (a : Nat) (n : Option Nat) : Nat :=
  (n.getD 0) * 2 ^ 36 + b2n n.isSome * 2 ^ 35 + (blockOf s a).getD 0 * 2 ^ 19 + bits a 27 15 * 2 ^ 6 + bits a 11 6

/-- ENTRY context: a line entry or a region entry. -/
def ctxEntry (isLine : Bool) (k : Nat) : Nat := b2n isLine * 2 ^ 41 + k

end Sys2Proof.Machine
end

