-- ==== Sys2Proof/Machine/Folio.lean ====
section
/-!
DEFINITION. The sending side of the Folio link layer (11 R315-R334): flit headers, control blocks, sequenced flits,
replay and credits.
-/
namespace Sys2Proof.Machine

def folioOf (s : State) (p : Nat) : Folio := Tbl.look {} s.lnk.folio p

def setFolio (p : Nat) (f : Folio) (s : State) : State :=
  { s with lnk := { s.lnk with folio := Tbl.upd {} s.lnk.folio p f } }

def portLink (s : State) (p : Nat) : LaneLink := Tbl.look {} s.lane.ports p

def setPort (p : Nat) (l : LaneLink) (s : State) : State :=
  { s with lane := { s.lane with ports := Tbl.upd {} s.lane.ports p l } }

def folioState (s : State) (p : Nat) : Nat := s.val o3030_06 [pP p]

/-! ### Ports and their lanes (02 R29-R35) -/

/-- The slot byte of a port in a lane-group word (02 Table FAB-1): role [7:6], width [5:3]. -/
def slotByte (w p : Nat) : Nat := bits w (8 * (p % 4) + 7) (8 * (p % 4))
def slotRole (b : Nat) : Nat := bits b 7 6
def slotWidth (b : Nat) : Nat := 2 ^ bits b 5 3

/-- The configured width of a port. -/
def widthOf (s : State) (p : Nat) : Nat := slotWidth (slotByte (s.val o2010_02 [pG (groupOf p)]) p)

/-! ### Alignment markers (10 R296) -/

/-- The time of one flit at a Folio port: 1 ns at x16 and 128 GT/s, 256 bytes over the lanes that carry flits (R297, R300). -/
def flitTime (s : State) (p : Nat) : Nat :=
  let w := widthOf s p
  let w := if bits (s.val o3030_08 [pP p]) 3 2 = 0 then w else w / 2
  ns 16 / w * (if s.val o3030_01 [pP p] = 6 then 1 else 2)

/-- The marker of logical lane `k` (Table LAN-6). Its CRC-16 has no polynomial in the manual. [DESIGN CHOICE, log 186] -/
def marker (s : State) (p k : Nat) : Nat :=
  let st := folioState s p
  let pos := s.val o4200_01 []
  let w := 0x3C5A96E1 * 2 ^ 80 + k % 16 * 2 ^ 76 + bits (slotByte (s.val o2010_02 [pG (groupOf p)]) p) 5 3 * 2 ^ 73
    + b2n (s.val o3030_01 [pP p] == 6) * 2 ^ 72 + b2n (st == 3 || st == 4) * 2 ^ 71 + b2n (st != 4) * 2 ^ 70
    + (if pos < 16 then pos else 0x1F) * 2 ^ 65 + b2n (s.flag o3030_09 [pP p]) * 2 ^ 64 + (portLink s p).marks % 256 * 2 ^ 56
    + bits (s.val o3030_08 [pP p]) 1 0 * 2 ^ 54
  w * 2 ^ 16 + Config.checkCode w % 2 ^ 16

/-- `n` markers go out on every lane of a port. [DESIGN CHOICE, log 186] -/
def sendMarkers (p n at_ : Nat) (s : State) : State :=
  let l := portLink s p
  let s := setPort p { l with marks := l.marks + n } s
  let words := (List.range (widthOf s p)).map (marker s p)
  emit (.markers p n words) (setPort p { portLink s p with markAt := at_ } s)

/-- The markers that have fallen due: one each 256 flits in training, one each 16,384 in ACTIVE (R296). [DESIGN CHOICE, log 186] -/
def dueMarkers (p : Nat) (s : State) : State :=
  let st := folioState s p
  let l := portLink s p
  if st < 2 ∨ 4 < st then s else
  let per := flitTime s p * (if st = 4 then 16384 else 256)
  let n := (s.clk.now - l.markAt) / per
  if n = 0 then s else sendMarkers p n (l.markAt + n * per) s

/-! ### Flits -/

/-- A flit other than idle is sent or received at a port (10 R305). -/
def noteTraffic (p : Nat) (s : State) : State := setPort p { portLink s p with lastAt := s.clk.now } s

/-- The class whose returns the next header carries, and how many: the class owed the most, ties to the lower number, up to
511 (11 R329); class 6 for none. [DEDUCED, log 82] -/
def owedClass (f : Folio) : Nat × Nat :=
  (List.range 6).foldl (fun b c =>
    let n := Tbl.look 0 f.owed c
    if b.2 < n then (c, n) else b) (6, 0)
  |> fun b => (b.1, min b.2 511)

/-- The owed returns that a header takes with it. [DEDUCED, log 82] -/
def placeReturns (f : Folio) : Folio :=
  let (c, n) := owedClass f
  if n = 0 then f else
  { f with owed := Tbl.mod 0 f.owed c (· - n), placed := Tbl.mod 0 f.placed c fun k => (k + n) % 65536 }

/-- The free space of each class in the Folio intake: the provisioned window without the sorts held (11 R330, R333). -/
def freeSpace (s : State) (p : Nat) : Tbl Nat :=
  (List.range 6).foldl (fun t c =>
    Tbl.upd 0 t c (s.val o2100_01 [pP p, pCLS c] - Tbl.look 0 (folioOf s p).occ c)) []

/-- A control block as filled at transmission (11 R323). -/
def controlBlock (f : Folio) (nak : Bool) (start : Nat) (win : Tbl Nat) : CtrlBlock :=
  { ack := f.e, nak := nak, ret := f.placed, start := start, win := win }

/-! ### The flit as bits (11 Tables LNK-1 to LNK-5, R316) -/

/-- A sort slot of 120 bytes: its header and its payload; an empty one is all zero. -/
def slotWord960 (z : FSlot) : Nat :=
  if ¬ z.valid then 0 else
  let x := z.x
  (x.cls % 8 * 2 ^ 61 + 2 ^ 60 + x.spbr % 4096 * 2 ^ 48 + x.dpbr % 4096 * 2 ^ 36 + x.plen % 128 * 2 ^ 29 + b2n x.sop * 2 ^ 28
    + b2n x.eop * 2 ^ 27 + b2n x.poison * 2 ^ 26 + b2n x.err * 2 ^ 25 + b2n x.trace * 2 ^ 24 + x.tc % 8 * 2 ^ 21
    + (if x.trace then x.traceid % 4096 else 0) * 2 ^ 9 + b2n z.void * 2 ^ 8) * 2 ^ 896
    + Config.sortPayload x.pid x.seq % 2 ^ 896

/-- A control block of 120 bytes. -/
def controlWord (cb : CtrlBlock) : Nat :=
  cb.ack % 4096 * 2 ^ 948 + b2n cb.nak * 2 ^ 947
    + ((List.range 6).map fun c => Tbl.look 0 cb.ret c % 2 ^ 16 * 2 ^ (931 - 16 * c)).sum
    + cb.start % 4096 * 2 ^ 839 + ((List.range 6).map fun c => Tbl.look 0 cb.win c % 2 ^ 12 * 2 ^ (827 - 12 * c)).sum

/-- CRC-64 of `n` bits, the most significant first: generator 0x42F0_E1EB_A9EA_3693, from all ones, not inverted. -/
def crc64 (n v : Nat) : Nat :=
  (List.range n).foldl (fun c i =>
    let d := c * 2 % 2 ^ 64
    if bit c 63 = bit v (n - 1 - i) then d else d ^^^ 0x42F0E1EBA9EA3693) (2 ^ 64 - 1)

/-- A flit of 2,048 bits. [DESIGN CHOICE, log 192] -/
def flitWord (ty crcls crcnt : Nat) (slots : List FSlot) (cb : Option CtrlBlock) : Nat :=
  let s0 := match ty, slots with
    | 1, x :: _ | 2, x :: _ => slotWord960 x
    | _, _ => (cb.map controlWord).getD 0
  let s1 := match ty, slots with
    | 1, _ :: y :: _ => slotWord960 y
    | 2, _ => (cb.map controlWord).getD 0
    | _, _ => 0
  let w := (ty % 16 * 2 ^ 12 + crcls % 8 * 2 ^ 9 + crcnt % 512) * 2 ^ 1920 + s0 * 2 ^ 960 + s1
  (w * 2 ^ 64 + crc64 1936 w) * 2 ^ 48 + Config.fecParity (w * 2 ^ 64 + crc64 1936 w) % 2 ^ 48

/-- A flit is sent, after the markers that are due: its header carries credit returns. [DESIGN CHOICE, log 78] -/
def sendFlit (p ty : Nat) (slots : List FSlot) (cb : Bool) (nak : Bool) (start : Nat) (win : Tbl Nat) (s : State) : State :=
  let s := dueMarkers p s
  let f := folioOf s p
  let (c, n) := owedClass f
  let f' := placeReturns f
  setFolio p (if cb then { f' with cbDue := 0 } else f') s
  |> emit (let cb := if cb then some (controlBlock f' nak start win) else none
           .flit p ty c n slots cb (flitWord ty c n slots cb))
  |> countPort p 17 {} 1

/-- INIT goes out with the free space of each class, in which the returns owed so far are counted (11 R333). [DEDUCED, log 83] -/
def sendInit (p : Nat) (s : State) : State :=
  sendFlit p 3 [] true false 0 (freeSpace s p) (setFolio p { folioOf s p with owed := [], initAt := s.clk.now } s)

/-- The flit type that carries held sorts: DATACB with a control block, else DATA (11 Table LNK-3). -/
def heldType (h : Held) : Nat := if h.cb then 2 else 1

/-- A new sequenced flit is sent and held (11 R321). The replay timer starts with the first held flit (R326). -/
def sendSequenced (p : Nat) (slots : List FSlot) (s : State) : State :=
  let f := folioOf s p
  let h : Held := { slots := slots, cb := decide (slots.length < 2) && f.cbDue != 0 }
  setFolio p { f with
      s := (f.s + 1) % 4096
      held := f.held ++ [h]
      replayAt := if f.held.isEmpty then s.clk.now + s.val o2110_01 [pP p] * 4 else f.replayAt } s
  |> sendFlit p (heldType h) slots h.cb false 0 []
  |> noteTraffic p

/-- The count of the oldest held flit. -/
def oldestCount (f : Folio) : Nat := (f.s + 4096 - f.held.length) % 4096

/-- A replay from the held flit `k` places after the oldest: RSTART, then every flit from it on in order (11 R325). -/
def replayFrom (p k : Nat) (s : State) : State :=
  let f := folioOf s p
  let start := (oldestCount f + k) % 4096
  let s := sendFlit p 4 [] true false start [] s
  let s := (f.held.drop k).foldl (fun s h => sendFlit p (heldType h) h.slots h.cb false 0 [] s) s
  let f := folioOf s p
  setFolio p { f with replayAt := s.clk.now + s.val o2110_01 [pP p] * 4 } s
  |>.bump o2110_04 [pP p] 1
  |> countPort p 19 {} 1

/-- Credits of a class held toward the partner. -/
def folioCredit (s : State) (p c : Nat) : Nat := Tbl.look 0 (folioOf s p).credit c

/-- A Folio port may send a new sequenced flit: its link is up and not withdrawn from the forme (02 R78), INIT has been exchanged, and fewer than 1,024 flits are held
(11 R321, R333). -/
def folioReady (s : State) (p : Nat) : Bool :=
  linkOf s p == 2 && !s.flag o4200_06 [pP p] && (folioOf s p).inited && decide ((folioOf s p).held.length < 1024)

/-- The slot of a sort. -/
def slotOf (x : DSort) : FSlot := { x := x, void := x.voided }

/-- Sorts go out in DATA flits, two to a flit, each taking a credit of its class (11 R318, R329). -/
def sendSorts (p : Nat) : List DSort → State → State
  | [], s => s
  | [x], s => sendSequenced p [slotOf x] s
  | x :: y :: r, s =>
    if (folioOf s p).cbDue ≠ 0 then sendSorts p (y :: r) (sendSequenced p [slotOf x] s)
    else sendSorts p r (sendSequenced p [slotOf x, slotOf y] s)

/-- A sort's credit is taken. -/
def spendCredit (p : Nat) (x : DSort) (s : State) : State :=
  let f := folioOf s p
  setFolio p { f with credit := Tbl.mod 0 f.credit x.cls (· - 1) } s

end Sys2Proof.Machine
end

