-- ==== Sys2Proof/Machine/Stage.lean ====
section
/-!
DEFINITION. The stage sheets (03): stage-1 launch, stage-2 delivery, frames, collation and the elastic crossings.
-/
namespace Sys2Proof.Machine

/-! ### Crossings (03 R101-R104) -/

/-- Crossing `x` of quire `q`: 0-9 toward the spine (stage 1 sheets, then stage 2), 10-19 from the spine. -/
def crossOf (s : State) (q x : Nat) : Crossing := Tbl.look {} s.stg.cross (20 * q + x)

def setCross (q x : Nat) (c : Crossing) (s : State) : State :=
  { s with stg := { s.stg with cross := Tbl.upd {} s.stg.cross (20 * q + x) c } }

/-- An empty slot recentres a buffer by one entry (03 R102); a drifted buffer back in 2-6 notes since when. -/
def recentre (q x : Nat) (s : State) : State :=
  let c := crossOf s q x
  if c.failed ∨ c.occ = 4 then s else
  let o := if c.occ < 4 then c.occ + 1 else c.occ - 1
  setCross q x { c with occ := o, since := if (c.occ < 2 ∨ 6 < c.occ) ∧ 2 ≤ o ∧ o ≤ 6 then s.clk.now else c.since } s

/-- Bulk is withheld from sheet `sh` of stage `k` (0 or 1) at quire `q` in this slot: drift of a crossing of that sheet
(03 Table PLN-4), the thermal throttle (17 R501, stage 1) and the region limit (17 R503). The manual fixes how many slots
of each 8 are withheld, not which: the first of each 8. [DESIGN CHOICE, log 30] -/
def bulkWithheld (s : State) (q k sh : Nat) : Bool :=
  let t := s.clk.slot % 8
  (t < 1 && ((crossOf s q (5 * k + sh)).drifted || (crossOf s q (10 + 5 * k + sh)).drifted))
  || (k == 0 && decide (t < s.val oB014_01 [pQ q]))
  || (k == 0 && t < 2 && s.flag oB016_01 [pQ q])

/-- The sheets carry no sort from or to a contained quire (16 R463), nor an offline one. -/
def quireDark (s : State) (q : Nat) : Bool := s.val o9050_01 [pQ q] == 1 || s.val oD060_02 [pQ q] == 2

/-- The outcome of the header check of a sort at a crossing (03 R82): kept, or lost. [DESIGN CHOICE, log 12; DEDUCED, log 164] -/
def headerCheck (u : Option Upset) (q stage dir sh : Nat) (x : DSort) (s : State) : Option DSort × State :=
  match u with
  | some e =>
    if e.galley = false ∧ e.ptr = none ∧ e.fromSpine = (dir == 1) ∧ e.quire.val = q ∧ e.sheet.val = sh ∧ e.word.val = 0 then
      match e.ecc with
      | .single => (some x, raiseFault (0x2B0 + q) 0x01 (ctxCross q stage dir sh) s)
      | .double => (none, raiseFault (0x2B0 + q) 0x02 (ctxCross q stage dir sh) s)
    else (some x, s)
  | none => (some x, s)

/-- A Galley read of a sort from buffer `buf` (04 R108): a single-bit error of a word is corrected, one of two bits poisons the sort. Of the
header word it is a corrected header, or loses the sort (03 R82; the sheet field of the CROSS context is 0b111). [DESIGN CHOICE, log 12; DEDUCED, log 164] -/
def readCheck (u : Option Upset) (q dir sh buf : Nat) (x : DSort) (s : State) : Option DSort × State :=
  match u with
  | some e =>
    if e.galley = true ∧ e.ptr = none ∧ e.quire.val = q ∧ e.sheet.val = sh then
      match e.ecc with
      | .single =>
        (some x, if e.word.val = 0 then raiseFault (0x2A0 + q) 0x01 (ctxCross q 1 dir 7) s
          else raiseFault (0x2A0 + q) 0x06 (e.word.val * 2 ^ 17 + buf) s)
      | .double =>
        if e.word.val = 0 then (none, raiseFault (0x2A0 + q) 0x02 (ctxCross q 1 dir 7) s)
        else (some { x with poison := true }, raiseFault (0x2A0 + q) 0x07 (e.word.val * 2 ^ 17 + buf) s)
    else (some x, s)
  | none => (some x, s)

/-! ### Stage 1 (03 R86-R88) -/

/-- The slot begins: a stage asked for its next slot ends the present one (03 R79). [DESIGN CHOICE, log 29] -/
def openSlot1 (s : State) : State :=
  let s := if s.clk.done1 then advanceTo (s.clk.slotAt + cycle s) s else s
  { s with clk := { s.clk with done1 := true } }

def openSlot2 (s : State) : State :=
  let s := if s.clk.done2 then advanceTo (s.clk.slotAt + cycle s) s else s
  { s with clk := { s.clk with done2 := true } }

/-- The highest express class with a sort waiting for intermediate `m` that live repair does not hold: RSP, DAT, SNP, REQ (03 R86). -/
def expressClass (s : State) (i m : Nat) : Option Nat :=
  (List.range 4).find? fun c => (Tbl.look [] s.stg.expQ (creditKey i m c)).any fun x => !expressHeld s x

/-- A bulk sort may launch only after the sort before it in its frame (03 R87). -/
def frameReady (s : State) (i : Nat) (l : LEnt) : Bool :=
  (List.range 64).all fun j => (Tbl.look [] s.stg.bulkQ (64 * i + j)).all fun k =>
    !(k.fid == l.fid && decide (k.x.fidx < l.x.fidx))

/-- The egress quire whose bulk launch queue at `(i, m)` is served next: round-robin over the egress quires with a ready
head and a window credit (03 R86). [DESIGN CHOICE, log 29] -/
def bulkEgress (s : State) (i m : Nat) : Option Nat :=
  let r := Tbl.look 0 s.stg.rrBulk (8 * i + m)
  ((List.range 8).map fun k => (r + k) % 8).find? fun e =>
    match Tbl.look [] s.stg.bulkQ (64 * i + 8 * m + e) with
    | l :: _ => frameReady s i l && decide (0 < s.val o4022_01 [pQ i, pQ e])
    | [] => false

/-- The launch log of a source quire and class for the credit audit (04 R120): the count, and the launches of the last
16 ns. -/
def noteLaunch (i m c : Nat) (s : State) : State :=
  let k := creditKey i m c
  let s' : State := { s with gal := { s.gal with launched := Tbl.mod 0 s.gal.launched k fun n => (n + 1) % 65536 } }
  { s' with gal := { s'.gal with
      recent := Tbl.mod [] s'.gal.recent k fun l => (l.filter fun t => s.clk.now ≤ t + ns 16) ++ [s.clk.now] } }

/-- A sort goes to the home logic through its home stage queue: a snoop response, or an answer to a message of the home's
own (06 R161). -/
def throughHomeQueue (x : DSort) : Bool := x.home && (x.pkt.op.channel == 2 || x.hown)

/-- A sort reaches its intermediate and waits in its stage queue, or is looked up by the home there, holding its credit
(06 R162). It is ready for stage 2 38 ns after launch on the bulk plane, 18 ns on the express plane (03 Table PLN-3, 01 Table
ARC-7). -/
def atIntermediate (m : Nat) (x : DSort) (s : State) : State :=
  let k := creditKey x.srcq m x.cls
  let s := if x.cls < 4 then
      { s with gal := { s.gal with received := Tbl.mod 0 s.gal.received k fun n => (n + 1) % 65536 } } else s
  let s := stampSort x 4 m s
  if throughHomeQueue x then pushSort (homeRef m x.cls) (s.clk.now + ns 18) x s
  else if x.home then toHomeLogic m (s.clk.now + ns 7) { x with home := false } s
  else pushSort (stageRef m x.dport x.cls) (s.clk.now + (if x.cls < 4 then ns 18 else ns 38)) x s

/-- The queue that a sort enters at its intermediate. -/
def stageQueueOf (m : Nat) (x : DSort) : Option QRef :=
  if throughHomeQueue x then some (homeRef m x.cls) else if x.home then none else some (stageRef m x.dport x.cls)

/-- A sort leaves quire `i` on sheet `sh` of stage 1 toward `m`: it passes the crossing toward the spine and the one from it. [DEDUCED, log 34] -/
def launch1 (u : Option Upset) (i m sh : Nat) (x : DSort) (s : State) : State :=
  let s := stampSort x 3 i s
  let s := if x.cls < 4 then noteLaunch i m x.cls s else s
  match headerCheck u i 0 0 sh x s with
  | (none, s) => s
  | (some y, s) => match headerCheck u m 0 1 sh y s with
    | (none, s) => s
    | (some z, s) =>
      let s := atIntermediate m z s
      match stageQueueOf m z with
      | some q => strike u m sh q s
      | none => s

/-- Sheet `sh` of stage 1 at ingress quire `i`. -/
def stage1Sheet (u : Option Upset) (i : Nat) (s : State) (sh : Nat) : State :=
  let m := (i + s.clk.slot + sh) % 8
  let empty := recentre i sh (recentre m (10 + sh) s)
  if quireDark s i ∨ quireDark s m then empty else
  match expressClass s i m with
  | some c =>
    let k := creditKey i m c
    match takeFirst (fun x => !expressHeld s x) (Tbl.look [] s.stg.expQ k) with
    | some (x, r) => launch1 u i m sh x { s with stg := { s.stg with expQ := Tbl.upd [] s.stg.expQ k r } }
    | none => empty
  | none =>
    if bulkWithheld s i 0 sh then empty else
    match bulkEgress s i m with
    | none => empty
    | some e =>
      let k := 64 * i + 8 * m + e
      match Tbl.look [] s.stg.bulkQ k with
      | l :: r =>
        let s : State := { s with stg := { s.stg with
            bulkQ := Tbl.upd [] s.stg.bulkQ k r
            rrBulk := Tbl.upd 0 s.stg.rrBulk (8 * i + m) ((e + 1) % 8) } }
        launch1 u i m sh l.x (s.put o4022_01 [pQ i, pQ e] (s.val o4022_01 [pQ i, pQ e] - 1))
      | [] => empty

/-- Every sheet of stage 1 at every ingress quire, for the present slot. -/
def stage1 (u : Option Upset) (s : State) : State :=
  (List.range 8).foldl (fun s i => (List.range 5).foldl (stage1Sheet u i) s) s

/-- STAGE1_SLOT: a slot of stage 1 (03 R86), in which the originated packets that wait ask again (04 R126). -/
def execStage1Slot (u : Option Upset) (s : State) : Host.Outcome State Fault Refusal :=
  .next (stage1 u ((List.range 8).foldl (fun s q => askOrigins q s) (openSlot1 s)))

/-! ### Stage 2 (03 R89, R90) -/

/-- The stage queues of class `c` at `m` that lead to egress quire `e`: the 16 ports of `e`, and the home queue where `e`
is `m` itself (04 R587). -/
def stageQueues (m e c : Nat) : List QRef :=
  (List.range 16).map (fun j => stageRef m (16 * e + j) c) ++ (if m = e ∧ c < 4 then [homeRef m c] else [])

/-- The sorts of class `c` that an express egress queue holds or that are on their way to it from stage 2: its 64 reserved
places cover both (04 Table GAL-1, R107). [DEDUCED, log 166] -/
def comingDepth (s : State) (p c : Nat) : Nat :=
  depthOf s (classRef p c)
    + ((Tbl.look [] s.stg.toEgress (quireOf p)).filter fun t => t.x.dport == p && t.x.cls == c && t.x.unit.isNone).length

/-- A stage queue may be served: its head is ready, and for SNP and REQ the target's egress queue has fewer than 64 sorts
(04 R125). A home queue is always eligible (R587). -/
def stageEligible (s : State) (q : QRef) : Bool :=
  match (queueOf s q).ents with
  | [] => false
  | g :: _ =>
    decide (g.ready ≤ s.clk.now) &&
    (match q with
    | .stage _ p c => if c.val = 2 ∨ c.val = 3 then decide (comingDepth s p.val c.val < 64) else true
    | _ => true)

/-- The next queue of a class in round-robin order over the ports of `e`. [DESIGN CHOICE, log 29] -/
def nextStage (s : State) (m e c : Nat) : Option (Nat × QRef) :=
  let qs := stageQueues m e c
  let r := Tbl.look 0 s.stg.rrPort ((m * 8 + e) * 8 + c)
  ((List.range qs.length).map fun k => ((r + k) % qs.length, qs.getD ((r + k) % qs.length) (stageRef 0 0 0))).find?
    fun q => stageEligible s q.2

/-- The class stage 2 serves from `m` to `e`: the bulk guard's turn (03 R90), the highest eligible express class, or BLK and
MGT alternately (R89). -/
def stage2Pick (s : State) (m e sh : Nat) : Option (Nat × Nat × QRef) :=
  let k := 8 * m + e
  let bulk : Option (Nat × Nat × QRef) :=
    if bulkWithheld s m 1 sh ∨ (s.clk.slot % 8 < 2 ∧ s.flag oB016_01 [pQ e] = true) then none else
    let order := if Tbl.look false s.stg.altMgt k then [5, 4] else [4, 5]
    order.findSome? fun c => (nextStage s m e c).map fun q => (c, q)
  let express := (List.range 4).findSome? fun c => (nextStage s m e c).map fun q => (c, q)
  if 4 ≤ Tbl.look 0 s.stg.guard k ∧ bulk.isSome then bulk else express.orElse fun _ => bulk

/-- A sort delivered by stage 2: to the home logic of `m`, or toward egress quire `e`, where it arrives 7 ns later. An
express sort's class credit returns as it leaves its stage queue (04 R124). -/
def deliver2 (u : Option Upset) (m e sh : Nat) (x : DSort) (s : State) : State :=
  let s := if x.cls < 4 then returnCredit x.srcq m x.cls s else s
  let s := stampSort x 8 m s
  match headerCheck u m 1 0 sh x s with
  | (none, s) => s
  | (some y, s) =>
    if y.home then toHomeLogic m (s.clk.now + ns 7) y s
    else { s with stg := { s.stg with
        toEgress := Tbl.mod [] s.stg.toEgress e fun l => l ++ [⟨s.clk.now + ns 7, y⟩] } }

/-- A sort lost at the read of its stage queue: an express sort's class credit is restored by the next audit, which counts
it as not received (04 R118, R120). [DEDUCED, log 34] -/
def lostBeforeStage2 (m : Nat) (x : DSort) (s : State) : State :=
  if x.cls < 4 then
    { s with gal := { s.gal with
        received := Tbl.mod 0 s.gal.received (creditKey x.srcq m x.cls) fun n => (n + 65535) % 65536 } }
  else s

/-- The guard of 03 R90 counts the consecutive slots in which `m` reaches `e` and an express sort goes. [DEDUCED, log 31] -/
def guardAfter (c n : Nat) : Nat := if c < 4 then n + 1 else 0

/-- Sheet `sh` of stage 2 at intermediate `m`. -/
def stage2Sheet (u : Option Upset) (m : Nat) (s : State) (sh : Nat) : State :=
  let e := (m + s.clk.slot + sh) % 8
  let empty := recentre m (5 + sh) (recentre e (15 + sh)
    { s with stg := { s.stg with guard := Tbl.upd 0 s.stg.guard (8 * m + e) 0 } })
  if quireDark s m ∨ quireDark s e then empty else
  match stage2Pick s m e sh with
  | none => empty
  | some (c, r, q) =>
    let s : State := { s with stg := { s.stg with
        rrPort := Tbl.upd 0 s.stg.rrPort ((m * 8 + e) * 8 + c) (r + 1)
        guard := Tbl.mod 0 s.stg.guard (8 * m + e) (guardAfter c)
        altMgt := if 4 ≤ c then Tbl.upd false s.stg.altMgt (8 * m + e) (c == 4) else s.stg.altMgt } }
    match popSort q s with
    | (some g, s) =>
      let s := strike u m sh q s
      match readCheck u m 0 sh g.buf g.x s with
      | (some x, s) => deliver2 u m e sh x s
      | (none, s) => lostBeforeStage2 m g.x s
    | (none, s) => s

def stage2 (u : Option Upset) (s : State) : State :=
  (List.range 8).foldl (fun s m => (List.range 5).foldl (stage2Sheet u m) s) s

/-- STAGE2_SLOT: a slot of stage 2 (03 R89). -/
def execStage2Slot (u : Option Upset) (s : State) : Host.Outcome State Fault Refusal :=
  .next (stage2 u (openSlot2 s))

/-! ### Frames (03 R84-R86) -/

/-- The open frame of quire `q` whose first sort has waited longest. -/
def oldestFrame (s : State) (q : Nat) : Option (Nat × Frame) :=
  s.stg.frames.foldl (fun b f =>
    match f.2.sorts with
    | x :: _ => if x.srcq = q then
        (match b with
        | none => some f
        | some g => if f.2.since < g.2.since then some f else some g) else b
    | [] => b) none

/-- FRAME_TIMER_EXPIRY: the frame timer of the quire's oldest open frame ends, and the frame closes (03 R84). -/
def execFrameTimerExpiry (q : Fin 8) (s : State) : Host.Outcome State Fault Refusal :=
  .next <| match oldestFrame s q.val with
    | none => s
    | some f => closeFrame f.1 (advanceTo (f.2.since + ns (s.val o4020_01 [pQ q.val])) s)

/-- A frame's sorts take the intermediates in rotation and enter the bulk launch queues (03 R85). -/
def spread (i e fid n : Nat) (s : State) : List DSort → Nat → State
  | [], _ => s
  | x :: r, j =>
    let m := bulkQuire s ((Tbl.look 0 s.stg.rot (8 * i + e) + j) % 8)
    let y := { x with midq := m, fidx := j, flen := n - 1 }
    spread i e fid n
      { s with stg := { s.stg with bulkQ := Tbl.mod [] s.stg.bulkQ (64 * i + 8 * m + e) fun l => l ++ [⟨fid, y⟩] } } r (j + 1)

/-- The oldest closed frame of quire `i` for egress quire `e` is spread, and the pointer moves on (03 R85, R586). -/
def spreadFrame (i e : Nat) (s : State) : State :=
  match Tbl.look [] s.stg.closed (8 * i + e) with
  | [] => s
  | f :: r =>
    let fid := s.stg.nextFid
    let s := { s with stg := { s.stg with closed := Tbl.upd [] s.stg.closed (8 * i + e) r, nextFid := fid + 1 } }
    let s := f.foldl (fun s x => stampSort x 2 i s) s
    let s := spread i e fid f.length s f 0
    let s := { s with stg := { s.stg with rot := Tbl.mod 0 s.stg.rot (8 * i + e) fun p => (p + f.length) % 8 } }
    testFrames i e s

/-- One frame for an egress quire is spread in a cycle: the next one waits for the next cycle (R586). -/
def nextSpread (i e : Nat) (s : State) : State :=
  let s := if Tbl.look 0 s.stg.spreadAt (8 * i + e) = s.clk.now + 1 then advanceTo (s.clk.slotAt + cycle s) s else s
  { s with stg := { s.stg with spreadAt := Tbl.upd 0 s.stg.spreadAt (8 * i + e) (s.clk.now + 1) } }

/-- FRAME_SPREAD: a closed frame is spread (03 R85). -/
def execFrameSpread (i e : Fin 8) (s : State) : Host.Outcome State Fault Refusal :=
  .next (if (Tbl.look [] s.stg.closed (8 * i.val + e.val)).isEmpty then s else spreadFrame i.val e.val (nextSpread i.val e.val s))

/-! ### Keys and queues at the egress port (05 R138, R139) -/

/-- The key of a bulk packet at its egress port, none for a packet without a source VCS or source port. -/
def keyOf (s : State) (mode : Nat) (x : DSort) : Option Nat :=
  if x.orig then none
  else if mode = 1 then some (8 * x.sport + x.tc)
  else
    let v := if roleOf s x.sport = 3 then x.pkt.vcs.map (·.val) else sourceVcs s x.sport x.pkt.ld.val
    v.map fun n => 8 * n + x.tc

/-- The bulk egress queue of a packet under the keying mode and map in effect. -/
def eqIndex (s : State) (x : DSort) : Nat :=
  match keyOf s (s.val o4040_08 [pP x.dport]) x with
  | some k => s.val o4040_09 [pP x.dport, pKEY k]
  | none => s.val o4040_03 [pP x.dport]

/-- A bulk queue that holds a packet joins the tail of its port's active list (05 R141). -/
def joinActive (p e : Nat) (s : State) : State :=
  let a := Tbl.look [] s.egr.active p
  if e ∈ a ∨ s.val o4042_04 [pP p, pEQ e] = 2 then s
  else { s with egr := { s.egr with active := Tbl.upd [] s.egr.active p (a ++ [e]) } } |>.put o4042_04 [pP p, pEQ e] 1

/-- A sort goes to the unit it is for, enters an egress queue of its port, or is flushed where the port's link is lost (04 R589). -/
def toEgressQueue (x : DSort) (s : State) : State :=
  if x.unit.isSome then reachUnit x.dstq x s
  else if portLost s x.dport then
    discardSort (if x.cls = 4 then egressRef x.dport (eqIndex s x) else classRef x.dport x.cls)
      (lostHow s x.dport x.dld) x s
  else if x.cls = 4 then
    let e := eqIndex s x
    joinActive x.dport e (pushSort (egressRef x.dport e) s.clk.now x s)
  else pushSort (classRef x.dport x.cls) s.clk.now x s

/-! ### Collation (03 R95-R100, 04 R119) -/

/-- The sorts of a stream in an egress quire's collation buffer. -/
def buffered (s : State) (e key : Nat) : List TSort :=
  (Tbl.look [] s.stg.coll e).filter fun t => streamKey t.x == key

def setColl (e : Nat) (l : List TSort) (s : State) : State :=
  { s with stg := { s.stg with coll := Tbl.upd [] s.stg.coll e l } }

/-- A sequence number leaves collation with its sort: the sort goes to its egress queue, and the window credit returns. -/
def release (e : Nat) (x : DSort) (s : State) : State :=
  let k := streamKey x
  let s := { s with stg := { s.stg with expect := Tbl.upd 0 s.stg.expect k ((x.seq + 1) % 1024) } }
  returnWindow x.srcq e (toEgressQueue x (stampSort x 9 e s))

/-- A sequence number is passed over: its window credit and admission charge return once (04 R119). -/
def passOver (e : Nat) (x : DSort) (s : State) : State := returnWindow x.srcq e (returnCharge e x s)

/-- The sort at the expected sequence: released, or discarded while the stream resynchronises without SOP (03 R100). -/
def takeExpected (e : Nat) (x : DSort) (s : State) : State :=
  let k := streamKey x
  if Tbl.look false s.stg.resync k then
    if x.sop then release e x { s with stg := { s.stg with resync := Tbl.upd false s.stg.resync k false } }
    else passOver e x { s with stg := { s.stg with expect := Tbl.upd 0 s.stg.expect k ((x.seq + 1) % 1024) } }
  else release e x s

/-- Buffered sorts that stand at the expected sequence are taken in order (03 R97). -/
def drain (e key : Nat) : Nat → State → State
  | 0, s => s
  | n + 1, s =>
    match takeFirst (fun t : TSort => streamKey t.x == key && t.x.seq == Tbl.look 0 s.stg.expect key)
        (Tbl.look [] s.stg.coll e) with
    | some (t, r) => drain e key n (takeExpected e t.x (setColl e r s))
    | none => s

/-- How far sequence number `n` lies ahead of the expected one. -/
def seqAhead (s : State) (key n : Nat) : Nat := (n + 1024 - Tbl.look 0 s.stg.expect key) % 1024

/-- A sort arrives at its egress quire (03 R97): an express sort is queued; a bulk sort is released in stream order or held;
one whose sequence number was passed over is discarded and counted (04 R119). -/
def arrive (e : Nat) (x : DSort) (s : State) : State :=
  if x.cls < 4 then toEgressQueue x (stampSort x 9 e s) else
  let k := streamKey x
  let a := seqAhead s k x.seq
  if 512 ≤ a then s.bump o403A_03 [pQ e] 1 else
  let h := Tbl.look 0 s.stg.highest k
  let s := { s with stg := { s.stg with
      highest := if (x.seq + 1 + 1024 - h) % 1024 < 512 then Tbl.upd 0 s.stg.highest k ((x.seq + 1) % 1024) else s.stg.highest } }
  if a = 0 then drain e k 512 (takeExpected e x s)
  else setColl e (Tbl.look [] s.stg.coll e ++ [⟨s.clk.now, x⟩]) s

/-- STAGE2_ARRIVAL: the oldest sort on its way to egress quire `e` arrives (03 R97), its header checked (R82). -/
def execStage2Arrival (e : Fin 8) (u : Option Upset) (s : State) : Host.Outcome State Fault Refusal :=
  .next <| match Tbl.look [] s.stg.toEgress e.val with
    | [] => s
    | t :: r =>
      let s := advanceTo t.at_ { s with stg := { s.stg with toEgress := Tbl.upd [] s.stg.toEgress e.val r } }
      let sh := match u with
        | some v => v.sheet.val
        | none => 0
      match headerCheck (u.map fun v => { v with fromSpine := true }) e.val 1 1 sh t.x s with
      | (some x, s) =>
        let s := arrive e.val x s
        if x.unit.isSome then s
        else strike u e.val sh (if x.cls = 4 then egressRef x.dport (eqIndex s x) else classRef x.dport x.cls) s
      | (none, s) => s

/-- STREAM context (16 Table FLT-4). -/
def ctxStream (x : DSort) (seq : Nat) : Nat :=
  x.sport * 2 ^ 35 + x.dport * 2 ^ 28 + x.tc * 2 ^ 25 + seq * 2 ^ 15 + b2n x.orig * 2 ^ 14
    + (if x.orig then x.srcq * 2 ^ 11 else 0)

/-- The sorts of the broken packet of stream `k` that had already left collation are taken back from the egress queue they are being
pushed to: those sorts. What a unit had of it is dropped. [DEDUCED, log 32] -/
def takeBack (e k : Nat) (s : State) : List DSort × State :=
  let s := { s with stg := { s.stg with unitBad := Tbl.upd false s.stg.unitBad k false } }
  match s.gal.queues.find? fun w => w.2.pushing.any (·.1 == k) with
  | none => ([], s)
  | some w =>
    let q := qrefOfKey w.1
    let v := queueOf s q
    let part := fun (g : GEnt) => v.pushing.any fun i => i.1 == k && i == pktId g.x
    let gone := (v.ents.filter part).map (·.x)
    let s := setQueue q { v with
      ents := v.ents.filter fun g => !part g, pushing := v.pushing.filter (·.1 != k), drop := v.drop.filter (·.1 != k)
      flushing := v.flushing && v.drop.any (·.1 != k) } s
    (gone, settleActive q (settleFlush q (settleQueue q (gone.foldl (fun s y => returnCharge e y s) s))))

/-- Sequence numbers are passed over up to a new expected one: each returns its window credit and charge. -/
def passTo (e : Nat) (x : DSort) : Nat → State → State
  | 0, s => s
  | n + 1, s => passTo e x n (passOver e x s)

/-- The broken packet of a stream is given up (03 R99, R100): its buffered sorts are discarded, and release resumes from the
next buffered SOP, or the stream resynchronises one past the highest number received. [DEDUCED, log 32] -/
def closeGap (e : Nat) (x : DSort) (s : State) : State :=
  let k := streamKey x
  let old := Tbl.look 0 s.stg.expect k
  let later := (buffered s e k).filter fun t => t.x.sop
  let best := later.foldl (fun b t => min b (seqAhead s k t.x.seq)) 1024
  let lost := ((buffered s e k).filter fun t => decide (seqAhead s k t.x.seq < best)).map (·.x)
  let (gone, s) := takeBack e k s
  let s := s.bump o4022_03 [pQ e] 1
  let s := raiseFault (0x2A8 + e) 0x03 (ctxStream x old) s
  let s := match (gone ++ lost).find? fun y => y.pkt.op.posted with
    | some y => countPort y.dport 13 (attrOf y) 1 s
    | none => s
  if best < 1024 then
    let s := setColl e ((Tbl.look [] s.stg.coll e).filter fun t =>
      !(streamKey t.x == k && decide (seqAhead s k t.x.seq < best))) s
    let s := passTo e x best s
    drain e k 512 { s with stg := { s.stg with expect := Tbl.upd 0 s.stg.expect k ((old + best) % 1024) } }
  else
    let next := Tbl.look 0 s.stg.highest k
    let n := (next + 1024 - old) % 1024
    let s := setColl e ((Tbl.look [] s.stg.coll e).filter fun t => !(streamKey t.x == k)) s
    let s := passTo e x n s
    { s with stg := { s.stg with expect := Tbl.upd 0 s.stg.expect k next, resync := Tbl.upd false s.stg.resync k true } }

/-- The oldest sort held in an egress quire's collation buffer. -/
def oldestHeld (s : State) (e : Nat) : Option TSort :=
  (Tbl.look [] s.stg.coll e).foldl (fun b t => match b with
    | none => some t
    | some u => if t.at_ < u.at_ then some t else some u) none

/-- COLLATION_GAP_TIMEOUT: the gap timeout of the stream of the oldest held sort of egress quire `e` ends (03 R99). -/
def execCollationGapTimeout (e : Fin 8) (s : State) : Host.Outcome State Fault Refusal :=
  .next <| match oldestHeld s e.val with
    | none => s
    | some t => closeGap e.val t.x (advanceTo (t.at_ + us (s.val o4022_02 [pQ e.val])) s)

/-! ### Elastic buffers (03 Table PLN-4) -/

/-- CROSS context and drift bit of a crossing. -/
def crossCtx (q x : Nat) : Nat := ctxCross q (x % 10 / 5) (x / 10) (x % 5)

/-- ELASTIC_DRIFT: occupancy reaches 1, or 7 where `high` (03 Table PLN-4). -/
def execElasticDrift (q : Fin 8) (x : Fin 20) (high : Bool) (s : State) : Host.Outcome State Fault Refusal :=
  .next <|
    let c := crossOf s q.val x.val
    let s := setCross q.val x.val { c with occ := if high then 7 else 1, drifted := true } s
    if c.drifted ∨ c.failed then s else
    s.put o4024_03 [pQ q.val] (s.val o4024_03 [pQ q.val] ||| 2 ^ x.val)
    |> raiseFault (0x2B0 + q.val) 0x04 (crossCtx q.val x.val)

/-- ELASTIC_DRIFT_END: the occupancy of a drifted buffer has stayed in 2-6 for 1 µs, and withholding ends. -/
def execElasticDriftEnd (q : Fin 8) (x : Fin 20) (s : State) : Host.Outcome State Fault Refusal :=
  .next <|
    let c := crossOf s q.val x.val
    if c.drifted ∧ ¬ c.failed ∧ 2 ≤ c.occ ∧ c.occ ≤ 6 then
      setCross q.val x.val { c with drifted := false } (advanceTo (c.since + us 1) s)
    else s

/-- ELASTIC_OVERRUN: occupancy reaches 0, or 8 where `high`: the uncontained fault elastic-overrun, on whose acceptance the
quire is contained (16 R463). -/
def execElasticOverrun (q : Fin 8) (x : Fin 20) (high : Bool) (s : State) : Host.Outcome State Fault Refusal :=
  .next <|
    let c := crossOf s q.val x.val
    if c.failed then s else
    setCross q.val x.val { c with occ := if high then 8 else 0, failed := true } s
    |> raiseFault (0x2B0 + q.val) 0x05 (crossCtx q.val x.val)

end Sys2Proof.Machine
end

