-- ==== Sys2Proof/Machine/Egress.lean ====
section
/-!
DEFINITION. Egress scheduling (05): rate limiters and their wheel, the arbiter of a port, staging buffers and partner
credits, keys and remaps, depth and delay sampling.
-/
namespace Sys2Proof.Machine

/-! ### Limiters (05 R143-R145) -/

/-- The limiter bound to a target: KIND 1 with a port and an egress queue, KIND 2 with an ingress and an egress port
(Table SCH-1); its number is 8,192 times its quire plus its own. -/
def limiterOf (s : State) (kind port sub : Nat) : Option Nat :=
  (s.listed o4044_01).findSome? fun e =>
    if elemAt e.1 0 = quireOf port ∧ bits e.2 31 30 = kind ∧ bits e.2 29 23 = port
      ∧ (if kind = 1 then bits e.2 22 15 else bits e.2 14 8) = sub
    then some (elemAt e.1 0 * 8192 + elemAt e.1 1) else none

def rateOf (s : State) (l : Nat) : Nat := s.val o4044_02 [pQ (l / 8192), pRL (l % 8192)]
def burstOf (s : State) (l : Nat) : Nat := s.val o4044_03 [pQ (l / 8192), pRL (l % 8192)]
def tatOf (s : State) (l : Nat) : Nat := Tbl.look 0 s.egr.tat l

/-- The time of limiters and of the wheel, in 1/256 ns: the free-running time, not the adjusted timebase; the manual does not say which. [DESIGN CHOICE, log 175] -/
def now256 (s : State) : Nat := s.clk.now * 64

/-- τ = 8·B ÷ R and the advance 8·L ÷ R, in 1/256 ns: τ is rounded down and the advance up, so that the rate never exceeds
R (R144). [DEDUCED, log 42] -/
def tauOf (s : State) (l : Nat) : Nat := 2048000 * burstOf s l / rateOf s l

/-- The advance of a limiter's theoretical arrival time for a packet, rounded up (R144). [DEDUCED, log 42] -/
def advanceOf (s : State) (l charge : Nat) : Nat := (2048000 * charge + rateOf s l - 1) / rateOf s l

def eligible (s : State) (l : Nat) : Bool := decide (tatOf s l ≤ now256 s + tauOf s l)

/-- A packet is charged to a limiter (R144). -/
def chargeLimiter (l charge : Nat) (s : State) : State :=
  { s with egr := { s.egr with
      tat := Tbl.upd 0 s.egr.tat l (max (tatOf s l) (now256 s) + advanceOf s l charge) } }

/-! ### The wheel (05 R146, R147) -/

/-- A released queue rejoins the active list with its deficit cut to its quantum (R142); a released flow asks for admission
again by itself. Lateness is noted (R147). [DEDUCED, log 43] -/
def releaseLimiter (e : WEnt) (s : State) : State :=
  let q := e.target / 8192
  let late := (now256 s - e.time) / 256
  let s := if s.val o4046_03 [pQ q] < late then s.put o4046_03 [pQ q] late else s
  let w := s.val o4044_01 [pQ q, pRL (e.target % 8192)]
  let p := bits w 29 23
  let eq := bits w 22 15
  if bits w 31 30 = 1 ∧ s.val o4042_04 [pP p, pEQ eq] = 2 then
    let s := s.put o4042_02 [pP p, pEQ eq] (min (s.val o4042_02 [pP p, pEQ eq]) (s.val o4042_01 [pP p, pEQ eq]))
    if (queueOf s (egressRef p eq)).ents.isEmpty then s.put o4042_04 [pP p, pEQ eq] 0
    else
      { s with egr := { s.egr with active := Tbl.mod [] s.egr.active p fun l => l ++ [eq] } }
      |>.put o4042_04 [pP p, pEQ eq] 1
  else s

/-- A wheel entry is placed by its due slot `n = ceil(t / 16 ns)` (R146). -/
def enterWheel (e : WEnt) (s : State) : State :=
  let q := e.target / 8192
  let n := (e.time + 4095) / 4096
  let now := s.clk.now / 64
  let r := n / 4096
  let cur := now / 4096
  if n ≤ now then releaseLimiter e s
  else if r = cur then
    { s with egr := { s.egr with near := Tbl.mod [] s.egr.near (q * 4096 + n % 4096) fun l => l ++ [e] } }
  else
    let k := if r - cur ≤ 63 then r % 64 else (cur + 63) % 64
    { s with egr := { s.egr with far := Tbl.mod [] s.egr.far (q * 64 + k) fun l => l ++ [e] } }

/-- A limiter has an entry on the wheel. [DEDUCED, log 43] -/
def onWheel (s : State) (l : Nat) : Bool :=
  s.egr.near.any (fun e => e.2.any fun w => w.target == l) || s.egr.far.any fun e => e.2.any fun w => w.target == l

/-- A limiter that is not eligible enters the wheel at its eligible time, TAT − τ. -/
def waitLimiter (l : Nat) (s : State) : State :=
  if onWheel s l then s else enterWheel ⟨l, tatOf s l - tauOf s l⟩ s

/-- The far slot of a revolution is drained: its entries are placed again. -/
def drainFar (q : Nat) (s : State) (r : Nat) : State :=
  let k := q * 64 + r % 64
  let l := Tbl.look [] s.egr.far k
  l.foldl (fun s e => enterWheel e s) { s with egr := { s.egr with far := Tbl.upd [] s.egr.far k [] } }

/-- WHEEL_SLOT: the wheel of quire `q` comes to its next 16 ns slot, or to the slot of the time where that has passed: the far slot of each
revolution begun since is placed again, then every near entry due by now is released (R146, R147). -/
def wheelSlot (q : Nat) (s : State) : State :=
  let m0 := Tbl.look 0 s.egr.wslot q
  let m := max (m0 + 1) (s.clk.now / 64)
  let s := advanceTo (64 * m) { s with egr := { s.egr with wslot := Tbl.upd 0 s.egr.wslot q m } }
  let s := ((List.range (min 64 (m / 4096 - m0 / 4096))).map (m0 / 4096 + 1 + ·)).foldl (drainFar q) s
  let due := fun (e : WEnt) => decide ((e.time + 4095) / 4096 ≤ m)
  let l := (s.egr.near.filter fun w => w.1 / 4096 == q).flatMap fun w => w.2.filter due
  let near := s.egr.near.foldl (fun t w => Tbl.upd [] t w.1 (if w.1 / 4096 = q then w.2.filter fun e => !due e else w.2)) []
  l.foldl (fun s e => releaseLimiter e s) { s with egr := { s.egr with near := near } }

def execWheelSlot (q : Fin 8) (s : State) : Host.Outcome State Fault Refusal := .next (wheelSlot q.val s)

/-- A target record is written (R143, R148): the old target is unbound and eligible at once, TAT becomes now. -/
def limiterWrite (q n v : Nat) (s : State) : Status × State :=
  let l := q * 8192 + n
  let kind := bits v 31 30
  let port := bits v 29 23
  let taken := match limiterOf s kind port (if kind = 1 then bits v 22 15 else bits v 14 8) with
    | some m => m != l
    | none => false
  if kind = 3 ∨ (kind ≠ 0 ∧ (quireOf port ≠ q ∨ taken = true)) then (.refused, s) else
  let t := s.clk.now * 64
  let entries := fun (w : Tbl (List WEnt)) => w.foldl (fun t e => Tbl.upd [] t e.1 (e.2.filter fun x => x.target != l)) []
  let s := if onWheel s l then releaseLimiter ⟨l, t⟩ s else s
  let s := { s with egr := { s.egr with
      near := entries s.egr.near, far := entries s.egr.far, tat := Tbl.upd 0 s.egr.tat l t } }
  (.ok, s.put o4044_01 [pQ q, pRL n] (setBits v 7 0 0))

/-- LIMITER_TARGET_WRITE. -/
def execLimiterTargetWrite (role : Role) (q : Fin 8) (n : Fin 8192) (v : Nat) (s : State) :
    Host.Outcome State Fault Refusal :=
  .next (answered (managed role o4044_01 [pQ q.val, pRL n.val] (limiterWrite q.val n.val (v % 4294967296)) s))

/-! ### Staging and partner credits (05 R133, R137) -/

def credHOf (s : State) (k : Nat) : Nat := Tbl.look 0 s.egr.credH k
def credDOf (s : State) (k : Nat) : Nat := Tbl.look 0 s.egr.credB k

/-- The partner's credits of a type are spent. [DESIGN CHOICE, log 41] -/
def spendPartner (k h d : Nat) (s : State) : State :=
  { s with egr := { s.egr with
      credH := Tbl.mod 0 s.egr.credH k (· - h)
      credB := Tbl.mod 0 s.egr.credB k (· - d) } }

/-- The packet of a sort as the link carries it: at a downstream port it names the LD it goes to (DLD, Table STG-4). -/
def linkForm (s : State) (p : Nat) (x : DSort) : Packet :=
  if roleOf s p = 2 then { x.pkt with ld := Fin.ofNat 16 x.dld } else x.pkt

/-- The kind of a request whose answer carries a tag in place of an address (03 R91): a BISnp 0, an H2D request 1, a D2H request 2. -/
def tagKind (o : MsgOp) : Option Nat :=
  if o.channel = 5 then some 0 else if o.channel = 9 then some 1 else if o.channel = 6 then some 2 else none

def tagKey (p kind tag : Nat) : Nat := (kind * 128 + p) * 2 ^ 64 + tag % 2 ^ 64

/-- The tag of a request that passes port `p` names its address. -/
def nameTag (p : Nat) (pk : Packet) (s : State) : State :=
  match tagKind pk.op with
  | some k => { s with lnk := { s.lnk with named := Tbl.upd 0 s.lnk.named (tagKey p k pk.tag) (pk.addr + 1) } }
  | none => s

/-- The address of an answer that a port receives: that of the request its tag names (03 R91). A BIRsp answers a BISnp, and a D2H response or
data an H2D request, or else the device's own request. -/
def namedAddr (s : State) (p : Nat) (pk : Packet) : Nat :=
  let at_ := fun (k : Nat) => Tbl.look 0 s.lnk.named (tagKey p k pk.tag)
  let a := if pk.op.channel = 2 then at_ 0
    else if pk.op.channel = 7 ∨ pk.op.channel = 8 then (if at_ 1 = 0 then at_ 2 else at_ 1) else 0
  if a = 0 then pk.addr else a - 1

/-- A packet's bytes leave on the link: charge returned, tracker entry, stamp and counts (04 R121, 11 R336, 19 R543). [DEDUCED, log 39] -/
def onLink (p : Nat) (x : DSort) (s : State) : State :=
  let s := nameTag p x.pkt (emit (.link p (linkForm s p x)) s)
  let s := stampSort x 0xB (quireOf p) (takeTrack p x s)
  let s := countPort p 11 (attrOf x) x.pkt.charge s
  if x.cls < 4 then s
  else (List.range x.pkt.sorts).foldl (fun s _ => returnCharge (quireOf p) x s) (unreserve x s)

/-- Types that block a packet in staging (PCIe ordering): a posted packet waits for earlier posted ones, a non-posted for
earlier posted and non-posted, a completion for earlier posted and completions. -/
def blockedBy (a b : MsgOp) : Bool :=
  if a.posted then b.posted else if a.nonPosted then b.posted || b.nonPosted else b.posted || b.completion

/-- The staged packets of a VC leave in order as far as credits and the ordering rules let them. [DEDUCED, log 39] -/
def drainList (p : Nat) : List DSort → List DSort → State → List DSort × State
  | [], kept, s => (kept, s)
  | x :: r, kept, s =>
    let k := stagingKey x
    let d := dataCredits x.pkt
    if 1 ≤ credHOf s k ∧ d ≤ credDOf s k ∧ ¬ kept.any (fun y => blockedBy x.pkt.op y.pkt.op) = true
    then drainList p r kept (onLink p x (spendPartner k 1 d s))
    else drainList p r (kept ++ [x]) s

/-- The staging buffers of a VC drain to the link. -/
def drainStaging (p vc : Nat) (s : State) : State :=
  if linkOf s p ≠ 2 then s else
  let k := p * 4 + vc
  let (l, s) := drainList p (Tbl.look [] s.egr.staging k) [] s
  { s with egr := { s.egr with staging := Tbl.upd [] s.egr.staging k l } }

/-- PARTNER_CREDIT_RETURN: the partner of a PCIe or CXL port gives credits of a type: VC·3 + type (posted, non-posted,
completion), or 12 + CXL channel. [DESIGN CHOICE, log 41] -/
def execPartnerCreditReturn (p : Fin 128) (t : Fin 24) (headers data : Nat) (s : State) :
    Host.Outcome State Fault Refusal :=
  .next <|
    if roleOf s p.val = 0 ∨ roleOf s p.val = 3 then s else
    let k := p.val * 32 + t.val
    let s := { s with egr := { s.egr with
        credH := Tbl.mod 0 s.egr.credH k (· + headers)
        credB := Tbl.mod 0 s.egr.credB k (· + data) } }
    if t.val < 12 then drainStaging p.val (t.val / 3) s else s

/-! ### The arbiter (05 R133-R136) -/

/-- A whole packet stands at the head of a queue. [DEDUCED, log 38] -/
def packetWhole (l : List GEnt) : Bool := (headPacket l).any (·.x.eop)

/-- Requests that wait in staging for the link and will take a tracker entry. -/
def stagedTracked (s : State) (p : Nat) : Nat :=
  (List.range 4).foldl (fun n v =>
    n + ((Tbl.look [] s.egr.staging (p * 4 + v)).filter (·.pkt.op.tracked)).length) 0

/-- The head of a queue can be sent (R133): a whole packet, the link up, a tracker entry for a request, and partner credit,
class credit or staging room. [DEDUCED, log 38] -/
def sendable (s : State) (p : Nat) (q : QRef) : Bool :=
  match (queueOf s q).ents with
  | [] => false
  | g :: r =>
    packetWhole (g :: r)
    && (!g.x.pkt.op.tracked || decide ((tracksOf s p).length + stagedTracked s p < 4096))
    && (if roleOf s p = 3 then folioReady s p && decide (0 < folioCredit s p g.x.cls)
        else linkOf s p == 2 &&
          (if g.x.cls < 4 then decide (0 < credHOf s (p * 32 + 12 + g.x.pkt.op.channel)) else stagingRoom s g.x))

/-- The first sendable express queue, RSP before DAT before SNP before REQ. -/
def tier1 (s : State) (p : Nat) : Option QRef :=
  ((List.range 4).map (classRef p)).find? (sendable s p)

def tier2 (s : State) (p : Nat) : Option QRef :=
  if sendable s p (classRef p 5) then some (classRef p 5) else none

/-- A queue's limiter, if any, lets it send. -/
def queueEligible (s : State) (p e : Nat) : Bool :=
  match limiterOf s 1 p e with
  | some l => eligible s l
  | none => true

/-- Tier 3 holds a sendable head. -/
def tier3 (s : State) (p : Nat) : Bool :=
  (Tbl.look [] s.egr.active p).any fun e => sendable s p (egressRef p e) && queueEligible s p e

/-! ### Deficit round robin (05 R141, R142) -/

/-- The charge of the packet at a queue's head: PLEN summed over its sorts. -/
def headCharge (s : State) (q : QRef) : Nat := ((headPacket (queueOf s q).ents).map (·.x.plen)).sum

def setActive (p : Nat) (l : List Nat) (v : Option Nat) (s : State) : State :=
  { s with egr := { s.egr with active := Tbl.upd [] s.egr.active p l, visiting := Tbl.upd none s.egr.visiting p v } }

/-- A queue whose limiter is not eligible leaves the list with its deficit kept. [DEDUCED, log 44] -/
def parkQueue (p e : Nat) (r : List Nat) (s : State) : State :=
  let s := (setActive p r none s).put o4042_04 [pP p, pEQ e] 2
  match limiterOf s 1 p e with
  | some l => waitLimiter l s
  | none => s

/-- Visits until a queue grants a packet: the pseudo-code of R141, one grant at a time. [DEDUCED, log 44] -/
def drrPick (p : Nat) : Nat → State → Option Nat × State
  | 0, s => (none, s)
  | n + 1, s =>
    match Tbl.look [] s.egr.active p with
    | [] => (none, s)
    | e :: r =>
      let q := egressRef p e
      if (queueOf s q).ents.isEmpty then drrPick p n (leaveActive q s)
      else if Tbl.look none s.egr.visiting p = some e then
        if ¬ sendable s p q ∨ s.val o4042_02 [pP p, pEQ e] < headCharge s q then
          drrPick p n (setActive p (r ++ [e]) none s)
        else if ¬ queueEligible s p e then drrPick p n (parkQueue p e r s)
        else
          let c := headCharge s q
          let s := s.put o4042_02 [pP p, pEQ e] (s.val o4042_02 [pP p, pEQ e] - c)
          (some e, match limiterOf s 1 p e with
            | some l => chargeLimiter l c s
            | none => s)
      else if ¬ queueEligible s p e then drrPick p n (parkQueue p e r s)
      else if ¬ sendable s p q then drrPick p n (setActive p (r ++ [e]) none s)
      else drrPick p n (setActive p (e :: r) (some e)
        (s.put o4042_02 [pP p, pEQ e] (s.val o4042_02 [pP p, pEQ e] + s.val o4042_01 [pP p, pEQ e])))

/-- Rounds enough for the largest packet at the smallest quantum over 256 queues. -/
def drrRounds : Nat := 40000

/-- Active queues whose limiters are not eligible are parked when nothing else can be sent. -/
def parkIdle (p : Nat) (s : State) : State :=
  (Tbl.look [] s.egr.active p).foldl (fun s e =>
    if queueEligible s p e then s
    else parkQueue p e ((Tbl.look [] s.egr.active p).filter (· ≠ e)) s) s

/-! ### A grant -/

/-- The sorts of the head packet are read, each word checked (03 R82, 04 R108): the sorts, and whether one was lost. -/
def readPacket (u : Option Upset) (q : QRef) : Nat → Nat → State → List DSort × Bool × State
  | 0, _, s => ([], false, s)
  | n + 1, i, s =>
    match popSort q s with
    | (none, s) => ([], false, s)
    | (some g, s) =>
      match readCheck u q.quire 1 i g.buf g.x s with
      | (some x, s) =>
        let (l, lost, s) := readPacket u q n (i + 1) s
        (x :: l, lost, s)
      | (none, s) =>
        let (l, _, s) := readPacket none q n (i + 1) s
        (g.x :: l, true, s)

/-- The packet's first sort with the poison that any of its sorts has. -/
def wholePacket (l : List DSort) : Option DSort :=
  match l with
  | [] => none
  | x :: r =>
    let po := (x :: r).any fun y => y.poison
    some { x with poison := po, pkt := { x.pkt with poison := x.pkt.poison || po } }

/-- All CXL.mem data sent to the host of a viral VCS is poisoned (16 R465). -/
def viralData (s : State) (p : Nat) (x : DSort) : DSort :=
  let viral : Bool := match vcsOfUp s p with
    | some n => s.flag o9030_02 [pVCS n]
    | none => false
  if viral ∧ (x.pkt.op = .memData ∨ x.pkt.op = .memDataNXM) then
    { x with poison := true, pkt := { x.pkt with poison := true } }
  else x

/-- A packet is sent or staged at a PCIe or CXL port. -/
def sendPacket (p : Nat) (x : DSort) (s : State) : State :=
  let x := viralData s p x
  if x.cls < 4 then onLink p x (spendPartner (p * 32 + 12 + x.pkt.op.channel) 1 0 s)
  else
    let s := if x.resv ∨ x.pkt.op.posted then s else reserveStaging x s
    let y := if x.pkt.op.posted then x else { x with resv := true }
    let k := p * 4 + x.pkt.vc.val % 4
    drainStaging p (x.pkt.vc.val % 4)
      { s with egr := { s.egr with staging := Tbl.mod [] s.egr.staging k fun l => l ++ [y] } }

/-- A bulk sort leaves on a Folio link: its charge comes home (04 R121); a request takes its tracker entry, and the record
of a tagged packet closes (19 R543). [DEDUCED, log 39] -/
def leaveFolio (p : Nat) (x : DSort) (s : State) : State :=
  let s := stampSort x 0xC (quireOf p) (spendCredit p x s)
  let s := if x.sop then takeTrack p x s else s
  let s := countPort p 11 (attrOf x) x.plen s
  if x.cls < 4 then s else returnCharge (quireOf p) x s

/-- A sort lost at the egress read is discarded: a bulk or MGT sort returns its charge, and the first answers for its packet
as 04 Table GAL-3 states; an express sort is left to the home's timeouts (R588). -/
def lostSort (q : QRef) (x : DSort) (s : State) : State :=
  if x.cls < 4 then unreserve x s else discardSort q .completerAbort x s

/-- A packet of a Folio port that has been sent in part is given up (04 R588): its remaining slots are marked VOID, its tracker
entry is freed, and it is answered as 04 Table GAL-3 states for the kind of its first sort. [DEDUCED, log 167] -/
def voidRest (p : Nat) (q : QRef) (x : DSort) (s : State) : State :=
  let v := queueOf s q
  let s := setQueue q { v with ents := v.ents.map fun g =>
      if g.x.pid = x.pid then { g with x := { g.x with voided := true } } else g } s
  if x.pkt.op.posted then countPort p 13 (attrOf x) 1 s
  else match (tracksOf s p).find? fun t => t.x.pid == x.pid with
    | some t => failRequest p .completerAbort t.x (setTracks p ((tracksOf s p).filter fun o => o.id != t.id) s)
    | none => s

/-- The rest of a packet whose first sort is lost is discarded. -/
def dropRest (q : QRef) (x : DSort) (s : State) : State :=
  if x.eop then s else
  let n := ((queueOf s q).ents.filter fun g => pktId g.x == pktId x).length
  let (l, _, s) := readPacket none q n 0 s
  l.foldl (fun s y => lostSort q y s) s

/-- Sorts of a Folio port's granted packet are sent while credits and the replay buffer last, and until an express sort waits, which goes
between two of them (R135); what is left is continued at the port's next grant. [DEDUCED, log 38; DEDUCED, log 167] -/
def folioRun (u : Option Upset) (p : Nat) (q : QRef) : Nat → Nat → State → List DSort × State
  | 0, _, s => ([], s)
  | n + 1, i, s =>
    match (queueOf s q).ents with
    | [] => ([], s)
    | g :: _ =>
      if ¬ folioReady s p ∨ folioCredit s p g.x.cls = 0 then ([], s) else
      match popSort q s with
      | (none, s) => ([], s)
      | (some g, s) =>
        match readCheck u q.quire 1 i g.buf g.x s with
        | (some x, s) =>
          let s := leaveFolio p x s
          if x.eop ∨ (tier1 s p).isSome = true then ([x], s)
          else
            let (l, s) := folioRun u p q n (i + 1) s
            (x :: l, s)
        | (none, s) =>
          if g.x.sop then ([], dropRest q g.x (lostSort q g.x s))
          else
            let x := { g.x with voided := true }
            let s := leaveFolio p x (voidRest p q x s)
            if x.eop ∨ (tier1 s p).isSome = true then ([x], s)
            else
              let (l, s) := folioRun none p q n (i + 1) s
              (x :: l, s)

/-- A packet of a Folio port is sent or continued. -/
def folioGrant (p : Nat) (q : QRef) (u : Option Upset) (s : State) : State :=
  let (l, s) := folioRun u p q 64 0 s
  let s := sendSorts p l s
  let done := (queueOf s q).popping.isNone
  settleActive q { s with egr := { s.egr with rest := Tbl.upd none s.egr.rest p (if done then none else some q) } }

/-- A packet lost at the egress read (04 R588): its sorts are discarded and answered for; where part had already gone to the
link, a PCIe or CXL.io port ends the TLP as nullified. -/
def lostAtRead (p : Nat) (q : QRef) (u : Option Upset) (l : List DSort) (s : State) : State :=
  let part := match u, l with
    | some e, x :: _ => decide (0 < e.sheet.val) && (Tbl.look [] s.egr.staging (p * 4 + x.pkt.vc.val % 4)).isEmpty
    | _, _ => false
  let s := l.foldl (fun s x => lostSort q x s) s
  if part then emit (.nullified p) s else s

/-- A queue is granted. -/
def grantQueue (p tier : Nat) (q : QRef) (u : Option Upset) (s : State) : State :=
  let s := countPort p (7 + tier) (((queueOf s q).ents.head?.map fun g => attrOf g.x).getD {}) 1 s
  let s := match (queueOf s q).ents with
    | g :: _ => stampSort g.x 0xA (quireOf p) s
    | [] => s
  if roleOf s p = 3 then folioGrant p q u s
  else
    let (l, lost, s) := readPacket u q (headPacket (queueOf s q).ents).length 0 s
    settleActive q <| strike u q.quire ((u.map (·.sheet.val)).getD 0) q <|
      if lost then lostAtRead p q u l s
      else match wholePacket l with
        | some x => sendPacket p x s
        | none => s

/-- The arbiter chooses a tier (R133, R134): the guard's turn goes to the highest waiting lower tier. -/
def arbitrate (p : Nat) (u : Option Upset) (s : State) : State :=
  let t1 := tier1 s p
  let t2 := tier2 s p
  let t3 := tier3 s p
  let count := Tbl.look 0 s.egr.tier p
  let guarded := decide (s.val o4042_03 [pP p] ≤ count)
  let setCount := fun (n : Nat) (s : State) => { s with egr := { s.egr with tier := Tbl.upd 0 s.egr.tier p n } }
  let bulk := fun (s : State) => match drrPick p drrRounds s with
    | (some e, s) => grantQueue p 3 (egressRef p e) u s
    | (none, s) => s
  match t1, t2 with
  | some q, m =>
    if (m.isSome ∨ t3 = true) ∧ guarded = true then
      let s := countPort p 12 {} 1 (setCount 0 s)
      match m with
      | some r => grantQueue p 2 r u s
      | none => bulk s
    else grantQueue p 1 q u (setCount (if m.isSome || t3 then count + 1 else 0) s)
  | none, some r =>
    if t3 ∧ guarded = true then bulk (countPort p 12 {} 1 (setCount 0 s))
    else grantQueue p 2 r u (setCount (if t3 then count + 1 else 0) s)
  | none, none => if t3 then bulk (setCount 0 s) else parkIdle p (setCount 0 s)

/-- The next sort of a packet that a Folio port has sent in part can go. -/
def restReady (s : State) (p : Nat) (q : QRef) : Bool :=
  match (queueOf s q).ents with
  | [] => false
  | g :: _ => folioReady s p && decide (0 < folioCredit s p g.x.cls)

/-- EGRESS_GRANT: the port's transmit path goes to the next packet or message; a packet that a Folio port has sent in part
goes on, after an express sort that waits (R135) unless the tier guard gives the packet its turn (R134). -/
def egressGrant (p : Nat) (u : Option Upset) (s : State) : State :=
  match Tbl.look none s.egr.rest p with
  | some q =>
    if (queueOf s q).popping = none then
      arbitrate p u { s with egr := { s.egr with rest := Tbl.upd none s.egr.rest p none } } else
    let count := Tbl.look 0 s.egr.tier p
    let waits := restReady s p q
    let setCount := fun (n : Nat) (s : State) => { s with egr := { s.egr with tier := Tbl.upd 0 s.egr.tier p n } }
    match tier1 s p with
    | some r =>
      if waits ∧ s.val o4042_03 [pP p] ≤ count then folioGrant p q u (countPort p 12 {} 1 (setCount 0 s))
      else grantQueue p 1 r u (setCount (if waits then count + 1 else 0) s)
    | none => folioGrant p q u (setCount 0 s)
  | none => arbitrate p u s

/-- A bulk queue's head waits for staging room alone: it is counted at each grant that passes it (19 Table CNT-1). [DESIGN CHOICE, log 195] -/
def countStaging (p : Nat) (s : State) : State :=
  if roleOf s p = 3 then s else
  (Tbl.look [] s.egr.active p).foldl (fun s e =>
    match (queueOf s (egressRef p e)).ents with
    | g :: r => if packetWhole (g :: r) ∧ stagingRoom s g.x = false then countPort p 14 (attrOf g.x) 1 s else s
    | [] => s) s

def execEgressGrant (p : Fin 128) (u : Option Upset) (s : State) : Host.Outcome State Fault Refusal :=
  .next (egressGrant p.val u (countStaging p.val s))

/-! ### Keys (05 R138-R140) -/

/-- The default queue of a key (R139). -/
def defaultKey (mode k : Nat) : Nat :=
  if mode = 1 then 2 * (k / 8) + k % 8 / 4
  else if k < 512 then 4 * (k / 8) + k % 8 / 2 else 255

/-- The keying mode is written: the shadow map takes the defaults of the new mode (R139). -/
def keyingMode (p v : Nat) (s : State) : Status × State :=
  if 1 < v then (.refused, s)
  else (.ok, (List.range 1024).foldl (fun s k => s.put o4040_02 [pP p, pKEY k] (defaultKey v k)) (s.put o4040_01 [pP p] v))

/-- KEYING_MODE_WRITE. -/
def execKeyingModeWrite (role : Role) (p : Fin 128) (v : Nat) (s : State) : Host.Outcome State Fault Refusal :=
  .next (answered (managed role o4040_01 [pP p.val] (keyingMode p.val v) s))

/-- The shadow map that differs from the defaults of key 0: every key's queue. -/
def shadowMap (s : State) (p : Nat) : Tbl Nat :=
  ((List.range 1024).map fun k => (k, s.val o4040_02 [pP p, pKEY k])).filter fun e => e.2 != 0

/-- The queue a packet would take under a keying mode and map. -/
def queueUnder (s : State) (mode : Nat) (map : Tbl Nat) (x : DSort) : Nat :=
  match keyOf s mode x with
  | some k => Tbl.look 0 map k
  | none => s.val o4040_03 [pP x.dport]

/-- A packet's queue changes under a remap that is held (R140). -/
def moved (s : State) (r : Remap) (x : DSort) : Bool := queueUnder s r.mode r.map x != eqIndex s x

/-- Every queue that lost a key has sent every packet of it: no packet for the port that moves is left in the device. -/
def remapDrained (s : State) (p : Nat) (r : Remap) : Bool :=
  (allSorts s).all fun x => !(x.dport == p && x.cls == 4 && x.unit.isNone && moved s r x)

/-- The remap of a port takes effect. -/
def remapApply (p : Nat) (r : Remap) (s : State) : State :=
  let s := { s with egr := { s.egr with remap := Tbl.upd none s.egr.remap p none } }
  let s := (s.put o4040_08 [pP p] r.mode)
  let s := (List.range 1024).foldl (fun s k => s.put o4040_09 [pP p, pKEY k] (Tbl.look 0 r.map k)) s
  (s.put o4040_07 [pP p] 1).put o4040_05 [pP p] 0

/-- 1 is written to the commit object: admission of every packet that moves is held (R140). -/
def keyMapCommit (p v : Nat) (s : State) : Status × State :=
  if 1 < v then (.refused, s)
  else if v = 0 then (.ok, s)
  else if s.flag o4040_05 [pP p] then (.busy, s)
  else
    let r : Remap := { mode := s.val o4040_01 [pP p], map := shadowMap s p
                       until_ := s.clk.now + us (s.val o4040_06 [pP p]) }
    (.ok, { s with egr := { s.egr with remap := Tbl.upd none s.egr.remap p (some r) } } |>.put o4040_05 [pP p] 1)

/-- KEY_MAP_COMMIT. -/
def execKeyMapCommit (role : Role) (p : Fin 128) (v : Nat) (s : State) : Host.Outcome State Fault Refusal :=
  .next (answered (managed role o4040_04 [pP p.val] (keyMapCommit p.val v) s))

/-- REMAP_APPLIED: the queues that lost a key have drained, and the new map takes effect. -/
def execRemapApplied (p : Fin 128) (s : State) : Host.Outcome State Fault Refusal :=
  .next <| match Tbl.look none s.egr.remap p.val with
    | none => s
    | some r => if remapDrained s p.val r then remapApply p.val r s else s

/-- REMAP_TIMEOUT: the remap timeout ends, the commit is refused and the old map stays. -/
def execRemapTimeout (p : Fin 128) (s : State) : Host.Outcome State Fault Refusal :=
  .next <| match Tbl.look none s.egr.remap p.val with
    | none => s
    | some r =>
      let s := advanceTo r.until_ { s with egr := { s.egr with remap := Tbl.upd none s.egr.remap p.val none } }
      (s.put o4040_07 [pP p.val] 2).put o4040_05 [pP p.val] 0

/-! ### Sampling (05 R149-R152) -/

/-- The path of an instance number: its elements, outermost first. -/
def pathOf : Nat → Nat → Path
  | 0, _ => []
  | n + 1, k => if k = 0 then [] else (k % 16777216 / 65536 - 1, k % 65536) :: pathOf n (k / 16777216)

/-- The queue that a path names. -/
def qrefOf (p : Path) : Option QRef :=
  match p with
  | [(2, m), (5, n), (27, c)] => if m < 8 ∧ n < 128 ∧ c < 6 then some (stageRef m n c) else none
  | [(2, m), (44, _), (27, c)] => if m < 8 ∧ c < 4 then some (homeRef m c) else none
  | [(5, n), (16, e)] => if n < 128 ∧ e < 256 then some (egressRef n e) else none
  | [(5, n), (27, c)] => if n < 128 ∧ c < 6 ∧ c ≠ 4 then some (classRef n c) else none
  | _ => none

/-- The queues of a quire with sampling enabled. -/
def sampledQueues (s : State) (q : Nat) : List QRef :=
  ((s.listed o4048_02).filterMap fun e => qrefOf (pathOf 4 e.1)).filter fun r => r.quire == q

/-- The bucket of a depth, and of a head delay (Table SCH-2). -/
def depthBucket (d : Nat) : Nat := if d = 0 then 0 else min 15 (Nat.log2 d + 1)
def delayBucket (d : Nat) : Nat := if d < 4 then 0 else Nat.log2 (d / 4) + 1

/-- A bucket counts and saturates. -/
def bumpBucket (h b : Nat) : Nat :=
  setBits h (32 * b + 31) (32 * b) (min (bits h (32 * b + 31) (32 * b) + 1) 0xFFFFFFFF)

/-- One queue is sampled (R150, R151). -/
def sampleQueue (s : State) (q : QRef) : State :=
  let v := queueOf s q
  let d := v.ents.length
  let delay := match v.ents with
    | [] => 0
    | g :: _ => (tbNs s + 65536 - g.x.stamp % 65536) % 65536
  let old := decide (d ≠ 0 ∧ ns 65536 ≤ s.clk.now - v.headAt)
  let b := if old then 15 else delayBucket delay
  s.put o4048_03 q.path (bumpBucket (s.val o4048_03 q.path) (depthBucket d))
  |>.put o4048_04 q.path (bumpBucket (s.val o4048_04 q.path) b)
  |>.put o4048_05 q.path (max (s.val o4048_05 q.path) d)
  |>.put o4048_06 q.path (max (s.val o4048_06 q.path) delay)

/-- SAMPLE_INSTANT: every enabled queue of quire `q` is sampled at the next multiple of the interval (R149). -/
def execSampleInstant (q : Fin 8) (s : State) : Host.Outcome State Fault Refusal :=
  .next <|
    let s := toInstant (16 + q.val) (s.val o4048_01 [pQ q.val] * 1000) s
    (sampledQueues s q.val).foldl sampleQueue s

/-- HISTOGRAM_READ: a histogram or maximum is read and cleared in one operation (R152). `what` names 0x4048.03 to .06. -/
def histObj (what : Nat) : Obj :=
  match what with
  | 0 => o4048_03
  | 1 => o4048_04
  | 2 => o4048_05
  | _ => o4048_06

def execHistogramRead (q : QRef) (what : Fin 4) (s : State) : Host.Outcome State Fault Refusal :=
  .next <|
    let o := histObj what.val
    if ¬ q.real then answer .notFound none s else
    answer .ok (some (s.val o q.path)) (s.put o q.path 0)

/-- Sampling is enabled or disabled on a queue (R149, R153). -/
def samplingWrite (q : QRef) (v : Nat) (s : State) : Status × State :=
  if ¬ q.real then (.notFound, s)
  else if 1 < v then (.refused, s)
  else if v = 1 then
    if s.flag o4048_02 q.path then (.ok, s)
    else if 1024 ≤ (sampledQueues s q.quire).length then (.refused, s)
    else (.ok, s.put o4048_02 q.path 1)
  else if s.flag o4048_02 q.path then
    (.ok, (s.put o4048_02 q.path 0)
      |>.put o4048_03 q.path 0 |>.put o4048_04 q.path 0 |>.put o4048_05 q.path 0 |>.put o4048_06 q.path 0)
  else (.ok, s)

/-- SAMPLING_ENABLE_WRITE. -/
def execSamplingEnableWrite (role : Role) (q : QRef) (v : Nat) (s : State) : Host.Outcome State Fault Refusal :=
  .next (answered (managed role o4048_02 q.path (samplingWrite q v) s))

/-! ### Voiding (11 R337) -/

/-- The sorts of a packet in a port's replay buffer. -/
def heldSorts (s : State) (p pid : Nat) : Nat :=
  ((folioOf s p).held.map fun h => (h.slots.filter fun x => x.valid && x.x.pid == pid).length).sum

/-- The sorts of a packet in a port's queue. -/
def queuedSorts (s : State) (q : QRef) (pid : Nat) : Nat := ((queueOf s q).ents.filter fun g => g.x.pid == pid).length

/-- A voided slot: emptied, or marked VOID. [DEDUCED, log 84] -/
def voidSlot (empty : Bool) (pid : Nat) (x : FSlot) : FSlot :=
  if x.valid ∧ x.x.pid = pid then (if empty then { x with valid := false } else { x with void := true }) else x

/-- Every copy of a packet held at a port is voided: removed where none of its sorts has been acknowledged, else what is left is
marked VOID. [DEDUCED, log 84] -/
def voidCopies (p : Nat) (x : DSort) (s : State) : State :=
  let q := if x.cls < 4 then classRef p x.cls else if x.cls = 5 then classRef p 5 else egressRef p (eqIndex s x)
  let inHeld := heldSorts s p x.pid
  let inQueue := queuedSorts s q x.pid
  let n := inHeld + inQueue
  if n = 0 then s else
  let none_ := decide (n = x.pkt.sorts)
  let f := folioOf s p
  let s := setFolio p { f with held := f.held.map fun h => { h with slots := h.slots.map (voidSlot none_ x.pid) } } s
  let v := queueOf s q
  let s :=
    if none_ then
      let gone := v.ents.filter fun g => g.x.pid == x.pid
      let s := setQueue q { v with ents := v.ents.filter fun g => g.x.pid != x.pid } s
      settleQueue q (gone.foldl (fun s g => if 4 ≤ g.x.cls then returnCharge (quireOf p) g.x s else s) s)
    else setQueue q { v with ents := v.ents.map fun g =>
        if g.x.pid = x.pid then { g with x := { g.x with voided := true } } else g } s
  (s.bump o2130_05 [pP p] n) |> countPort p 35 {} n

/-- The home's timer for a snoop voids the copies of it on this member's Folio ports (11 R338): of those of operation `id` of quire `q` for the line
at `a`, the ones a test selects. -/
def voidSnoop (q id a : Nat) (sel : DSort → Bool) (s : State) : State :=
  let mine := fun (x : DSort) => x.fromHome && x.srcq == q && x.cls == 2 && x.pkt.tag % 2 ^ 32 == id % 2 ^ 32 && x.pkt.addr == a && sel x
  let held := s.lnk.folio.flatMap fun e => (e.2.held.flatMap fun h => (h.slots.filter (·.valid)).map (·.x)).map fun x => (e.1, x)
  let queued := s.gal.queues.flatMap fun e => match qrefOfKey e.1 with
    | .egressCls p _ => if roleOf s p.val = 3 then e.2.ents.map fun g => (p.val, g.x) else []
    | _ => []
  ((held ++ queued).filter fun e => mine e.2).foldl (fun s e => voidCopies e.1 e.2 s) s

end Sys2Proof.Machine
end

