-- ==== Sys2Proof/Machine/Frisket.lean ====
section
/-!
DEFINITION. Frisket (09): plates, key sets, the decision on an access, the answers of a refusal, key-table commits and the
checks of plates.
-/
namespace Sys2Proof.Machine

/-! ### Plates (09 Table FRK-4) -/

def plateStart (w : Nat) : Nat := bits w 159 104
def plateEnd (w : Nat) : Nat := bits w 103 48
def plateColour (w : Nat) : Nat := bits w 47 32
def plateValid (w : Nat) : Bool := bit w 31
def platePooled (w : Nat) : Bool := bit w 30
def plateDenyall (w : Nat) : Bool := bit w 29

/-- The plates of a space that are not all zero, with their index. -/
def plates (s : State) (space : Nat) : Tbl Nat :=
  ((s.listed o6000_01).filter fun e => elemAt e.1 0 == space && plateValid e.2).map fun e => (elemAt e.1 1, e.2)

/-- The valid plate of a space that covers an address. -/
def plateAt (s : State) (space a : Nat) : Option (Nat × Nat) :=
  (plates s space).find? fun e => plateStart e.2 * 256 ≤ a && a ≤ plateEnd e.2 * 256 + 255

/-- The capacity block that holds a composite address, with its number: a record of an active range (09 R259). [DEDUCED, log 72] -/
def blockAt (s : State) (a : Nat) : Option (Nat × Block) :=
  s.blocks.findSome? fun e => match e.2 with
    | some b => if b.base = a / 2 ^ 28 then some (e.1, b) else none
    | none => none

/-! ### Key sets (09 R253-R257) -/

/-- A key set holds a colour in one of its 16 slots. The null colour is never held. -/
def holds (ks c : Nat) : Bool := c != 0 && (List.range 16).any fun k => bits ks (16 * k + 15) (16 * k) == c

/-! ### Checkers (09 R249, R271) -/

/-- The checkers, by number: the ports, the Platen units from 128, the Imposition paths from 160, the clusters' network entries from 168, and
the debug master, 180. -/
def ckPort (p : Nat) : Nat := p
def ckUnit (u : Nat) : Nat := 128 + u
def ckImp (q : Nat) : Nat := 160 + q
def ckEntry (k : Nat) : Nat := 168 + k
def ckDebug : Nat := 180

/-- The quire of a checker, 8 the spine. -/
def checkerQuire (c : Nat) : Nat :=
  if c < 128 then c / 16 else if c < 160 then (c - 128) / 4 else if c < 168 then c - 160 else min (c - 168) 8

/-- The checker of what a quire originates, by its origin code. -/
def originChecker (q code : Nat) : Nat := if code < 0x14 then ckUnit (4 * q + code % 4) else ckImp q

/-- A commit is under way, and the checker uses the new bank already. -/
def newBank (s : State) (c : Nat) : Bool := s.val o6020_03 [] == 1 && s.frisk.changed.contains c

/-- The generation a checker uses. -/
def genAt (s : State) (c : Nat) : Nat := (s.val o6020_02 [] + b2n (newBank s c)) % 65536

/-- A number is on a list once. -/
def noted (c : Nat) (l : List Nat) : List Nat := if l.contains c then l else l ++ [c]

/-- Between two accesses a checker may change to the new bank of a commit under way, and to the new colours of blocks: when it does is a free
value, and it does not change back (09 R271, R259). [DEDUCED, log 72] -/
def friskTurn (c : Nat) (s : State) : State :=
  let (f, s) := freshValue s
  let s := if s.val o6020_03 [] = 1 ∧ f % 2 = 1 then { s with frisk := { s.frisk with changed := noted c s.frisk.changed } } else s
  if f / 2 % 2 = 1 then
    { s with blocks := s.blocks.map fun e => (e.1, e.2.map fun b => if b.applied = b.colour then b else { b with seen := noted c b.seen }) }
  else s

/-- The key set of an initiator and PASID in the active bank, or in the new bank of a commit under way (09 R256, R257). -/
def keySet (s : State) (new : Bool) (init : Nat) (pasid : Option Nat) : Nat :=
  if init = 0x1920 then 0xFFFF else
  let ov := match pasid with
    | none => none
    | some p => (List.range 1024).find? fun k =>
        let m := if new then s.val o6012_01 [pPX k] else s.val o6012_03 [pPX k] / 2 ^ 256
        bit m 63 && bits m 44 32 == init && bits m 19 0 == p
  match ov with
  | some k => if new then s.val o6012_02 [pPX k] else bits (s.val o6012_03 [pPX k]) 255 0
  | none => if new then s.val o6010_01 [pIN init] else s.val o6010_02 [pIN init]

/-- The lifecycle state is debug-unlock (18). -/
def debugUnlock (s : State) : Bool := s.val oD050_01 [] == 2

/-! ### The decision (09 R263-R265) -/

/-- The outcome of a check: allowed, or refused with a reason and the plate (0x1FFF none). [DEDUCED, log 73] -/
inductive Verdict where
  | allow
  | refuse (reason plate : Nat)
  deriving DecidableEq, Repr

/-- The colour that applies at an address of a plate; none where a pooled plate has no active block there. While a block's
colour changes, a checker uses one of the two; of another member's block the copy tells the colour (09 R259). -/
def colourAt (s : State) (c plate a : Nat) : Option Nat :=
  if ¬ platePooled plate then some (plateColour plate)
  else if bits a 63 60 = ownPos s then (blockAt s a).map fun b => if b.2.seen.contains c then b.2.colour else b.2.applied
  else Tbl.look none s.frisk.copies (a / 2 ^ 28)

/-- The decision of R265 from address `g` on, over at most `n` plates. [DEDUCED, log 73] -/
def checkFrom (s : State) (ck ks init space a last : Nat) : Nat → Nat → Verdict
  | 0, _ => .allow
  | n + 1, g =>
    if last < g then .allow else
    let dbg := decide (init = 0x1920)
    let free := dbg && debugUnlock s
    match plateAt s space g with
    | none => if free then .allow else .refuse 0x3 0x1FFF
    | some (i, w) =>
      if plateDenyall w ∧ ¬ free then .refuse (if dbg then 0x7 else 0x4) i else
      match colourAt s ck w g with
      | none => if free then .allow else .refuse 0x5 i
      | some c =>
        if dbg ∧ ¬ free ∧ c ≠ 0xFFFF then .refuse 0x7 i
        else if ¬ free ∧ ¬ holds ks c then .refuse (if g = a then 0x1 else 0x2) i
        else
          let next := plateEnd w * 256 + 256
          let blockEnd := (g / 2 ^ 28 + 1) * 2 ^ 28
          checkFrom s ck ks init space a last n (if platePooled w then min next blockEnd else next)

/-- An address is the single point that stands for a host: its upstream port, here or on another member. -/
def isHostPoint (s : State) (a : Nat) : Bool :=
  a % 2 ^ 53 == 0 && (if bits a 63 60 = ownPos s then roleOf s (bits a 59 53) == 1
    else s.forme.vcsIds.any fun e => e.1 / 64 == bits a 63 60
      && Tbl.look none s.forme.targets e.2 == some (bits a 63 60, bits a 59 53, 0))

/-- The bytes a check covers: those of the access, or one byte at the single point of a request routed upstream to a host, whatever
its own address (09 Table FRK-1). [DEDUCED, log 47] -/
def checkSpan (s : State) (space a len : Nat) : Nat :=
  if space = 0 ∧ isHostPoint s a = true then 1 else max len 1

/-- The check at a checker of an access of `len` bytes at `a` (09 R264): an unlocked space refuses all but the unlocked debug master
(R263); a scrub write of a Platen unit holds the transit colour (R253). [DEDUCED, log 73] -/
def friskCheck (s : State) (ck init : Nat) (pasid : Option Nat) (space a len : Nat) (scrub : Bool := false) : Verdict :=
  let free := init = 0x1920 ∧ debugUnlock s = true
  if ¬ s.flag o6001_01 [pSPACE space] ∧ ¬ free then .refuse 0x6 0x1FFF else
  let ks := keySet s (newBank s ck) init pasid * (if scrub then 0 else 1) + (if scrub then s.val o5210_04 [] else 0)
  checkFrom s ck ks init space a (a + checkSpan s space a len - 1) 19 a

/-- A check of one access at a checker, with the bank and the block colours it uses then. -/
def friskAsk (ck init : Nat) (pasid : Option Nat) (space a len : Nat) (scrub : Bool) (s : State) : Verdict × State :=
  let s := friskTurn ck s
  (friskCheck s ck init pasid space a len scrub, s)

/-- A refusal is logged, counted and latched at its checker (09 R267); `path` and the source as the tables name them. -/
def friskRefused (ck source path init space a len reason plate : Nat) (write : Bool) (s : State) : State :=
  let p := if checkerQuire ck < 8 then [pQ (checkerQuire ck)] else [pSPINE]
  let rec_ := tbNs s * 2 ^ 128 + a % 2 ^ 64 * 2 ^ 64 + init * 2 ^ 51 + space * 2 ^ 50 + reason * 2 ^ 46
    + b2n write * 2 ^ 45 + path * 2 ^ 42 + plate * 2 ^ 29 + (len - 1) % 4096 * 2 ^ 17 + genAt s ck * 2 + 1
  let s' := s.bump o6030_01 p 1
  (if s.val o6030_02 p = 0 then s'.put o6030_02 p rec_ else s')
  |> raiseFault source (if reason = 0x7 then 0x21 else 0x20) (init * 2 ^ 29 + plate * 2 ^ 16 + reason * 2 ^ 12)

/-! ### Plate writes and the lock (09 R261, R262) -/

/-- The lock of a space is refused for a plate that ends before it starts, an overlap, a pooled plate in IS or with a
colour, or a plate of the transit colour. -/
def lockFaulty (s : State) (space : Nat) : Bool :=
  let ps := plates s space
  ps.any fun e =>
    decide (plateEnd e.2 < plateStart e.2)
    || (platePooled e.2 && (space == 1 || plateColour e.2 != 0))
    || plateColour e.2 == s.val o5210_04 []
    || ps.any fun f => f.1 != e.1 && plateStart e.2 ≤ plateEnd f.2 && plateStart f.2 ≤ plateEnd e.2

/-- 1 is written to the plate lock of a space; a locked space takes no further plate write (09 R261, R262). [DESIGN CHOICE, log 74] -/
def plateLock (space v : Nat) (s : State) : Status × State :=
  if v ≠ 1 ∨ lockFaulty s space then (.refused, s)
  else (.ok, s.put o6001_01 [pSPACE space] 1)

/-- A plate write: boot code's, while the space is unlocked; DENYALL, CHK and reserved bits are not writable. -/
def plateWrite (space pl v : Nat) (s : State) : Status × State :=
  if s.flag o6001_01 [pSPACE space] then (.refused, s)
  else (.ok, s.put o6000_01 [pSPACE space, pPL pl] (setBits (setBits v 28 0 0) 29 29 0 % 2 ^ 160))

/-- The transit colour is written by boot code, while no space is locked (09 R262). -/
def transitWrite (v : Nat) (s : State) : Status × State :=
  if s.flag o6001_01 [pSPACE 0] ∨ s.flag o6001_01 [pSPACE 1] then (.refused, s) else (.ok, s.put o5210_04 [] (v % 65536))

/-- PLATE_LOCK: a write to the plate lock, which only boot code may make. -/
def execPlateLock (role : Role) (space : Fin 2) (v : Nat) (s : State) : Host.Outcome State Fault Refusal :=
  .next (answered (managed role o6001_00 [pSPACE space.val] (plateLock space.val v) s))

/-! ### Key-table writes and commits (09 R268-R273) -/

/-- A write to a shadow entry of the key table or the PASID table: busy while a commit is under way (09 R268). [DESIGN CHOICE, log 74] -/
def shadowWrite (o : Obj) (p : Path) (v : Nat) (s : State) : Status × State :=
  if s.val o6020_03 [] ≠ 0 then (.busy, s)
  else if o.code = 0x601001 ∧ pathNum 23 p = 0x1920 then (.refused, s)
  else (.ok, s.put o p (v &&& o.mask))

/-- A shadow bank that may not be committed: a reserved colour, two equal overrides, or an index above 0x083F (09 R270). -/
def shadowFaulty (s : State) : Bool :=
  let t := s.val o5210_04 []
  let bad := fun (ks : Nat) => holds ks 0xFFFF || holds ks t
  let ov := (s.listed o6012_01).filter fun e => bit e.2 63
  (s.listed o6010_01).any (fun e => bad e.2)
  || (s.listed o6012_02).any (fun e => bad e.2)
  || ov.any (fun e => decide (0x83F < bits e.2 44 32))
  || ov.any (fun e => ov.any fun f => e.1 != f.1 && bits e.2 44 32 == bits f.2 44 32 && bits e.2 19 0 == bits f.2 19 0)

/-- The commit object is written with the next generation (09 R270, R271). [DESIGN CHOICE, log 74] -/
def keyCommit (v : Nat) (s : State) : Status × State :=
  if v ≠ (s.val o6020_02 [] + 1) % 65536 ∨ s.val o6020_03 [] ≠ 0 ∨ shadowFaulty s then (.refused, s)
  else (.ok, s.put o6020_03 [] 1)

/-- KEY_TABLE_COMMIT: the commit object is written. -/
def execKeyTableCommit (role : Role) (v : Nat) (s : State) : Host.Outcome State Fault Refusal :=
  .next (answered (managed role o6020_01 [] (keyCommit v) s))

/-- Every instance of the new bank becomes active: the shadow's key sets and overrides (09 R271). -/
def activateBank (s : State) : State :=
  let px := fun (e : Nat) => s.val o6012_01 [pPX e] * 2 ^ 256 + s.val o6012_02 [pPX e]
  let keys := ((s.listed o6010_01).map (·.1) ++ (s.listed o6010_02).map (·.1))
  let pxs := ((s.listed o6012_01).map (·.1) ++ (s.listed o6012_02).map (·.1) ++ (s.listed o6012_03).map (·.1))
  let s1 := keys.foldl (fun s k => s.put o6010_02 [pIN (elemAt k 0)] (s.val o6010_01 [pIN (elemAt k 0)])) s
  pxs.foldl (fun s k => s.put o6012_03 [pPX (elemAt k 0)] (px (elemAt k 0))) s1

/-- KEY_COMMIT_COMPLETE: every checker has changed bank; the generation becomes active and the copy to the shadow starts. -/
def execKeyCommitComplete (s : State) : Host.Outcome State Fault Refusal :=
  .next <| if s.val o6020_03 [] ≠ 1 then s else
    let s := (activateBank s).put o6020_02 [] ((s.val o6020_02 [] + 1) % 65536) |>.put o6020_03 [] 2
    { s with frisk := { s.frisk with changed := [] } }

/-- The shadow bank takes the active one. -/
def copyShadow (s : State) : State :=
  let keys := ((s.listed o6010_01).map (·.1) ++ (s.listed o6010_02).map (·.1))
  let pxs := ((s.listed o6012_01).map (·.1) ++ (s.listed o6012_02).map (·.1) ++ (s.listed o6012_03).map (·.1))
  let s1 := keys.foldl (fun s k => s.put o6010_01 [pIN (elemAt k 0)] (s.val o6010_02 [pIN (elemAt k 0)])) s
  pxs.foldl (fun s k =>
    let e := elemAt k 0
    s.put o6012_01 [pPX e] (s.val o6012_03 [pPX e] / 2 ^ 256) |>.put o6012_02 [pPX e] (bits (s.val o6012_03 [pPX e]) 255 0)) s1

/-- KEY_SHADOW_COPY_COMPLETE: the copy into the shadow ends, and the commit state returns to idle. [DEDUCED, log 76] -/
def execKeyShadowCopyComplete (s : State) : Host.Outcome State Fault Refusal :=
  .next <| if s.val o6020_03 [] ≠ 2 then s else (copyShadow s).put o6020_03 [] 0

/-! ### Damage (09 R275-R277) -/

/-- DENYALL is set on a plate and counted. -/
def denyPlate (space pl : Nat) (s : State) : State :=
  let w := s.val o6000_01 [pSPACE space, pPL pl]
  if plateDenyall w then s else
  s.put o6000_01 [pSPACE space, pPL pl] (setBits w 29 29 1)
  |>.put o6001_02 [pSPACE space] (s.val o6001_02 [pSPACE space] + 1)

/-- PLATE context (16 Table FLT-4). -/
def ctxPlate (space pl second : Nat) : Nat := space * 2 ^ 41 + pl * 2 ^ 29 + second * 2 ^ 17

/-- What a found damage does (09 Table FRK-8). A checker of a quire reports under its first port's source, the spine's
checkers and the master copy under theirs (16 Table FLT-2). [DEDUCED, log 75] -/
def plateDamage (f : PlateFault) (s : State) : State :=
  let src := match f.checker with
    | none => 0x504
    | some q => if q.val < 8 then 16 * q.val else 0x2FC
  let ctx := ctxPlate f.space.val f.plate.val 0xFFF
  match f.ecc, f.checker, f.second with
  | some .single, _, _ => raiseFault src 0x22 ctx s
  | _, some _, _ => raiseFault src 0x23 ctx s
  | some .double, none, _ => raiseFault src 0x24 ctx (denyPlate f.space.val f.plate.val s)
  | none, none, some g =>
    raiseFault src 0x25 (ctxPlate f.space.val f.plate.val g.val)
      (denyPlate f.space.val g.val (denyPlate f.space.val f.plate.val s))
  | none, none, none => s

/-- An error in a colour slot of a key set (09 R277): a single-bit error is corrected; after a double-bit error an active slot reads as
empty until the next commit, and what a shadow slot holds is not stated: a free value. [DEDUCED, log 75; DEDUCED, log 76; DESIGN CHOICE, log 109] -/
def keyUpset (init slot : Nat) (active : Bool) (e : Ecc) (s : State) : State :=
  let ctx := init * 2 ^ 29 + slot * 2 ^ 25 + b2n active * 2 ^ 24
  let hole := fun (w v : Nat) => setBits w (16 * slot + 15) (16 * slot) v
  match e, active with
  | .single, _ => raiseFault 0x503 0x26 ctx s
  | .double, true => raiseFault 0x503 0x27 ctx (s.put o6010_02 [pIN init] (hole (s.val o6010_02 [pIN init]) 0))
  | .double, false =>
    let (f, s) := freshValue s
    s.put o6010_01 [pIN init] (hole (s.val o6010_01 [pIN init]) (f % 65536))

/-- PLATE_BACKGROUND_CHECK: the pass over the plates and the key sets, with what it finds. [DESIGN CHOICE, log 13; DESIGN CHOICE, log 109] -/
def execPlateBackgroundCheck (found : Option FrisketFault) (s : State) : Host.Outcome State Fault Refusal :=
  .next <| match found with
    | none => s
    | some (.plate f) => plateDamage f s
    | some (.key i k active e) => keyUpset i.val k.val active e s

end Sys2Proof.Machine
end

