-- ==== Sys2Proof/Machine/Refuse.lean ====
section
/-!
DEFINITION. The refusal of an access at its ingress port: the answer, the error registers, the log (09 R266, R267; 02 R57).
-/
namespace Sys2Proof.Machine

/-- A request is answered by the controller of the port it entered: its answers go back to the requester, over Folio
by its PBR ID `spbr` from the ID `own` that it was for. -/
def answerFor (port spbr own : Nat) (how : FailKind) (p : Packet) (s : State) : State :=
  let d := replyPort s port spbr
  (failAnswers how p).foldl (fun s a =>
    originateAs (quireOf port) (port % 16) d p.ld.val a.op.cls own spbr { a with dst := some (Fin.ofNat 128 d) } s) s

def answerAtIngress (port spbr : Nat) (how : FailKind) (p : Packet) (s : State) : State := answerFor port spbr 0xFFF how p s

/-- The path code of a packet in a refusal record (09 Table FRK-6). [DEDUCED, log 47] -/
def pathOfOp (o : MsgOp) : Nat :=
  if o.cls = 4 then 0 else if o.channel < 6 then 1 else 2

/-- Bytes an access covers: a CXL message one line. -/
def accessLen (p : Packet) : Nat := if p.op.cls = 4 then max p.len 1 else 64

/-- The packet writes. -/
def writesOp (o : MsgOp) : Bool := o == .mWr || o == .memWr || o == .memWrPtl || o == .memWrFwd

/-- Frisket refuses a packet at its ingress port (09 R266, R267). -/
def refusePacket (port init a reason plate : Nat) (p : Packet) (s : State) : State :=
  let b := bridgeOf s port p.ld.val
  let s := if p.op.cls = 4 then setAer b 15 p s else s
  let s := if p.op.posted then s else answerAtIngress port 0xFFF .completerAbort p s
  friskRefused (ckPort port) port (pathOfOp p.op) init 0 a (accessLen p) reason plate (writesOp p.op) s
  |> countPort port 6 { init := some init, addr := some a, cls := some p.op.cls } 1

/-- A packet is checked at its ingress port at composite address `a`: allowed with the generation of its check, or refused; an OFFSET that does
not fit its field shows above the address (09 R252). -/
def checkPacket (port init a : Nat) (p : Packet) (s : State) : Option Nat × State :=
  let (v, s) := friskAsk (ckPort port) init p.pasid 0 a (accessLen p) false s
  match v with
  | .allow => if 2 ^ 64 ≤ a then (none, refusePacket port init a 0x3 0x1FFF p s) else (some (genAt s (ckPort port)), s)
  | .refuse r pl => (none, if 2 ^ 64 ≤ a then refusePacket port init a 0x3 0x1FFF p s else refusePacket port init a r pl p s)

end Sys2Proof.Machine
end

