-- ==== Sys2Proof/Machine/Galley.lean ====
section
/-!
DEFINITION. The Galley (04): admission at the intake, flushes, queue checks and sweeps, the credit audit and the congestion
maps.
-/
namespace Sys2Proof.Machine

/-! ### The intake (04 R121-R126, R130) -/

/-- The intake FIFO of a packet at its port: VC·3 + credit type for PCIe and CXL.io, 24 + channel for CXL.mem and CXL.cache,
40 + class at a Folio port. -/
def fifoOf (s : State) (p : Nat) (pk : Packet) (cls : Nat) : Nat :=
  if roleOf s p = 3 then 40 + cls
  else if pk.op.cls = 4 then pk.vc.val % 4 * 3 + pk.op.credType
  else 24 + pk.op.channel

def intakeOf (s : State) (p f : Nat) : List Routed := Tbl.look [] s.gal.intake (p * 64 + f)

def setIntake (p f : Nat) (l : List Routed) (s : State) : State :=
  { s with gal := { s.gal with intake := Tbl.upd [] s.gal.intake (p * 64 + f) l } }

/-- The sorts of a waiting packet, as the header fields they share (03 Table PLN-1). -/
def routedSort (r : Routed) (mid : Nat) (slot : Option Nat) : DSort :=
  { cls := r.cls, srcq := quireOf r.sport, midq := mid, dstq := quireOf r.dport, sport := r.sport, dport := r.dport,
    dld := r.dld, tc := r.pkt.tc.val, vc := r.pkt.vc.val, poison := r.pkt.poison, err := r.pkt.err, spbr := r.spbr,
    dpbr := r.dpbr, stamp := r.stamp, trace := slot.isSome, traceid := slot.getD 0, init := r.init, home := r.home,
    gen := r.gen, pid := r.ord, hid := r.hid, hown := r.hown, unit := r.unit, pkt := r.pkt }

/-- Where a held packet waits (0x4034.06). -/
inductive Hold where
  | map | account | launch | credit | staging | other
  deriving DecidableEq, Repr

/-- A packet's key changes queue while a remap of its egress port is held (05 R140). -/
def remapHolds (s : State) (x : DSort) : Bool :=
  match Tbl.look none s.egr.remap x.dport with
  | some r => moved s r x
  | none => false

/-- What holds a bulk packet, if anything: its flow limiter (05 R145), a remap, the map, the account, launch room, or the
staging reservation of a non-posted request or completion (05 R137). [DEDUCED, log 43] -/
def bulkHold (s : State) (x : DSort) : Option Hold :=
  let i := x.srcq
  let n := x.pkt.sorts
  if (match limiterOf s 2 x.sport x.dport with
      | some l => x.unit.isNone && !eligible s l
      | none => false) then some .other
  else if x.unit.isNone ∧ remapHolds s x = true then some .other
  else if (x.unit.isNone && eqBit s i x.dport (eqIndex s x)) || sqBit s i x.dport then some .map
  else if ¬ accountOk s x.sport x.dstq n then some .account
  else if launchRoom s i < n then some .launch
  else if stages s x ∧ ¬ stagingRoom s x then some .staging
  else none

/-- The first asking of a packet (19 "candidate", R541-R544): the quire's LFSR advances, and the packet is tagged when its
low bits are zero and the trace ring has room. -/
def traceCandidate (q : Nat) (r : Routed) (s : State) : Routed × State :=
  if r.asked then (r, s) else
  let r := { r with asked := true }
  let a : EvAttr := { init := some r.init, addr := r.chk, cls := some r.cls }
  if ¬ bankPass s (s.val oC050_02 [pQ q]) a then (r, s) else
  let v := Tbl.look 1 s.lfsr q
  let v := (v >>> 1) ^^^ (if v % 2 = 1 then 0x80200003 else 0)
  let s := { s with lfsr := Tbl.upd 1 s.lfsr q v }
  let n := s.val oC050_01 [pQ q]
  if n = 0 ∨ v % 2 ^ n ≠ 0 then (r, s)
  else if 4096 ≤ s.val oC050_08 [] then (r, countEvent (12288 + 641) {} 1 s)
  else
    let w := s.val oC050_07 []
    let rec_ : TraceRec := {
      t0 := tbNs s, sport := r.sport, dport := r.dport, cls := r.cls, tc := r.pkt.tc.val, bytes := r.pkt.len % 8192,
      init := r.init, addr := r.pkt.addr / 64, posted := !r.pkt.op.tracked }
    let s := { s with trc := Tbl.upd { open_ := false } s.trc w rec_ }
    let s := (s.put oC050_07 [] ((w + 1) % 4096)).put oC050_08 [] (s.val oC050_08 [] + 1)
    ({ r with trace := some w }, stamp w 0x0 q (countEvent (12288 + 640) {} 1 s))

/-- Sorts leave the Folio intake: their credits are owed to the partner (11 R329). -/
def oweFolio (p c n : Nat) (s : State) : State :=
  let g := folioOf s p
  setFolio p { g with occ := Tbl.mod 0 g.occ c (· - n), owed := Tbl.mod 0 g.owed c (· + n) } s

/-- Link credits of a packet that leaves the intake come back to the partner (04 R130, 11 R329). -/
def returnIntake (p f : Nat) (r : Routed) (s : State) : State :=
  if roleOf s p = 3 then oweFolio p r.cls r.pkt.sorts s
  else emit (.credit p (if f < 24 then f else f - 12) 1 (if f < 24 then dataCredits r.pkt else 0)) s

/-- A packet that enters no intake FIFO, being refused, discarded or taken at its port, gives its link credits back at once. [DEDUCED, log 163] -/
def freePacket (p : Nat) (pk : Packet) (s : State) : State :=
  if roleOf s p = 3 then oweFolio p pk.op.cls pk.sorts s else
  let f := fifoOf s p pk pk.op.cls
  emit (.credit p (if f < 24 then f else f - 12) 1 (if f < 24 then dataCredits pk else 0)) s

/-- A packet stays in its intake (04 R126): the intake state shows why and the hold is counted. The manual gives no state
value to a hold by a limiter, a remap or staging: the value is free. [DESIGN CHOICE, log 37; DESIGN CHOICE, log 195] -/
def holdPacket (p : Nat) (h : Hold) (r : Routed) (s : State) : State :=
  let a : EvAttr := { init := some r.init, addr := r.chk, cls := some r.cls }
  match h with
  | .map => countPort p 2 a 1 (s.put o4034_06 [pP p] 1)
  | .account => countPort p 3 a 1 (s.put o4034_06 [pP p] 2)
  | .launch => countPort p 4 a 1 (s.put o4034_06 [pP p] 3)
  | .credit => countPort p 5 a 1 (s.put o4034_06 [pP p] 4)
  | .staging | .other =>
    let s := if h = .staging then countPort r.dport 14 a 1 s else s
    let (f, s) := freshValue s
    s.put o4034_06 [pP p] (f % 5)

/-- A packet's sorts are charged to its port's account (04 R121, R123). -/
def chargeAccount (x : DSort) (s : State) : State :=
  let n := x.pkt.sorts
  let (_, past) := sharesOf s x.sport x.dstq n
  s.put o4034_03 [pP x.sport, pQ x.dstq] (s.val o4034_03 [pP x.sport, pQ x.dstq] + n)
  |>.put o4034_04 [pQ x.srcq, pQ x.dstq] (s.val o4034_04 [pQ x.srcq, pQ x.dstq] + past)

/-- Counts and stamps of an admitted packet. -/
def noteAdmitted (p : Nat) (r : Routed) (x : DSort) (s : State) : State :=
  let a : EvAttr := { init := some r.init, addr := r.chk, cls := some r.cls }
  countPort p 0 a 1 (s.put o4034_06 [pP p] 0)
  |> countPort p 1 a r.pkt.bytes
  |> stampSort x 0x1 x.srcq

/-- A bulk packet is admitted: charged, its flow limiter advanced, its staging reserved, and passed to frame assembly. -/
def admitBulk (p f : Nat) (r : Routed) (x : DSort) (s : State) : State :=
  let s := noteAdmitted p r x (returnIntake p f r s)
  let s := match x.unit, limiterOf s 2 x.sport x.dport with
    | none, some l => chargeLimiter l x.pkt.charge s
    | _, _ => s
  let keep := stages s x
  let s := chargeAccount x (if keep then reserveStaging x s else s)
  assemble { x with resv := keep } s

/-- The packet at the head of a FIFO may ask: a non-posted request or a completion waits for earlier posted packets of its VC
(04 R126), and no intake runs in stop-press or at a contained quire (16 R463, R467). -/
def mayAsk (s : State) (p f : Nat) (r : Routed) : Bool :=
  !inStopPress s && !quireDark s (quireOf p) && !(r.home && sweepHolds s r.pkt)
  && (decide (12 ≤ f) || f % 3 == 0 ||
      match intakeOf s p (f - f % 3) with
      | [] => true
      | h :: _ => decide (r.ord < h.ord))

/-- A packet checked under another key-table generation than the current one is checked again (09 R272). -/
def recheck (r : Routed) (s : State) : Option Routed × State :=
  match r.chk with
  | none => (some r, s)
  | some a =>
    let s := friskTurn (ckPort r.sport) s
    if r.gen = genAt s (ckPort r.sport) then (some r, s) else
    match checkPacket r.sport r.init a r.pkt s with
    | (some g, s) => (some { r with gen := g }, s)
    | (none, s) => (none, s)

/-- An express request that passes no home has entries in the egress queues for its answers, and a write for itself, which is never held on
its way (04 R125, 06 Table COH-9). What goes to a home gets them there. [DEDUCED, log 182] -/
def entryRoom (s : State) (x : DSort) : Bool :=
  x.home || x.unit.isSome || !x.pkt.op.tracked ||
  (egressFree s x.sport 0 && (!draws x.pkt.op 1 || egressFree s x.sport 1) && (x.cls != 1 || egressFree s x.dport 1))

/-- The head of an intake FIFO asks for admission: bulk by R123, an express message by R124. -/
def askAdmission (p f : Nat) (r : Routed) (rest : List Routed) (s : State) : State :=
  match recheck r s with
  | (none, s) => returnIntake p f r (setIntake p f rest s)
  | (some r, s) =>
    let (r, s) := traceCandidate (quireOf p) r s
    let x := onVc s (routedSort r (substQuire s r.midq) r.trace)
    if r.cls < 4 then
      if creditOf s x.srcq x.midq x.cls = 0 ∨ entryRoom s x = false then holdPacket p .credit r (setIntake p f (r :: rest) s)
      else
        let s := noteAdmitted p r x (returnIntake p f r (setIntake p f rest s))
        launchExpress x (stampSort x 0x2 x.srcq s)
    else
      match bulkHold s x with
      | some h =>
        let s := match x.unit, limiterOf s 2 x.sport x.dport with
          | none, some l => if eligible s l then s else waitLimiter l s
          | _, _ => s
        holdPacket p h r (setIntake p f (r :: rest) s)
      | none => admitBulk p f r x (setIntake p f rest s)

/-- INTAKE_ADMISSION: the bulk packet at the head of FIFO `f` of port `p` asks (R123). -/
def execIntakeAdmission (p : Fin 128) (f : Fin 64) (s : State) : Host.Outcome State Fault Refusal :=
  .next <| match intakeOf s p.val f.val with
    | [] => s
    | r :: rest =>
      if 4 ≤ r.cls ∧ mayAsk s p.val f.val r = true then askAdmission p.val f.val r rest s else s

/-- EXPRESS_ADMISSION: the express message at the head of FIFO `f` of port `p` asks (R124). -/
def execExpressAdmission (p : Fin 128) (f : Fin 64) (s : State) : Host.Outcome State Fault Refusal :=
  .next <| match intakeOf s p.val f.val with
    | [] => s
    | r :: rest =>
      if r.cls < 4 ∧ mayAsk s p.val f.val r = true then askAdmission p.val f.val r rest s else s

/-! ### Flush, check and sweep (04 R113-R117) -/

/-- 1 is written to the flush object of an egress queue. The manual names no cause for it: its requests complete with Completer Abort. [DESIGN CHOICE, log 176] -/
def queueFlush (p e v : Nat) (s : State) : Status × State :=
  if 1 < v then (.refused, s)
  else if v = 0 then (.ok, s)
  else (.ok, flushQueue (egressRef p e) .completerAbort s)

/-- QUEUE_FLUSH. -/
def execQueueFlush (role : Role) (p : Fin 128) (e : Fin 256) (v : Nat) (s : State) : Host.Outcome State Fault Refusal :=
  .next (answered (managed role o4032_05 [pP p.val, pEQ e.val] (queueFlush p.val e.val v) s))

/-- DESCRIPTOR_CHECK_TIMER: the background check finds the copies of a queue's pointers different, or UNDR set (R116, R117). `bad` names a
queue in which they have changed unseen since. [DESIGN CHOICE, log 13] -/
def execDescriptorCheckTimer (bad : Option QRef) (s : State) : Host.Outcome State Fault Refusal :=
  .next <|
    let s := (s.gal.queues.filter (·.2.broken)).foldl (fun s e => resetQueue (qrefOfKey e.1) s) s
    match bad with
    | some q => resetQueue q s
    | none => s

/-- QUEUE_SWEEP_COMPLETE: the oldest sweep of quire `q` has reclaimed every buffer (R117, Table GAL-3). [DESIGN CHOICE, log 6] -/
def execQueueSweepComplete (q : Fin 8) (s : State) : Host.Outcome State Fault Refusal :=
  .next <| match takeFirst (fun w : Swept => w.queue.quire == q.val) s.gal.swept with
    | none => s
    | some (w, r) =>
      let s := w.ents.foldl (fun s g => discardSort w.queue .completerAbort g.x s)
        { s with gal := { s.gal with swept := r } }
      if r.any (fun w => w.queue.quire == q.val) then s else s.put o403A_02 [pQ q.val] 0

/-! ### The credit audit (04 R120) -/

/-- The counts an intermediate latches: received from each source quire and express class, key 4·s + c. -/
def auditCounts (s : State) (m : Nat) : Tbl Nat :=
  (List.range 32).foldl (fun t k => Tbl.upd 0 t k (Tbl.look 0 s.gal.received (creditKey (k / 4) m (k % 4)))) []

/-- What source `i` had launched to `m` up to 16 ns before the instant. -/
def auditLaunched (s : State) (i m c : Nat) : Nat :=
  let k := creditKey i m c
  let late := ((Tbl.look [] s.gal.recent k).filter fun t => s.clk.now < t + ns 16).length
  (Tbl.look 0 s.gal.launched k + 65536 - late) % 65536

/-- CREDIT_AUDIT: at each whole millisecond of the timebase every intermediate latches its counts, and every source notes its
launches. -/
def execCreditAudit (s : State) : Host.Outcome State Fault Refusal :=
  .next <|
    let s := toInstant 8 1000000 s
    let lat := (List.range 8).foldl (fun t m => Tbl.upd none t m (some (auditCounts s m))) []
    let snap := (List.range 256).foldl (fun t k =>
      Tbl.upd 0 t k (auditLaunched s (k / 32) (k / 4 % 8) (k % 4))) []
    { s with gal := { s.gal with latched := lat, snap := snap } }

/-- A source restores the credits an audit finds missing. [DEDUCED, log 34] -/
def auditRestore (i m : Nat) (t : Tbl Nat) (s : State) : State :=
  (List.range 4).foldl (fun s c =>
    let k := creditKey i m c
    let got := Tbl.look 0 t (4 * i + c)
    let n := (Tbl.look 0 s.gal.snap k + 131072 - got - Tbl.look 0 s.gal.restored k) % 65536
    if n = 0 ∨ 32768 ≤ n then s else
    let s := returnCredits i m c n s
    let s := { s with gal := { s.gal with restored := Tbl.mod 0 s.gal.restored k fun r => (r + n) % 65536 } }
    s.bump o403C_01 [pQ i] n) s

/-! ### Congestion maps (04 R127-R129) -/

/-- The EQBP bits of a quire: bulk egress queues of its ports with BP set. -/
def eqbpOf (s : State) (q : Nat) : List Nat :=
  s.gal.queues.filterMap fun e =>
    if e.2.bp then
      match qrefOfKey e.1 with
      | .egress p x => if quireOf p.val = q then some (256 * (p.val % 16) + x.val) else none
      | _ => none
    else none

/-- The SQBP bits of a quire: ports with a BLK or MGT stage queue of its own under back-pressure. -/
def sqbpOf (s : State) (q : Nat) : List Nat :=
  (List.range 128).filter fun x => (queueOf s (stageRef q x 4)).bp || (queueOf s (stageRef q x 5)).bp

/-- The map a quire sends. -/
def mapNow (s : State) (q : Nat) : CMap :=
  { mseq := Tbl.look 0 s.gal.mseq q
    eqbp := eqbpOf s q
    sqbp := sqbpOf s q
    ret := (List.range 128).foldl (fun t x => Tbl.upd 0 t x (Tbl.look 0 s.gal.retCum (q * 128 + x))) []
    audit := Tbl.look none s.gal.latched q }

/-- CONGESTION_MAP_SEND: quire `q` broadcasts its map at the next instant of 32 ns. -/
def execCongestionMapSend (q : Fin 8) (s : State) : Host.Outcome State Fault Refusal :=
  .next <|
    let s := toInstant q.val 32 s
    let m := mapNow s q.val
    { s with gal := { s.gal with
        maps := (List.range 8).foldl (fun t r => Tbl.mod [] t (8 * r + q.val) fun l => l ++ [m]) s.gal.maps
        mseq := Tbl.upd 0 s.gal.mseq q.val ((m.mseq + 1) % 4096)
        sent := Tbl.upd none s.gal.sent q.val (some m)
        latched := Tbl.upd none s.gal.latched q.val none } }

/-- The charges a map returns to the ports of quire `r` from egress quire `e` (04 R121): the change of each cumulative count. [DEDUCED, log 33] -/
def takeReturns (r e : Nat) (m : CMap) (s : State) : State :=
  (List.range 16).foldl (fun s j =>
    let p := 16 * r + j
    let v : MapIn := Tbl.look {} s.gal.mapIn (8 * r + e)
    let now := Tbl.look 0 m.ret p
    let n := (now + 4096 - Tbl.look 0 v.ret p) % 4096
    if n = 0 then s else
    chargeReturn r p e n
      { s with gal := { s.gal with mapIn := Tbl.upd {} s.gal.mapIn (8 * r + e) { v with ret := Tbl.upd 0 v.ret p now } } }) s

/-- CONGESTION_MAP_RECEIVE: quire `r` takes the oldest map of quire `e` on its way; `bad` says that its CRC fails. [DEDUCED, log 33] -/
def mapReceive (r e : Nat) (bad : Bool) (s : State) : State :=
  let k := 8 * r + e
  match Tbl.look [] s.gal.maps k with
  | [] => s
  | m :: l =>
    let s := { s with gal := { s.gal with maps := Tbl.upd [] s.gal.maps k l } }
    let v : MapIn := Tbl.look {} s.gal.mapIn k
    if bad ∨ m.mseq ≠ v.next then
      let v' : MapIn := { v with good := false, next := ((if bad then v.next else m.mseq) + 1) % 4096 }
      raiseFault (0x2C8 + r) 0x09 (ctxQuire e) { s with gal := { s.gal with mapIn := Tbl.upd {} s.gal.mapIn k v' } }
    else
      let v' : MapIn := { v with map := m, good := true, next := (m.mseq + 1) % 4096 }
      let s := { s with gal := { s.gal with mapIn := Tbl.upd {} s.gal.mapIn k v' } }
      let s := takeReturns r e m s
      match m.audit with
      | some t => auditRestore r e t s
      | none => s

def execCongestionMapReceive (r e : Fin 8) (bad : Bool) (s : State) : Host.Outcome State Fault Refusal :=
  .next (mapReceive r.val e.val bad s)

/-! ### Watermarks and reservations (04 R109, R122) -/

/-- HIGH or LOW of a queue is written: LOW stays below HIGH. BP is judged anew at once, with its interrupt; the manual speaks of changes of
the depth. [DESIGN CHOICE, log 177] -/
def watermarkWrite (o : Obj) (p : Path) (v : Nat) (s : State) : Status × State :=
  let ok := inRange o v &&
    (if o.code = 0x403002 then decide (s.val o4030_03 p < v)
     else if o.code = 0x403003 then decide (v < s.val o4030_02 p)
     else if o.code = 0x403202 then decide (s.val o4032_03 p < v)
     else decide (v < s.val o4032_02 p))
  if ok then
    (.ok, match qrefOf p with
      | some q => settleQueue q (s.put o p v)
      | none => s.put o p v)
  else (.refused, s)

/-- A reservation is written: S(i) stays at 2,304 or more. -/
def reserveWrite (p v : Nat) (s : State) : Status × State :=
  if inRange o4034_01 v ∧ 2304 ≤ sharedPart (s.put o4034_01 [pP p] v) (quireOf p) then
    (.ok, s.put o4034_01 [pP p] v) else (.refused, s)

end Sys2Proof.Machine
end

