-- ==== Sys2Proof/Machine/Members.lean ====
section
/-!
DEFINITION. The members of a forme (02 R59-R72): which are joined and eligible, the Folio links between them, the ways that routes may take,
and the route tables the lead writes.
-/
namespace Sys2Proof.Machine

/-! ### Members (R64-R68, R72) -/

/-- The device is part of a forme: it has a position, and members have joined. -/
def formed (s : State) : Bool := decide (s.val o4200_01 [] < 16) && s.val o4200_08 [] != 0

/-- A forme position has joined. -/
def joinedAt (s : State) (k : Nat) : Bool := bit (s.val o4200_08 []) k

/-- The other members that have joined. -/
def otherMembers (s : State) : List Nat := (List.range 16).filter fun k => joinedAt s k && k != ownPos s

/-- A position is lead-eligible. -/
def eligibleAt (s : State) (k : Nat) : Bool :=
  if k = s.val o4200_01 [] then s.flag o4200_03 [] else !(Tbl.look false s.forme.notElig k)

/-- The eligible members in order of position. -/
def eligibleMembers (s : State) : List Nat := (List.range 16).filter fun k => joinedAt s k && eligibleAt s k

/-- This part of the forme holds a majority, or half with the lowest position (R72). [DEDUCED, log 26] -/
def hasMajority (s : State) : Bool :=
  let n := ((List.range 16).filter (joinedAt s)).length
  let all := s.val o4200_04 []
  decide (all < 2 * n) || (2 * n == all && joinedAt s 0)

/-- This device's fabric manager is the one that changes bindings and routes: it stands alone, or is the lead with authority (R61, R72). -/
def leads (s : State) : Bool := !formed s || (s.val o4200_07 [] == ownPos s && !s.forme.noAuthority)

/-- Another member is told something. -/
def tell (k : Nat) (m : FMsg) (s : State) : State := emit (.forme k m) s

/-- Every other member is told something. -/
def tellAll (m : FMsg) (s : State) : State := (otherMembers s).foldl (fun s k => tell k m s) s

/-! ### Links and ways (R62, 06 R184) -/

/-- A Folio port carries the forme's traffic: it leads to a member and is not withdrawn (R35, R78). -/
def portJoined (s : State) (p : Nat) : Bool :=
  roleOf s p == 3 && (portLink s p).joined && !s.flag o4200_06 [pP p]

/-- The Folio links of this member: the member a link leads to, and its port. -/
def ownLinks (s : State) : List (Nat × Nat) :=
  s.forme.peer.filterMap fun e => match e.2 with
    | some k => if portJoined s e.1 then some (k, e.1) else none
    | none => none

/-- The Folio links of a member. -/
def linksOf (s : State) (k : Nat) : List (Nat × Nat) :=
  if k = ownPos s then ownLinks s else Tbl.look [] s.forme.links k

/-- From member `a`, `dst` is reached over at most `n` links, by positions that rise and then fall; `fell` says that they fall already. [DEDUCED, log 25] -/
def wayFrom (s : State) (dst : Nat) : Nat → Bool → Nat → Bool
  | 0, _, _ => false
  | n + 1, fell, a => (linksOf s a).any fun l =>
      !(fell && decide (a < l.1)) && (l.1 == dst || wayFrom s dst n (decide (l.1 < a)) l.1)

/-- The ports by which member `a` may send toward `dst`, a direct link first: at most 3 links, positions rising and then falling (R62, 06
R184). [DEDUCED, log 25] -/
def firstHops (s : State) (a dst : Nat) : List Nat :=
  ((linksOf s a).filter fun l => l.1 == dst).map (·.2)
  ++ ((linksOf s a).filter fun l => l.1 != dst && wayFrom s dst 2 (decide (l.1 < a)) l.1).map (·.2)

/-- The Folio port through which a member is reached, when one is up. -/
def portToward (s : State) (d : Nat) : Option Nat := (firstHops s (ownPos s) d).find? fun p => linkOf s p == 2

/-! ### Route tables (R59, R61, Table FAB-5) -/

/-- The route entry of a local target. [DEDUCED, log 16] -/
def localRoute (port ld : Nat) : Nat := 2 ^ 31 + 2 ^ 30 + port * 2 ^ 23 + ld * 2 ^ 19

/-- The entry of member `k` for a target: local, or the first way toward its member with the next as alternate; 0 without one. [DEDUCED, log 25] -/
def routeEntry (s : State) (k dev port ld : Nat) : Nat :=
  if k = dev then localRoute port ld else
  match firstHops s k dev with
  | [] => 0
  | [a] => 2 ^ 31 + a * 2 ^ 23
  | a :: b :: _ => 2 ^ 31 + a * 2 ^ 23 + b * 2 ^ 12 + 2 ^ 11

/-- The enabled VCS that holds a PBR ID. -/
def vcsOfPbr (s : State) (p : Nat) : Option Nat :=
  (List.range 64).find? fun n => Tbl.look 0xFFF s.vcsPbr n == p && s.flag o4100_02 [pVCS n]

/-- The lead writes the entry of an ID in its own table and, over Folio, in every other member's (R61). [DEDUCED, log 16] -/
def writeRoutes (k : Nat) (t : Nat × Nat × Nat) (s : State) : State :=
  let s := { s with forme := { s.forme with targets := Tbl.upd none s.forme.targets k (some t) } }
  let s := s.put o4180_01 [pPBR k] (routeEntry s (ownPos s) t.1 t.2.1 t.2.2)
  (otherMembers s).foldl (fun s m => tell m (.route k (routeEntry s m t.1 t.2.1 t.2.2) (some t)) s) s

/-- An ID that is not in use, from `k` on. [DEDUCED, log 16] -/
def freePbr (s : State) (k : Nat) : Nat → Nat
  | 0 => k
  | n + 1 =>
    if bit (s.val o4180_01 [pPBR k]) 31 ∨ (Tbl.look none s.forme.targets k).isSome then freePbr s ((k + 1) % 4095) n else k

/-- The lead assigns an ID to a target and writes its routes: which one the manual does not say. [DEDUCED, log 16] -/
def assignPbr (t : Nat × Nat × Nat) (s : State) : Nat × State :=
  let (f, s) := freshValue s
  let k := freePbr s (f % 4095) 4095
  (k, writeRoutes k t s)

/-- An ID is no longer in use: the lead clears its routes; another member gives the ID back to it. -/
def dropPbr (k : Nat) (s : State) : State :=
  if 0xFFF ≤ k then s
  else if leads s then
    let s := { s with forme := { s.forme with targets := Tbl.upd none s.forme.targets k none } }
    tellAll (.route k 0 none) (s.put o4180_01 [pPBR k] 0)
  else tell (s.val o4200_07 []) (.dropId k) s

/-- The lead writes every route again, after the members or their links have changed (R71). [DEDUCED, log 25] -/
def rewriteRoutes (s : State) : State :=
  if leads s then
    s.forme.targets.foldl (fun s e => match e.2 with
      | some t => writeRoutes e.1 t s
      | none => s) s
  else s

end Sys2Proof.Machine
end

