-- ==== Sys2Proof/Machine/Lanes.lean ====
section
/-!
DEFINITION. The serial lanes (10): rates, equalisers, Folio bring-up and power states, loopback, patterns and eye scans; and
joining a forme (02 R64-R66, R68).
-/
namespace Sys2Proof.Machine

/-! ### The lanes of a port -/

/-- A port's lanes: lane 0 is L(4p) (02 R29). A disabled slot holds none, whatever its width field says (R33). -/
def lanesOf (s : State) (p : Nat) : List Nat :=
  if slotRole (slotByte (s.val o2010_02 [pG (groupOf p)]) p) = 0 then [] else (List.range (widthOf s p)).map (4 * p + ·)

/-- The enabled port that covers a lane. -/
def portOfLane (s : State) (l : Nat) : Option Nat :=
  ((List.range 4).map (4 * (l / 16) + ·)).find? fun p =>
    roleOf s p != 0 && decide (4 * p ≤ l) && decide (l < 4 * p + widthOf s p)

/-- A port is quiesced (02 R35). [DEDUCED, log 18] -/
def quiesced (s : State) (p : Nat) : Bool :=
  match roleOf s p with
  | 0 => true
  | 1 => (vcsOfUp s p).isNone
  | 2 => (vppbsOf s p).isEmpty && !boundFar s p
  | _ => s.flag o4200_06 [pP p]

/-! ### Eye scans (10 R312) -/

/-- A result: status, errors and bits compared. -/
def scanResult (status errors bits_ : Nat) : Nat := status * 2 ^ 128 + errors % 2 ^ 64 * 2 ^ 64 + bits_ % 2 ^ 64

/-- A running scan of a lane ends with status aborted. [DESIGN CHOICE, log 80] -/
def abortScan (l : Nat) (s : State) : State :=
  match Tbl.look none s.lane.scan l with
  | none => s
  | some _ =>
    { s with lane := { s.lane with scan := Tbl.upd none s.lane.scan l none } } |>.put o3022_02 [pL l] (scanResult 3 0 0)

def abortScans (p : Nat) (s : State) : State := (lanesOf s p).foldl (fun s l => abortScan l s) s

/-- Every lane of a port takes a lane state. -/
def setLanes (p st : Nat) (s : State) : State := (lanesOf s p).foldl (fun s l => s.put o3014_01 [pL l] st) s

/-! ### Equalisers (10 R287-R293) -/

/-- The coefficient word is written: R288's limits; reserved bits and MAIN are not writable. -/
def coefWrite (l v : Nat) (s : State) : Status × State :=
  let pre := bits v 20 16
  let post := bits v 12 8
  if 16 < pre ∨ 24 < post ∨ 24 < pre + post then (.refused, s)
  else (.ok, s.put o3010_01 [pL l] (bits v 31 31 * 2 ^ 31 + pre * 2 ^ 16 + post * 2 ^ 8 + (s.val o3010_01 [pL l]) % 128))

/-- The word as it reads: PRE and POST in effect where OVR is 0, MAIN in effect (Table LAN-3). -/
def coefRead (s : State) (l : Nat) : Nat :=
  let w := s.val o3010_01 [pL l]
  let c := Tbl.look 0 s.lane.coef l
  let main := 64 - c / 64 - c % 64
  if bit w 31 then setBits w 6 0 main
  else c / 64 * 2 ^ 16 + c % 64 * 2 ^ 8 + main

/-- Coefficients that keep R288's limits, PRE·64 + POST, from any number. -/
def legalCoef (f : Nat) : Nat := f % 17 * 64 + f / 17 % (25 - f % 17)

/-- The coefficients of a preset at a rate, PRE·64 + POST (R291): Table LAN-4 at 8 to 32 GT/s. [DESIGN CHOICE, log 187] -/
def presetCoef (rate k : Nat) : Nat :=
  if 2 ≤ rate ∧ rate ≤ 4 then
    [16, 11, 13, 8, 0, 6 * 64, 8 * 64, 6 * 64 + 13, 8 * 64 + 8, 11 * 64, 24].getD k 0
  else legalCoef (Config.presetCoef rate k)

/-- What a lane transmits and receives with after training at a rate: the written coefficients where OVR is 1; else those of the preset in
effect, which is the provisioned one on a Folio port; on a PCIe or CXL port the partner asks for a preset or refines it, to coefficients
that are free within R288. In continuous mode the receiver has adapted to values the manual does not give. [DESIGN CHOICE, log 77] -/
def trainLane (rate : Nat) (preset : Option Nat) (s : State) (l : Nat) : State :=
  let w := s.val o3010_01 [pL l]
  let (f, s) := freshValue s
  let pr := if bit w 31 then 0xFF else match preset with
    | some k => k
    | none => if f % 12 < 11 then f % 12 else 0xFF
  let c := if bit w 31 then bits w 20 16 * 64 + bits w 12 8 else if pr = 0xFF then legalCoef (f / 12) else presetCoef rate pr
  let s := { s with lane := { s.lane with coef := Tbl.upd 0 s.lane.coef l c } }
  let s := s.put o3010_02 [pL l] pr
  if s.val o3012_02 [pL l] = 0 then
    let (g, s) := freshValue s
    s.put o3012_01 [pL l] (g % 2 ^ 24) |>.put o3012_03 [pL l] (g % 2 ^ 136)
  else s

/-- The presets that the evaluation of the partner's transmitter tries, in order (R287). -/
def triedPresets : List Nat := [4, 7, 8, 5, 1, 9]

/-- The best preset is refined in steps of 1/64, each within R288: which steps, the received signal decides, a free value. -/
def refine : Nat → Nat → Nat × Nat → Nat × Nat
  | 0, _, c => c
  | n + 1, f, (pre, post) =>
    refine n (f / 4) (match f % 4 with
      | 0 => if pre < 16 ∧ pre + post < 24 then (pre + 1, post) else (pre, post)
      | 1 => (pre - 1, post)
      | 2 => if pre + post < 24 then (pre, post + 1) else (pre, post)
      | _ => (pre, post - 1))

/-- The evaluation of the partner's transmitter on a lane at 8 GT/s or more; the result is 0x3010.03 (R287). [DESIGN CHOICE, log 188] -/
def evaluatePartner (rate : Nat) (s : State) (l : Nat) : State :=
  if rate < 2 then s else
  let (f, s) := freshValue s
  let c := presetCoef rate (triedPresets.getD (f % 6) 4)
  let r := refine (f / 6 % 48) (f / 288) (c / 64, c % 64)
  s.put o3010_03 [pL l] (r.1 * 2 ^ 16 + r.2 * 2 ^ 8 + (64 - r.1 - r.2))

/-- ADAPTATION_MANUAL_WRITE: the manual values of a lane are written; in manual mode they take effect at once (R293). -/
def manualWrite (l v : Nat) (s : State) : Status × State :=
  let s := { s with lane := { s.lane with manual := Tbl.upd 0 s.lane.manual l (v % 2 ^ 136) } }
  (.ok, if s.val o3012_02 [pL l] = 2 then s.put o3012_03 [pL l] (v % 2 ^ 136) else s)

def execAdaptationManualWrite (role : Role) (l : Fin 512) (v : Nat) (s : State) : Host.Outcome State Fault Refusal :=
  .next (answered (managed role o3012_03 [pL l.val] (manualWrite l.val v) s))

/-- The adaptation mode is written: manual mode applies the manual values. -/
def adaptMode (l v : Nat) (s : State) : Status × State :=
  if 2 < v then (.refused, s)
  else
    let s := s.put o3012_02 [pL l] v
    (.ok, if v = 2 then s.put o3012_03 [pL l] (Tbl.look 0 s.lane.manual l) else s)

/-- The device at a port is a CXL device. [DEDUCED, log 134] -/
def cxlDevice (s : State) (p : Nat) : Bool :=
  let d := Tbl.look {} s.devs p
  d.cxl || d.cxl11 || decide (0 < d.lds.val)

/-- A port may not train: the reference of its SerDes is lost (10 R284, 17 R493), or its lane group or its quire is out of service (16 R463, 18
Tables BOT-8 and BOT-9). -/
def noTraining (s : State) (p : Nat) : Bool :=
  bit s.pwr.refLost (p / 64) || s.val oD060_02 [pG (groupOf p)] != 0 || s.val oD060_02 [pQ (quireOf p)] != 0

/-- The highest rate code a link may settle at: the target rate, 32 GT/s for a device in CXL 1.1 mode (10 R283), 16 GT/s in proof mode
(18 Table BOT-5). -/
def rateTop (s : State) (p v : Nat) : Nat :=
  let v := if s.val oD000_03 [] = 2 then min v 3 else v
  if (Tbl.look {} s.devs p).cxl11 then min v 4 else v

/-- The lowest rate code a link may settle at: 8 GT/s for a link known to carry CXL, where its target allows it (R283). -/
def rateLow (s : State) (p v : Nat) : Nat :=
  if cxlDevice s p then min v 2 else 0

/-- A PCIe or CXL link settles at a rate up to its target: which, is the partner's part, a free value. It runs in flit mode at 64 and
128 GT/s, and below where both ends have agreed on it, a free value (R282). Its lanes are equalised at the rate, both ways. -/
def settleRate (p v : Nat) (s : State) : State :=
  let (f, s) := freshValue s
  let low := rateLow s p v
  let rate := low + f / 2 % (rateTop s p v + 1 - low)
  let s := setPort p { portLink s p with flit := decide (5 ≤ rate) || f % 2 == 1 } (s.put o3000_02 [pP p] rate)
  (lanesOf s p).foldl (fun s l => evaluatePartner rate (trainLane rate none s l) l) s

/-- A new target rate: a port whose link is up starts a directed speed change (R286). -/
def targetRate (p v : Nat) (s : State) : Status × State :=
  if 6 < v then (.refused, s) else
  let s := s.put o3000_01 [pP p] v
  if (roleOf s p = 1 ∨ roleOf s p = 2) ∧ linkOf s p = 2 then
    (.ok, countPort p 40 {} 1 (settleRate p v (abortScans p s)))
  else (.ok, s)

/-- TARGET_RATE_WRITE. [DESIGN CHOICE, log 77] -/
def execTargetRateWrite (role : Role) (p : Fin 128) (v : Nat) (s : State) : Host.Outcome State Fault Refusal :=
  .next (answered (managed role o3000_01 [pP p.val] (targetRate p.val v) s))

/-- MARGINING_COMMAND: a margining command on a lane takes the sampler from an eye scan (R294). -/
def execMarginingCommand (l : Fin 512) (s : State) : Host.Outcome State Fault Refusal := .next (abortScan l.val s)

/-! ### The forme (02 R64-R68) -/

/-- What tells one device from another (R65): the serial number, of another member as it gave it. -/
def identOf (s : State) (k : Nat) : Nat := if k = ownPos s then s.val o1001_00 [] else Tbl.look 0 s.forme.ident k

/-- What this device knows of a member. -/
def sayMember (s : State) (k : Nat) : FMsg :=
  .member (Fin.ofNat 16 k) (identOf s k) (eligibleAt s k) (joinedAt s k) (linksOf s k)

/-- The lead copies its record of forme-level state to a new standby (R68): the domain memberships, and the changes it has accepted. -/
def copyRecord (k : Nat) (s : State) : State :=
  let s := tell k (.slots ((s.listed o5010_01).map fun e => (elemAt e.1 0, elemAt e.1 1, e.2))) s
  (s.forme.waits.filter (!·.done)).foldl (fun s w => tell k (.record w.id w.c) s) s

/-- The lead is the lowest eligible member, the standby the next (02 R66, R68); a new standby takes the lead's record. [DESIGN CHOICE, log 27] -/
def formeSettle (s : State) : State :=
  let l := eligibleMembers s
  let old := s.val o4200_09 []
  let s := s.put o4200_07 [] (l.getD 0 0xFF) |>.put o4200_09 [] (l.getD 1 0xFF)
  if leads s ∧ l.getD 1 0xFF ≠ 0xFF ∧ l.getD 1 0xFF ≠ old then copyRecord (l.getD 1 0xFF) s else s

/-- The members have changed: a part that holds a majority again may change the forme again (R72), and has its lead; a lead that is lost is
followed by its standby's takeover. -/
def formeChanged (s : State) : State :=
  let s := { s with forme := { s.forme with noAuthority := s.forme.noAuthority && !hasMajority s } }
  if s.forme.noAuthority ∨ s.forme.leadLost.isSome = true then s else rewriteRoutes (formeSettle s)

/-- The position names another device than the member that has joined with it, or this one (R65). -/
def posTaken (s : State) (k ident : Nat) : Bool := k == s.val o4200_01 [] || (joinedAt s k && identOf s k != ident)

/-- A member is no longer joined. -/
def unjoin (k : Nat) (s : State) : State := s.put o4200_08 [] (if joinedAt s k then s.val o4200_08 [] - 2 ^ k else s.val o4200_08 [])

/-- A member learns the COLOUR of every block of this one. [DESIGN CHOICE, log 170] -/
def tellColours (k : Nat) (s : State) : State :=
  if s.blocks.isEmpty then s else tell k (.colours (s.blocks.filterMap fun e => e.2.map fun b => (b.base, b.colour))) s

/-- What a member tells a new neighbour: every member it knows, itself among them, its VCSs, and the COLOUR of its blocks (09 R259). -/
def greet (k : Nat) (s : State) : State :=
  let s := ((List.range 16).filter fun m => joinedAt s m && m != k).foldl (fun s m => tell k (sayMember s m) s) s
  ((List.range 64).filter fun n => s.flag o4100_02 [pVCS n]).foldl
    (fun s n => tell k (.vcs n (s.val o4100_05 [pVCS n]) (Tbl.look 0xFFF s.vcsPbr n)) s) (tellColours k s)

/-- A member is known: its identity, its eligibility, its links. -/
def noteMember (k ident : Nat) (eligible : Bool) (s : State) : State :=
  let s := { s with forme := { s.forme with
      ident := Tbl.upd 0 s.forme.ident k ident, notElig := Tbl.upd false s.forme.notElig k (!eligible) } }
  s.put o4200_08 [] (s.val o4200_08 [] ||| 2 ^ k ||| 2 ^ ownPos s)

/-- A Folio link that has aligned joins its ends into one forme only on equal identifier and stepping and a position that is free
(02 R64, R65); else it carries no traffic, and a fault is logged. While the forme is first formed, before this device is in service, a
position that two devices carry refuses both. A withdrawn port joins nothing (R78). -/
def formeJoin (p : Nat) (e : Peer) (s : State) : State :=
  let own := s.val o4200_01 []
  let taken := posTaken s e.pos.val e.ident
  if s.flag o4200_06 [pP p] then setPort p { portLink s p with joined := false } s
  else if own < 16 ∧ e.forme = s.val o4200_02 [] ∧ e.stepping = s.val o1002_00 [] ∧ ¬ taken then
    let s := { s with forme := { s.forme with peer := Tbl.upd none s.forme.peer p (some e.pos.val) } }
    let s := noteMember e.pos.val e.ident e.eligible (setPort p { portLink s p with joined := true } s)
    let s := tellAll (sayMember s own) (tellAll (sayMember s e.pos.val) (greet e.pos.val s))
    formeChanged s
  else
    let both := decide (own < 16) && taken && e.pos.val != own && s.val oD000_03 [] == 0 && decide (e.forme = s.val o4200_02 [])
    let s := if both then
        (s.forme.peer.filter fun x => x.2 == some e.pos.val).foldl
          (fun s x => setPort x.1 { portLink s x.1 with joined := false } s) (formeChanged (unjoin e.pos.val s))
      else s
    raiseFault p 0x30 (ctxPort p) (setPort p { portLink s p with joined := false } s)

/-! ### Folio bring-up (10 Table LAN-7) -/

/-- A Folio port takes a state of Table LAN-7; the link is up in ACTIVE and DORMANT. -/
def enterState (p st : Nat) (s : State) : State :=
  let s := dueMarkers p s
  let up := decide (st = 4 ∨ st = 5)
  let l := portLink s p
  let s := setPort p { l with
      since := s.clk.now
      downSince := if up then none else match l.downSince with
        | some t => some t
        | none => if st = 0 then some s.clk.now else none } s
  let s := (s.put o3030_06 [pP p] st).put o2020_02 [pP p]
    (if up then 2 else if st = 0 ∨ l.downSince.isSome then 0 else 1)
  setLanes p (if st = 0 then 0 else if st = 4 then 3 else if st = 5 then 4 else 2) s

/-- The lock timeout of a port runs from now. -/
def startLock (p : Nat) (s : State) : State :=
  setPort p { portLink s p with until_ := s.clk.now + us (s.val o3030_03 [pP p]), mismatch := false } (enterState p 2 s)

/-- FOLIO_PLL_LOCK: the transmit PLL locks; the first training marker goes out at once (Table LAN-8) and the receiver begins to lock. -/
def execFolioPllLock (p : Fin 128) (s : State) : Host.Outcome State Fault Refusal :=
  .next <| if roleOf s p.val = 3 ∧ folioState s p.val = 1 ∧ noTraining s p.val = false then
      sendMarkers p.val 1 s.clk.now (countPort p.val 40 {} 1 (startLock p.val s))
    else s

/-- The settings a receiver is provisioned with (R298): rate, width code and precoding. -/
def ownSettings (s : State) (p : Nat) (m : Markers) : Bool :=
  m.rate128 == (s.val o3030_01 [pP p] == 6)
  && m.width.val == bits (slotByte (s.val o2010_02 [pG (groupOf p)]) p) 5 3
  && m.precode == s.flag o3030_09 [pP p]

/-- Deskew, order and polarity as the markers show (R297). -/
def applyMarkers (p : Nat) (m : Markers) (s : State) : State :=
  let late := m.arrivals.foldl max 0
  let w := widthOf s p
  let s := s.put o3000_07 [pP p] (b2n m.reversed)
  (List.range w).foldl (fun s k =>
    let logical := if m.reversed then w - 1 - k else k
    s.put o3014_03 [pL (4 * p + k)] (late - m.arrivals.getD logical late)
    |>.put o3014_02 [pL (4 * p + k)] (b2n (m.inverted.any fun i => i.val == k))) s

/-- FOLIO_ALIGN: two consecutive good markers on every lane (R297, R298). [DESIGN CHOICE, log 78] -/
def execFolioAlign (p : Fin 128) (m : Markers) (s : State) : Host.Outcome State Fault Refusal :=
  .next <|
    if roleOf s p.val ≠ 3 ∨ folioState s p.val ≠ 2 then s
    else if ¬ ownSettings s p.val m then
      if (portLink s p.val).mismatch then s
      else raiseFault p.val 0x32 (ctxPort p.val) (setPort p.val { portLink s p.val with mismatch := true } s)
    else if ¬ m.order ∨ ¬ m.same ∨ 64 < m.arrivals.foldl max 0 - m.arrivals.foldl min (m.arrivals.foldl max 0) then s
    else
      let s := applyMarkers p.val m ((s.put o3030_08 [pP p.val] (bits (s.val o3030_08 [pP p.val]) 3 2 * 4)))
      setPort p.val { portLink s p.val with until_ := s.clk.now + us (s.val o3030_03 [pP p.val]) } (enterState p.val 3 s)

/-- FOLIO_LOCK_TIMEOUT: the lock timeout ends in LOCK; `lower` and `upper` say that every lane of that half is locked. The port
degrades to half width under R300, or starts again. -/
def execFolioLockTimeout (p : Fin 128) (lower upper : Bool) (s : State) : Host.Outcome State Fault Refusal :=
  .next <|
    let p := p.val
    let l := portLink s p
    if roleOf s p ≠ 3 ∨ folioState s p ≠ 2 then s else
    let s := advanceTo l.until_ s
    if s.flag o3030_0A [pP p] ∧ 8 ≤ widthOf s p ∧ ¬ l.degraded ∧ (lower = true ∨ upper = true) then
      let s := s.put o3030_08 [pP p] (bits (s.val o3030_08 [pP p]) 3 2 * 4 + (if lower then 1 else 2))
      let s := enterState p 3 s
      setPort p { portLink s p with degraded := true, until_ := s.clk.now + us (s.val o3030_03 [pP p]) } s
      |> countPort p 42 {} 1
      |> raiseFault p 0x34 (ctxPort p)
    else
      let s := (startLock p s).bump o3030_07 [pP p] 1
      let again := match l.noLockAt with
        | some t => decide (s.clk.now < t + sec 1)
        | none => false
      if again then s
      else raiseFault p 0x33 (ctxPort p) (setPort p { portLink s p with noLockAt := some s.clk.now } s)

/-- The link layer starts on entry to ACTIVE (11 R333): counts are kept, except after a port commit or a count fault (R319,
R328), and INIT is sent. -/
def startLinkLayer (p : Nat) (s : State) : State :=
  let f := folioOf s p
  let f := if f.fresh then { f with s := 0, e := 0, held := [], fresh := false } else f
  let f := { f with inited := false, bad := false, nakSent := false, incoming := f.e
                    monitorAt := s.clk.now, minDiff := [] }
  sendInit p (setFolio p f s)

/-- FOLIO_PARTNER_ALIGNED: the partner's markers show ALIGNED; the link enters ACTIVE, and its ends join one forme (02 R64). -/
def execFolioPartnerAligned (p : Fin 128) (e : Peer) (s : State) : Host.Outcome State Fault Refusal :=
  .next <|
    let p := p.val
    if roleOf s p ≠ 3 ∨ folioState s p ≠ 3 then s else
    let w := widthOf s p
    let s := (enterState p 4 s).put o3000_02 [pP p] (s.val o3030_01 [pP p]) |>.put o3000_03 [pP p]
      (if bits (s.val o3030_08 [pP p]) 1 0 = 0 then w else w / 2)
      |>.put o3030_08 [pP p] (e.use.val * 4 + bits (s.val o3030_08 [pP p]) 1 0)
    let s := (lanesOf s p).foldl (trainLane (s.val o3030_01 [pP p]) (some (s.val o3030_02 [pP p]))) s
    let s := setPort p { portLink s p with bound := none, downSince := none, lastAt := s.clk.now, dreq := false
                                           dackUntil := none, training := false } s
    let s := formeJoin p e s
    if (portLink s p).joined then startLinkLayer p s else s

/-- FOLIO_ALIGNED_TIMEOUT: no partner ALIGNED within the lock timeout. -/
def execFolioAlignedTimeout (p : Fin 128) (s : State) : Host.Outcome State Fault Refusal :=
  .next <| if roleOf s p.val = 3 ∧ folioState s p.val = 3 then
      startLock p.val (advanceTo (portLink s p.val).until_ s)
    else s

/-- A retrain from ACTIVE: to LOCK at full width, within 20 µs (R300, R301). Traffic is held by the link layer. -/
def retrain (p : Nat) (s : State) : State :=
  if roleOf s p = 3 ∧ folioState s p = 4 then
    let s := abortScans p (startLock p s)
    let s := s.put o3030_08 [pP p] 0
    let f := folioOf s p
    setPort p { portLink s p with bound := some (s.clk.now, s.clk.now + us 20), degraded := false, dreq := false
                                  dackUntil := none } (setFolio p { f with inited := false } s)
    |> countPort p 22 {} 1
    |> countPort p 40 {} 1
  else s

/-- A planned retrain (11 R326, R332): RTRN is sent, then the port retrains. -/
def plannedRetrain (p : Nat) (s : State) : State :=
  if roleOf s p = 3 ∧ folioState s p = 4 then
    retrain p ((sendFlit p 9 [] true false 0 [] s).bump o2120_02 [pP p] 1)
  else s

/-- FOLIO_MARKER_FAIL: four consecutive markers of one lane fail CRC in ACTIVE. -/
def execFolioMarkerFail (p : Fin 128) (s : State) : Host.Outcome State Fault Refusal :=
  .next <| if roleOf s p.val = 3 ∧ folioState s p.val = 4 then retrain p.val (countPort p.val 41 {} 4 s) else s

/-- FOLIO_RETRAIN_BOUND_EXPIRY: a retrain or Dormant exit misses its bound: the link is down from its start (R301). -/
def execFolioRetrainBoundExpiry (p : Fin 128) (s : State) : Host.Outcome State Fault Refusal :=
  .next <|
    let p := p.val
    match (portLink s p).bound with
    | none => s
    | some (t, e) =>
      if folioState s p = 4 ∨ folioState s p = 5 then s else
      let s := advanceTo e s
      (setPort p { portLink s p with bound := none, downSince := some t } s).put o2020_02 [pP p] 0

/-! ### Dormant (10 R305-R308) -/

/-- Sorts wait for a Folio port. -/
def trafficWaits (s : State) (p : Nat) : Bool :=
  s.gal.queues.any fun e => !e.2.ents.isEmpty && (match qrefOfKey e.1 with
    | .egress x _ => x.val == p
    | .egressCls x _ => x.val == p
    | _ => false)

/-- The port may ask for or acknowledge Dormant: idle, no flit held and no credit return owed (11 R334). -/
def dormantReady (s : State) (p : Nat) : Bool :=
  let f := folioOf s p
  !trafficWaits s p && f.held.isEmpty && (owedClass f).2 == 0

/-- A port enters DORMANT. -/
def enterDormant (p : Nat) (s : State) : State :=
  let s := abortScans p (enterState p 5 s)
  setPort p { portLink s p with dreq := false, dackUntil := none
                                until_ := s.clk.now + us (s.val o3030_05 [pP p]) } s
  |> countPort p 23 {} 1

/-- DORMANT_IDLE_TIMEOUT: the port has been idle for the Dormant idle time and sends DREQ (R305). -/
def execDormantIdleTimeout (p : Fin 128) (s : State) : Host.Outcome State Fault Refusal :=
  .next <|
    let p := p.val
    if roleOf s p = 3 ∧ folioState s p = 4 ∧ s.val o3030_04 [pP p] ≠ 0 ∧ (folioOf s p).inited = true
        ∧ dormantReady s p = true ∧ (portLink s p).dreq = false ∧ (portLink s p).dackUntil = none then
      let s := advanceTo ((portLink s p).lastAt + us (s.val o3030_04 [pP p])) s
      setPort p { portLink s p with dreq := true } (sendFlit p 5 [] true false 0 [] s)
    else s

/-- An acknowledge reaches a requester: it enters DORMANT, or cancels when traffic waits (R306). -/
def takeDack (p : Nat) (s : State) : State :=
  if roleOf s p = 3 ∧ folioState s p = 4 ∧ (portLink s p).dreq = true then
    if trafficWaits s p then
      setPort p { portLink s p with dreq := false } (sendFlit p 8 [] true false 0 [] s)
    else enterDormant p s
  else s

/-- A request arrives: crossed requests acknowledge each other; else DACK or DREF (R305, R306). -/
def takeDreq (p : Nat) (s : State) : State :=
  if roleOf s p ≠ 3 ∨ folioState s p ≠ 4 then s
  else if (portLink s p).dreq then takeDack p s
  else if dormantReady s p then
    let s := sendFlit p 6 [] true false 0 [] s
    setPort p { portLink s p with dackUntil := some (s.clk.now + us 2) } s
  else sendFlit p 7 [] true false 0 [] s

def takeDref (p : Nat) (s : State) : State := setPort p { portLink s p with dreq := false } s
def takeDcan (p : Nat) (s : State) : State := setPort p { portLink s p with dackUntil := none } s

/-- DREQ_RECEIVE. -/
def execDreqReceive (p : Fin 128) (s : State) : Host.Outcome State Fault Refusal := .next (takeDreq p.val s)
/-- DACK_RECEIVE. -/
def execDackReceive (p : Fin 128) (s : State) : Host.Outcome State Fault Refusal := .next (takeDack p.val s)
/-- DREF_RECEIVE: both sides stay in ACTIVE. -/
def execDrefReceive (p : Fin 128) (s : State) : Host.Outcome State Fault Refusal := .next (takeDref p.val s)
/-- DCAN_RECEIVE: both sides stay in ACTIVE. -/
def execDcanReceive (p : Fin 128) (s : State) : Host.Outcome State Fault Refusal := .next (takeDcan p.val s)

/-- ELECTRICAL_IDLE_DETECT: an acknowledging side sees the requester's electrical idle. -/
def execElectricalIdleDetect (p : Fin 128) (s : State) : Host.Outcome State Fault Refusal :=
  .next <| if folioState s p.val = 4 ∧ (portLink s p.val).dackUntil.isSome = true then enterDormant p.val s else s

/-- DORMANT_ACK_TIMEOUT: neither idle nor cancel within 2 µs. -/
def execDormantAckTimeout (p : Fin 128) (s : State) : Host.Outcome State Fault Refusal :=
  .next <| match (portLink s p.val).dackUntil with
    | none => s
    | some t => takeDcan p.val (advanceTo t s)

/-- Exit from DORMANT: the PLL relocks; the link must be ACTIVE within 60 µs (R307). -/
def dormantExit (p : Nat) (s : State) : State :=
  if folioState s p = 5 then
    let s := (enterState p 1 s).put o3030_08 [pP p] 0
    let f := folioOf s p
    setPort p { portLink s p with bound := some (s.clk.now, s.clk.now + us 60), degraded := false }
      (setFolio p { f with inited := false } s)
  else s

/-- FOLIO_DORMANT_EXIT: traffic waits, or the wire leaves electrical idle. -/
def execFolioDormantExit (p : Fin 128) (s : State) : Host.Outcome State Fault Refusal := .next (dormantExit p.val s)

/-- DORMANT_PROBE: the probe interval ends; the end with the lower forme position exits (R308). -/
def execDormantProbe (p : Fin 128) (s : State) : Host.Outcome State Fault Refusal :=
  .next <|
    if folioState s p.val = 5 then
      let s := advanceTo (portLink s p.val).until_ s
      let lower := match Tbl.look none s.forme.peer p.val with
        | some k => decide (s.val o4200_01 [] < k)
        | none => false
      if lower then dormantExit p.val s else s
    else s

/-! ### L0p and L1.2 (10 R303, R304) -/

/-- The lanes of an up PCIe or CXL port that its width in effect takes carry traffic; the others are electrically idle. Which lanes those
are the manual does not say: the lowest. [DESIGN CHOICE, log 189] -/
def activeLanes (p : Nat) (s : State) : State :=
  let w := s.val o3000_03 [pP p]
  (lanesOf s p).foldl (fun s l => s.put o3014_01 [pL l] (if l - 4 * p < w then 3 else 1)) s

/-- A port's link is in L1.2. -/
def inL12 (s : State) (p : Nat) : Bool := s.val o3014_01 [pL (4 * p)] == 4

/-- The partner asks for an L0p width: in flit mode, a width from x1 up to the one the link has trained with (Table LAN-2). -/
def l0pWidth (p w : Nat) (s : State) : State :=
  if (portLink s p).flit ∧ [1, 2, 4, 8, 16].contains w ∧ w ≤ (portLink s p).trained ∧ inL12 s p = false then
    emit (.link p { op := .dllp, data := w }) (activeLanes p (s.put o3000_03 [pP p] w))
  else s

/-- The partner takes the link to L1.2, where CLKREQ# is wired: lanes off, eye scans aborted (R304, R312). -/
def enterL12 (p : Nat) (s : State) : State :=
  if s.val o3000_06 [pP p] = 1 then setLanes p 4 (abortScans p s) else s

/-- A link management packet of the partner: status 0 asks for an L0p width, `data`; 1 enters L1.2. The manual leaves both to the PCI
Express standard; this block asks for neither of itself. [DESIGN CHOICE, log 189] -/
def linkDllp (p : Nat) (k : Packet) (s : State) : State :=
  if k.status = 0 then l0pWidth p k.data s else if k.status = 1 then enterL12 p s else s

/-- CLKREQ_ASSERT: a PCIe or CXL port in L1.2 with a CLKREQ source exits to L0 (R304). -/
def execClkreqAssert (p : Fin 128) (s : State) : Host.Outcome State Fault Refusal :=
  .next <|
    if (roleOf s p.val = 1 ∨ roleOf s p.val = 2) ∧ s.val o3000_06 [pP p.val] = 1
        ∧ inL12 s p.val = true then activeLanes p.val s
    else s

/-! ### Loopback, patterns and eye scan (10 R310-R313) -/

/-- A loopback, generator or checker may be enabled only on a quiesced port's lane or an uncovered one. -/
def testable (s : State) (l : Nat) : Bool :=
  match portOfLane s l with
  | some p => quiesced s p
  | none => true

/-- The lane state that loopbacks and patterns show (0x3014.01): 5 loopback, 6 pattern. -/
def testState (l : Nat) (s : State) : State :=
  let lb := s.flag o3020_01 [pL l]
  let pt := s.flag o3020_02 [pL l] || s.flag o3020_03 [pL l]
  s.put o3014_01 [pL l] (if lb then 5 else if pt then 6 else match portOfLane s l with
    | some p => if linkOf s p = 2 then 3 else 1
    | none => 1)

/-- A write of a lane test object: values up to `hi`; 0 turns it off. -/
def laneTest (o : Obj) (hi l v : Nat) (s : State) : Status × State :=
  if hi < v ∨ (v ≠ 0 ∧ ¬ testable s l) then (.refused, s)
  else
    let s := s.put o [pL l] v
    (.ok, testState l (if o.code = 0x302003 then s.put o3020_05 [pL l] 0 else s))

/-- LOOPBACK_ENABLE. -/
def execLoopbackEnable (role : Role) (l : Fin 512) (v : Nat) (s : State) : Host.Outcome State Fault Refusal :=
  .next (answered (managed role o3020_01 [pL l.val] (laneTest o3020_01 3 l.val v) s))

/-- PATTERN_GENERATOR_ENABLE. -/
def execPatternGeneratorEnable (role : Role) (l : Fin 512) (v : Nat) (s : State) : Host.Outcome State Fault Refusal :=
  .next (answered (managed role o3020_02 [pL l.val] (laneTest o3020_02 4 l.val v) s))

/-- PATTERN_CHECKER_ENABLE: the checker synchronises itself within 64 bits of a good pattern: at once where the lane's own
generator sends the same pattern through a near-end loopback; else it is the line's doing, a free value (R311). [DEDUCED, log 79] -/
def checkerEnable (l v : Nat) (s : State) : Status × State :=
  let r := laneTest o3020_03 4 l v s
  if r.1 = .ok ∧ v ≠ 0 then
    let lb := r.2.val o3020_01 [pL l]
    if (lb = 1 ∨ lb = 2) ∧ r.2.val o3020_02 [pL l] = v then (.ok, r.2.put o3020_05 [pL l] 1)
    else
      let (f, t) := freshValue r.2
      (.ok, t.put o3020_05 [pL l] (f % 2))
  else r

def execPatternCheckerEnable (role : Role) (l : Fin 512) (v : Nat) (s : State) : Host.Outcome State Fault Refusal :=
  .next (answered (managed role o3020_03 [pL l.val] (checkerEnable l.val v) s))

/-- An eye scan is started (0x3022.01): dwell exponent 20-40, eye 0-2, vertical −63 to 63, horizontal −32 to 31. A lane takes one
scan at a time: a start takes the sampler from the one before. [DESIGN CHOICE, log 80] -/
def scanStart (l v : Nat) (s : State) : Status × State :=
  let dwell := bits v 63 58
  let vert := bits v 55 48
  let horiz := bits v 47 40
  if dwell < 20 ∨ 40 < dwell ∨ bits v 57 56 = 3 ∨ vert = 64 ∨ (64 < vert ∧ vert < 193)
      ∨ (32 ≤ horiz ∧ horiz < 224) then (.refused, s)
  else
    (.ok, { s with lane := { s.lane with scan := Tbl.upd none s.lane.scan l (some (2 ^ dwell)) } }
      |>.put o3022_02 [pL l] (scanResult 1 0 0))

/-- EYE_SCAN_START. -/
def execEyeScanStart (role : Role) (l : Fin 512) (v : Nat) (s : State) : Host.Outcome State Fault Refusal :=
  .next (answered (managed role o3022_01 [pL l.val] (scanStart l.val v) s))

/-- EYE_SCAN_COMPLETE: the dwell ends with the errors the sampler has seen. [DESIGN CHOICE, log 80] -/
def execEyeScanComplete (l : Fin 512) (errors : Nat) (s : State) : Host.Outcome State Fault Refusal :=
  .next <| match Tbl.look none s.lane.scan l.val with
    | none => s
    | some n =>
      { s with lane := { s.lane with scan := Tbl.upd none s.lane.scan l.val none } }
      |>.put o3022_02 [pL l.val] (scanResult 2 (min errors n) n)

end Sys2Proof.Machine
end

