-- ==== Sys2Proof/Machine/Ingress.lean ====
section
/-!
DEFINITION. A packet enters a port's intake (09 R251): routing inside the VCS (02 R56-R58), to a homed range or a port by
composite address (06 R154-R161), or by PBR over Folio (R60-R62); the ACS decision, the bridge's Bus Master Enable and the
Frisket check.
-/
namespace Sys2Proof.Machine

/-- The single point that requests to a VCS's own host are checked at (09 Table FRK-1). [DEDUCED, log 47] -/
def hostPoint (s : State) (up : Nat) : Nat := ownPos s * 2 ^ 60 + up * 2 ^ 53

/-! ### PBR (02 R59-R62) -/

/-- The PBR ID of a VCS's upstream port or of a bound target, 0xFFF where it has none. -/
def pbrOfPort (s : State) (port ld : Nat) : Nat :=
  match (s.listed o4180_01).find? fun e =>
      bit e.2 31 && bit e.2 30 && bits e.2 29 23 == port && bits e.2 22 19 == ld with
  | some e => elemAt e.1 0
  | none => 0xFFF

/-- Where a packet goes. -/
inductive Route where
  /-- An egress port of this device, with the LD. -/
  | port (dport dld : Nat)
  /-- The home of its line. -/
  | home (dport dld : Nat)
  /-- Over Folio, by PBR ID. -/
  | pbr (dpbr : Nat)
  /-- Over Folio toward the member that a composite address names (06 R156), where no target is bound. -/
  | member (dev dpbr : Nat)
  | unsupported
  /-- An ACS violation. -/
  | violation
  deriving DecidableEq, Repr

/-! ### Inside a VCS -/

/-- A vPPB bound to an LD has its slot power off (12 Table HST-13): requests to the LD from its VCS are unsupported. -/
def ldOff (s : State) (n v : Nat) : Bool :=
  recKind (bindRec s n v) == 1 && bit (cfgOf s (n * 1024 + 514 + v) .slotCtl) 10

/-- The target of a vPPB: a local port or LD, or a PBR target on another member. -/
def throughVppb (s : State) (n v : Nat) : Route :=
  let r := bindRec s n v
  if ¬ bindLive r ∨ s.val o4100_03 [pVCS n] ≤ v ∨ ldOff s n v = true then .unsupported
  else if recDev r = ownPos s then .port (recPort r) (if recKind r = 1 then recLd r else 0)
  else .pbr (s.val o4110_05 [pVCS n, pV v])

/-- Up to the VCS's own host. -/
def upRoute (s : State) (n : Nat) : Route :=
  match upOf s n with
  | some p => .port p 0
  | none => .unsupported

/-- The ACS decision on a request entering through vPPB `v` (02 R56, R57; bits of the PCI Express ACS Control register:
0 Source Validation, 1 Translation Blocking, 2 P2P Request Redirect, 3 P2P Completion Redirect, 4 Upstream Forwarding, 5 P2P
Egress Control, 6 Direct Translated P2P): a violation, redirected upstream, or direct. [PRESUMED, log 22; DEDUCED, log 23] -/
inductive Acs where
  | violation | redirect | direct
  deriving DecidableEq, Repr

def acsDecide (s : State) (n v : Nat) (p : Packet) : Acs :=
  let c := cfgOf s (n * 1024 + 514 + v) .acsCtl
  let req := !p.op.completion
  if req ∧ bit c 0 = true ∧ ¬ p.srcOk then .violation
  else if req ∧ bit c 1 = true ∧ p.translated then .violation
  else match p.vppb with
    | none => .direct
    | some w =>
      let ec := bit c 5 && bit (cfgOf s (n * 1024 + 514 + v) .acsVector) w.val
      if req then (if bit c 2 ∨ ec = true ∨ (p.translated ∧ bit c 6 = true) then .redirect else .direct)
      else if bit c 3 then .redirect else .direct

/-- A packet from a downstream port, through vPPB `v` of VCS `n`: upstream, or to another vPPB. A request back to the vPPB it came through
goes upstream under Upstream Forwarding (Table FAB-4), and is unsupported without. [DEDUCED, log 23; DESIGN CHOICE, log 24] -/
def fromBelow (s : State) (n v : Nat) (p : Packet) : Route :=
  match acsDecide s n v p with
  | .violation => .violation
  | .redirect => upRoute s n
  | .direct =>
    match p.vppb with
    | none => upRoute s n
    | some w =>
      if w.val ≠ v then throughVppb s n w.val
      else if bit (cfgOf s (n * 1024 + 514 + v) .acsCtl) 4 ∧ p.op.completion = false then upRoute s n else .unsupported

/-- The vPPB of a VCS whose target a composite address names. -/
def vppbFor (s : State) (n a : Nat) : Option Nat :=
  (List.range (s.val o4100_03 [pVCS n])).find? fun v =>
    let r := bindRec s n v
    bindLive r && recDev r == caDev a && recPort r == caPort a && (recKind r == 0 || recLd r == caLd a)

/-- A snoop of this member's home awaits the answer (08 R232): a snoop of the home in a pass-through range, not one that a device issued. -/
def homeAwaits (s : State) (n : Nat) (p : Packet) : Bool :=
  p.op.channel == 2 && (Tbl.look [] s.home.ops (substQuire s (homeQuire p.addr))).any fun o =>
    decide (16 ≤ o.dom) && o.id == p.tag % 2 ^ 32 && o.waits.any fun w => w.slot == n && w.addr == p.addr

/-- A CXL.mem message from a host, by its composite address: to the home of a homed line, to a device port of this member,
or over Folio toward the owning member (06 R156, R160), which finds whether it is in a range there. Outside every range the target must be
bound to the VCS (02 R58). The PBR ID of an unbound target on another member is not stated: a free value. [DESIGN CHOICE, log 48; DEDUCED, log 49] -/
def memRoute (s : State) (n : Nat) (p : Packet) : Route × State :=
  let a := p.addr
  if (vppbFor s n a).any (ldOff s n) then (.unsupported, s)
  else if caDev a = ownPos s then
    if homedHere s a ∨ homeAwaits s n p = true then (.home (caPort a) (caLd a), s)
    else if (rangeAt s a).isSome ∨ (vppbFor s n a).isSome then (.port (caPort a) (caLd a), s)
    else (.unsupported, s)
  else match vppbFor s n a with
    | some v => (.pbr (s.val o4110_05 [pVCS n, pV v]), s)
    | none =>
      let (f, s) := freshValue s
      (.member (caDev a) (f % 4095), s)

/-- A back-invalidate snoop of a device that no vPPB is bound to goes to the host that owns its block, in a pass-through range (06 R160). -/
def relaySnoop (s : State) (p : Packet) : Route :=
  match rangeAt s p.addr, blockAt s p.addr with
  | some (_, w), some (_, b) =>
    if p.op.channel ≠ 5 ∨ rangeMode w ≠ 3 ∨ b.kind ≠ 0 ∨ b.owner = 0xFFF then .unsupported
    else match vcsOfPbr s b.owner with
      | some n => upRoute s n
      | none => .pbr b.owner
  | _, _ => .unsupported

/-- The route of a packet that enters at a PCIe or CXL port. What a device bound to a vPPB of another member sends goes to that VCS, by its PBR
ID (02 R60). [DEDUCED, log 161] -/
def routePacket (s : State) (port : Nat) (p : Packet) : Route × State :=
  if roleOf s port = 1 then
    match vcsOfUp s port with
    | none => (.unsupported, s)
    | some n =>
      if p.op.channel < 3 then memRoute s n p
      else match p.vppb with
        | some v => (throughVppb s n v.val, s)
        | none => (.unsupported, s)
  else
    match boundTo s port p.ld.val with
    | none => (match farBound s port p.ld.val with
      | some b => .pbr (Tbl.look 0xFFF s.forme.vcsIds (64 * b.1 + b.2.1))
      | none => relaySnoop s p, s)
    | some (n, v) =>
      if ¬ bindLive (bindRec s n v) then (.unsupported, s)
      else if p.op.cls < 4 then (upRoute s n, s)
      else (fromBelow s n v p, s)

/-! ### Checks and the intake -/

/-- Requests that Frisket checks (09 R252): memory requests, CXL.mem requests and writes, CXL.cache D2H requests. -/
def checkedOp (o : MsgOp) : Bool := o == .mWr || o == .mRd || o.channel == 0 || o.channel == 1 || o.channel == 6

/-- The address Frisket checks: the composite address, or the host's single point for a request routed upstream, also to the host of another
member's VCS that the device is bound to. [DEDUCED, log 47] -/
def checkAddr (s : State) (port : Nat) (p : Packet) : Route → Nat
  | .port d _ => if roleOf s d = 1 then hostPoint s d else p.addr
  | .pbr b =>
    if roleOf s port = 2 ∧ (farBound s port p.ld.val).isSome = true then
      match Tbl.look none s.forme.targets b with
      | some t => t.1 * 2 ^ 60 + t.2.1 * 2 ^ 53
      | none => p.addr
    else p.addr
  | _ => p.addr

/-- A memory request routed upstream needs Bus Master Enable of the vPPB it entered and of the upstream bridge (12 R368). -/
def busMasterOk (s : State) (port : Nat) (p : Packet) : Route → Bool
  | .port d _ =>
    if roleOf s d = 1 ∧ roleOf s port = 2 ∧ (p.op = .mWr ∨ p.op = .mRd) then
      match boundTo s port p.ld.val with
      | some (n, v) => bmeOf s (n * 1024 + 514 + v) && bmeOf s (n * 1024 + 512)
      | none => false
    else true
  | _ => true

/-- A request that its VCS does not support: Unsupported Request in the entering bridge's AER, and its answer; a posted
packet is discarded. -/
def unsupportedAt (port : Nat) (p : Packet) (s : State) : State :=
  let s := freePacket port p (setAer (bridgeOf s port p.ld.val) 20 p s)
  if p.op.posted ∨ ¬ p.op.tracked then s else answerAtIngress port 0xFFF .unsupported p s

/-- An ACS violation: Completer Abort, and ACS Violation Status in the vPPB's AER (02 R57). -/
def violationAt (port : Nat) (p : Packet) (s : State) : State :=
  let s := freePacket port p (countPort port 7 { init := some (initOf s port p.ld.val), addr := some p.addr, cls := some p.op.cls } 1 (setAer (bridgeOf s port p.ld.val) 21 p s))
  if p.op.posted ∨ ¬ p.op.tracked then s else answerAtIngress port 0xFFF .completerAbort p s

/-- A packet enters the intake FIFO of its kind. -/
def enterIntake (port : Nat) (r : Routed) (s : State) : State :=
  let f := fifoOf s port r.pkt r.cls
  let s := { s with gal := { s.gal with nextOrd := s.gal.nextOrd + 1 } }
  setIntake port f (intakeOf s port f ++ [{ r with ord := s.gal.nextOrd }]) s

/-- The egress side of a route: port, LD, destination PBR ID and whether the home takes the packet; none where a PBR ID has no
valid route. -/
def egressOf (s : State) : Route → Option (Nat × Nat × Nat × Bool)
  | .port d l => some (d, l, 0xFFF, false)
  | .home d l => some (d, l, 0xFFF, true)
  | .pbr b =>
    let e := s.val o4180_01 [pPBR b]
    if b = 0xFFF ∨ ¬ bit e 31 then none
    else if bit e 30 then some (bits e 29 23, bits e 22 19, b, false)
    else some (routePort s e, 0, b, false)
  | .member d b => (portToward s d).map fun p => (p, 0, b, false)
  | _ => none

/-- A routed and checked packet waits for admission. -/
def acceptPacket (port init : Nat) (p : Packet) (e : Nat × Nat × Nat × Bool) (chk : Option Nat) (gen : Nat) (s : State) :
    State :=
  let spbr := if e.2.2.1 = 0xFFF then 0xFFF else pbrOfPort s port p.ld.val
  enterIntake port {
    pkt := p, sport := port, dport := e.1, dld := e.2.1, cls := p.op.cls, midq := homeQuire p.addr, home := e.2.2.2,
    init := init, spbr := spbr, dpbr := e.2.2.1, stamp := tbNs s % 65536, gen := gen, chk := chk } s

/-- The packet carries the VCS it comes from, with its member (05 R138, 02 R54). -/
def markSource (s : State) (port : Nat) (p : Packet) : Packet :=
  { p with
    vcs := (sourceVcs s port p.ld.val).map (Fin.ofNat 64)
    dev := Fin.ofNat 16 (((sourceOf s port p.ld.val).map (·.1)).getD (ownPos s)), forme := none }

/-- A CXL.cache request whose address lies in a homed range of this member comes from a VCS without a slot in the range's domain (02 R54). -/
def cacheOutside (s : State) (p : Packet) : Bool :=
  p.op.channel == 6 && homedHere s p.addr && (match rangeAt s p.addr with
    | some (_, w) => (slotFrom s (rangeDom w) p false).isNone
    | none => false)

/-- DPC contains the target of a port and LD (16 R462): its vPPB's DPC Trigger Status is set. -/
def dpcAt (s : State) (port ld : Nat) : Bool :=
  match boundTo s port ld with
  | some (n, v) => Tbl.look false s.host.dpcOn (128 * n + v)
  | none => false

/-- What a routed packet meets: ACS first, then containment, then the bridges, then Frisket (09 R251). A packet from a contained
target is discarded; a request to one completes as its DPC Completion Control selects. [DEDUCED, log 163] -/
def admitRoute (port : Nat) (p : Packet) (r : Route) (s : State) : State :=
  if roleOf s port = 2 ∧ dpcAt s port p.ld.val = true then freePacket port p s else
  match r with
  | .violation => violationAt port p s
  | r =>
    match egressOf s r with
    | none => unsupportedAt port p s
    | some e =>
      if roleOf s e.1 = 2 ∧ dpcAt s e.1 e.2.1 = true then
        let s := freePacket port p s
        (if p.op.posted then countPort e.1 13 { init := some (initOf s port p.ld.val), addr := some p.addr, cls := some p.op.cls } 1 s
        else if p.op.tracked then answerAtIngress port 0xFFF (lostHow s e.1 e.2.1) p s else s)
      else if ¬ busMasterOk s port p r then unsupportedAt port p s
      else
        let init := initOf s port p.ld.val
        if checkedOp p.op then
          let a := checkAddr s port p r
          match checkPacket port init a p s with
          | (some g, s) =>
            if cacheOutside s p then
              answerAtIngress port 0xFFF .unsupported p (raiseFault (0x2B8 + homeQuire p.addr) 0x10 ((p.vcs.getD 0).val * 2 ^ 36 + ctxLine s p.addr none) (freePacket port p s))
            else acceptPacket port init p e (some a) g s
          | (none, s) => freePacket port p s
        else acceptPacket port init p e none (s.val o6020_02 []) s

/-- The composite address of a request to a pool's virtual device: the slot map of the VCS's presentation, or of a domain that the VCS is a
member of, names the block (08 R226, R227); none where there is no such device or the slot is empty. -/
def poolAddr (s : State) (n : Nat) (p : Packet) : Option Nat :=
  let at_ := fun b : Nat => if b = 0xFFFF then none else
    match Tbl.look none s.blocks b with
    | some v => some (v.base * 2 ^ 28 + p.addr % 2 ^ 28)
    | none => none
  let k := p.addr / 2 ^ 28
  match p.dpa with
  | none => some p.addr
  | some none => if s.flag o5230_01 [pVCS n] ∧ k < 4096 then at_ (s.val o5230_03 [pVCS n, pM k]) else none
  | some (some d) =>
    if s.val o5230_05 [pDOM d.val] ≠ 0xFFF ∧ k < 4096 ∧ (domSlot s d.val (ownPos s) n false).isSome = true then
      at_ (s.val o5230_06 [pDOM d.val, pM k])
    else none

/-- The address that a packet carries inside: that of the request its tag names, or of the block its pool address names; none where there
is none. -/
def innerAddr (s : State) (port : Nat) (p : Packet) : Option Nat :=
  if roleOf s port = 1 ∧ p.op.channel < 2 then
    match vcsOfUp s port with
    | some n => poolAddr s n p
    | none => some p.addr
  else some (namedAddr s port p)

/-- A packet that a PCIe or CXL port receives is routed and checked. A port whose link is not up, a contained or offline quire,
and a device in stop-press take none; a CXL.mem write of a viral VCS's host is refused with an error response (16 R465). [DESIGN CHOICE, log 160] -/
def ingressPacket (port : Nat) (p : Packet) (s : State) : State :=
  if (roleOf s port ≠ 1 ∧ roleOf s port ≠ 2) ∨ linkOf s port ≠ 2 ∨ quireDark s (quireOf port) = true ∨ inStopPress s = true
  then s else if p.op = .dllp then linkDllp port p s else
  match innerAddr s port p with
  | none => unsupportedAt port (markSource s port p) s
  | some a =>
  let p := markSource s port { p with addr := a }
  let s := if p.op.channel = 6 then nameTag port p s else s
  let viral := roleOf s port == 1 && (match vcsOfUp s port with
    | some n => s.flag o9030_02 [pVCS n]
    | none => false)
  if viral = true ∧ p.op.channel = 1 then answerAtIngress port 0xFFF .completerAbort p (freePacket port p s)
  else if 2 ^ 64 ≤ p.addr ∧ p.op.channel < 2 then
    freePacket port p (refusePacket port (initOf s port p.ld.val) p.addr 0x3 0x1FFF p s)
  else
    let (r, s) := routePacket s port p
    admitRoute port p r s

/-- INGRESS_PACKET_RECEIVE. An answer goes to the tracker first (TRACKER_COMPLETION): here it is routed as it stands. -/
def execIngressPacketReceive (port : Fin 128) (p : Packet) (s : State) : Host.Outcome State Fault Refusal :=
  .next (ingressPacket port.val p s)

end Sys2Proof.Machine
end

