-- ==== Sys2Proof/Machine/Link.lean ====
section
/-!
DEFINITION. The receiving side of the Folio link layer (11 R315-R334), and the transaction tracker of every port (R336-R338).
-/
namespace Sys2Proof.Machine

/-! ### Answers and the tracker -/

/-- An answer that a tracker entry waits for: a completion for a bulk request, NDR or DRS for CXL.mem, an H2D response or data
for CXL.cache. -/
def answers (req ans : MsgOp) : Bool :=
  if req.cls = 4 then ans.completion
  else if req.channel = 6 then ans.channel == 10 || ans.channel == 11
  else ans.channel == 3 || ans.channel == 4

/-- Some request kind has this answer. -/
def isAnswer (o : MsgOp) : Bool := o.completion || o.channel == 3 || o.channel == 4 || o.channel == 10 || o.channel == 11

/-- An answer goes on to its requester: the home that forwarded the request, the unit that originated it, or a port. The line
address is that of the request (03 R91). [DEDUCED, log 55] -/
def deliverAnswer (p : Nat) (x : DSort) (pk : Packet) (s : State) : State :=
  let pk := { pk with addr := x.pkt.addr, ld := x.pkt.ld }
  let s := if x.trace then stamp x.traceid 0xE (quireOf p) s else s
  if x.fromHome then
    enterIntake p { pkt := pk, sport := p, dport := p, dld := 0, cls := pk.op.cls, midq := x.midq, home := true
                    init := 0x1FFF, stamp := tbNs s % 65536, gen := s.val o6020_02 [], hid := x.hid, hown := x.hown } s
  else if x.orig then
    enterIntake p { pkt := pk, sport := p, dport := 16 * x.srcq, dld := 0, cls := pk.op.cls, midq := homeQuire x.pkt.addr, home := false
                    init := initOf s p x.dld, stamp := tbNs s % 65536, gen := s.val o6020_02 [], unit := some (x.sport, x.pid) } s
  else
    enterIntake p { pkt := pk, sport := p, dport := replyPort s x.sport x.spbr, dld := x.pkt.ld.val, cls := pk.op.cls
                    midq := homeQuire x.pkt.addr, home := false, init := initOf s p x.dld, spbr := x.dpbr, dpbr := x.spbr
                    stamp := tbNs s % 65536, gen := s.val o6020_02 [] } s

/-- An answer arrives at a port: its entry is found by tag and freed by the last answer; one without an entry is late and is
discarded (R336). [DEDUCED, log 45; DEDUCED, log 163] -/
def trackerAnswer (p : Nat) (pk : Packet) (s : State) : State :=
  match takeFirst (fun t : Track => t.x.pkt.tag == pk.tag && answers t.x.pkt.op pk.op) (tracksOf s p) with
  | none => freePacket p pk (countPort p 34 { cls := some pk.op.cls } 1 (s.bump o2130_06 [pP p] 1))
  | some (t, r) => deliverAnswer p t.x pk (if pk.last then setTracks p r s else s)

/-- TRACKER_COMPLETION: the link partner answers a request. -/
def execTrackerCompletion (p : Fin 128) (pk : Packet) (s : State) : Host.Outcome State Fault Refusal :=
  .next <|
    if (roleOf s p.val ≠ 1 ∧ roleOf s p.val ≠ 2) ∨ linkOf s p.val ≠ 2 ∨ ¬ isAnswer pk.op
        ∨ quireDark s (quireOf p.val) = true then s
    else trackerAnswer p.val pk s

/-- A tracker entry ends as at timeout: the request is completed toward its requester, and its copies are voided. -/
def expireTrack (p : Nat) (t : Track) (r : List Track) (s : State) : State :=
  let s := voidCopies p t.x ((setTracks p r s).bump o2130_04 [pP p] 1)
  failRequest p .completerAbort t.x (countPort p 33 (attrOf t.x) 1 s)

/-- The entry that expires first. [DEDUCED, log 45] -/
def firstTrack (l : List Track) : Option Track :=
  l.foldl (fun b t => match b with
    | none => some t
    | some u => if t.until_ < u.until_ then some t else some u) none

/-- TRACKER_TIMEOUT: the timer of a port's next entry ends. -/
def execTrackerTimeout (p : Fin 128) (s : State) : Host.Outcome State Fault Refusal :=
  .next <| match firstTrack (tracksOf s p.val) with
    | none => s
    | some t => expireTrack p.val t ((tracksOf s p.val).filter fun u => u.id != t.id) (advanceTo t.until_ s)

/-! ### Count faults (R328) -/

/-- An impossible ACK, START or INIT ACK: the link goes down, requests held at the port end as at timeout, and posted sorts held
there are discarded and counted. [DEDUCED, log 85] -/
def countFault (p : Nat) (s : State) : State :=
  let posted := ((folioOf s p).held.map fun h => (h.slots.filter fun x => x.valid && x.x.pkt.op.posted).length).sum
  let s := (tracksOf s p).foldl (fun s t =>
    expireTrack p t ((tracksOf s p).filter fun u => u.id != t.id) s) s
  let queued := s.gal.queues.filter fun e => match qrefOfKey e.1 with
    | .egress x _ => x.val == p
    | .egressCls x _ => x.val == p
    | _ => false
  let lost := fun (g : GEnt) => g.x.pkt.op.posted || g.x.pkt.op.tracked
  let n := posted + (queued.map fun e => (e.2.ents.filter fun g => g.x.pkt.op.posted).length).sum
  let s := queued.foldl (fun s e =>
    let q := qrefOfKey e.1
    let v := queueOf s q
    let s := setQueue q { v with ents := v.ents.filter fun g => !lost g } s
    settleQueue q ((v.ents.filter lost).foldl (fun s g => discardSort q .completerAbort g.x s) s)) s
  let s := setFolio p { folioOf s p with held := [], inited := false, fresh := true } (s.bump o2130_05 [pP p] n)
  let s := setPort p { portLink s p with downSince := some s.clk.now, bound := none } s
  raiseFault p 0x36 (ctxPort p) (enterState p 1 s)

/-! ### Receiving flits -/

/-- A good control block: ACK releases the flits below it, RET is compared with the returns taken, NAK starts a replay (R321,
R325, R332). -/
def takeControl (p : Nat) (cb : CtrlBlock) (s : State) : State :=
  let f := folioOf s p
  let n := (cb.ack + 4096 - oldestCount f) % 4096
  if n ≤ f.held.length then
    let diff := (List.range 6).foldl (fun t c =>
      let d := (Tbl.look 0 cb.ret c + 65536 - Tbl.look 0 f.taken c) % 65536
      Tbl.upd none t c (some (match Tbl.look none f.minDiff c with
        | some m => min m d
        | none => d))) f.minDiff
    let f := { f with
      held := f.held.drop n, minDiff := diff
      misses := if n = 0 then f.misses else 0
      replayAt := if n = 0 then f.replayAt else s.clk.now + s.val o2110_01 [pP p] * 4 }
    let s := setFolio p f s
    if cb.nak then replayFrom p 0 s else s
  else if 2048 ≤ n then s
  else countFault p s

/-- The credits a header returns. -/
def takeCredits (p : Nat) (fl : Flit) (s : State) : State :=
  if 6 ≤ fl.crcls.val then s else
  let f := folioOf s p
  setFolio p { f with
    credit := Tbl.mod 0 f.credit fl.crcls.val (· + fl.crcnt.val)
    taken := Tbl.mod 0 f.taken fl.crcls.val fun k => (k + fl.crcnt.val) % 65536 } s

/-- A member that receives a tagged sort opens a continuation record and stamps it (19 R543): the new TRACEID, if the ring has
room. -/
def openContinuation (p : Nat) (w : WireSlot) (dport : Nat) (s : State) : Option Nat × State :=
  if 4096 ≤ s.val oC050_08 [] then (none, countEvent (12288 + 641) {} 1 s) else
  let k := s.val oC050_07 []
  let rec_ : TraceRec := {
    t0 := tbNs s, sport := p, dport := dport, cls := w.cls.val, tc := w.tc.val, bytes := w.pkt.len % 8192,
    origdev := (Tbl.look none s.forme.peer p).getD 0, origid := w.traceid.val, cont := true,
    addr := w.pkt.addr / 64, posted := !w.pkt.op.tracked }
  let s := { s with trc := Tbl.upd { open_ := false } s.trc k rec_ }
  let s := (s.put oC050_07 [] ((k + 1) % 4096)).put oC050_08 [] (s.val oC050_08 [] + 1)
  (some k, stamp k 0xD (quireOf p) (countEvent (12288 + 640) {} 1 s))

/-- The power-loss message (17 R487): a Vendor-Defined Type 1 Message, Vendor ID 0x1F2B, first doubleword 1. [DEDUCED, log 129] -/
def powerLoss : Packet := { op := .msg, len := 4, data := 0x1F2B * 2 ^ 32 + 1 }

/-- Where a packet from Folio goes. A CXL.mem request is for the member its composite address names: here to a home, to a range's device, or
to a target that its VCS has bound (R58, 06 R156); a part of a ring message is for its member; another packet goes by its DPBR. A request
that would cross from one VCS into another has no way (02 R58). -/
def folioRoute (s : State) (w : WireSlot) (pk : Packet) : Option (Nat × Nat × Nat × Bool) :=
  let byId := egressOf s (.pbr w.dpbr.val)
  let onward := fun (d : Nat) =>
    if (Tbl.look none s.forme.targets w.dpbr.val).any (·.1 == d) then byId
    else (portToward s d).map fun p => (p, 0, w.dpbr.val, false)
  let mine := fun (port ld : Nat) => match farBound s port ld with
    | some b => decide (b.1 = pk.dev.val) && pk.vcs.any fun v => v.val == b.2.1
    | none => false
  match pk.toDev with
  | some d => if d.val = ownPos s then none else onward d.val
  | none =>
    if pk.op.channel < 3 then
      let a := pk.addr
      if caDev a ≠ ownPos s then onward (caDev a)
      else if homedHere s a then some (caPort a, caLd a, w.dpbr.val, true)
      else if (rangeAt s a).isSome ∨ mine (caPort a) (caLd a) = true then some (caPort a, caLd a, w.dpbr.val, false)
      else none
    else match byId with
      | none => none
      | some (p, ld, b, h) =>
        if bit (s.val o4180_01 [pPBR b]) 30 ∧ checkedOp pk.op = true then
          let ok := if roleOf s p = 1 then pk.dev.val == ownPos s && pk.vcs.any fun v => vcsOfUp s p == some v.val else mine p ld
          if ok then some (p, ld, b, h) else none
        else some (p, ld, b, h)

/-- The bridges of an upstream port let a memory request pass that a device on another member sends (12 R368): the vPPB that has the source's
PBR ID, and the upstream bridge. -/
def farMasterOk (s : State) (d spbr : Nat) (p : Packet) : Bool :=
  if roleOf s d = 1 ∧ (p.op = .mWr ∨ p.op = .mRd) then
    match vcsOfUp s d with
    | some n =>
      (List.range (s.val o4100_03 [pVCS n])).all fun v =>
        s.val o4110_05 [pVCS n, pV v] != spbr || spbr == 0xFFF || (bmeOf s (n * 1024 + 514 + v) && bmeOf s (n * 1024 + 512))
    | none => true
  else true

/-- A whole packet has arrived over Folio: an answer goes to the port's tracker, another packet is routed. One without a route is
unsupported. A power-loss message ends here and is logged; the voltage its context would give is the partner's: a free value. A message of
the fabric manager is taken, or goes on to the member it is for. -/
def folioPacket (p : Nat) (w : WireSlot) (s : State) : State :=
  let pk := { w.pkt with poison := w.poison || w.pkt.poison, err := w.err || w.pkt.err, tc := w.tc }
  if w.cls = 5 ∧ pk.op = .msg ∧ pk.data = powerLoss.data then
    let (f, s) := freshValue (oweFolio p 5 pk.sorts s)
    raiseFault p 0x55 (f % 2 ^ 42) s
  else if w.cls = 5 ∧ pk.forme.isSome = true then
    (let s := oweFolio p 5 pk.sorts s
     match pk.forme with
      | some (d, m) =>
        if d.val = ownPos s then { s with forme := { s.forme with inbox := s.forme.inbox ++ [(pk.dev.val, m)] } } else tell d.val m s
      | none => s)
  else if isAnswer pk.op ∧ (tracksOf s p).any (fun t => t.x.pkt.tag == pk.tag && answers t.x.pkt.op pk.op) then
    trackerAnswer p pk s
  else
    match folioRoute s w pk with
    | none =>
      let s := oweFolio p w.cls.val pk.sorts s
      if pk.op.tracked then answerFor p w.spbr.val w.dpbr.val .unsupported pk s else s
    | some (d, ld, b, home) =>
      if ¬ farMasterOk s d w.spbr.val pk then
        (let s := oweFolio p w.cls.val pk.sorts s
         if pk.op.posted ∨ ¬ pk.op.tracked then s else answerFor p w.spbr.val w.dpbr.val .unsupported pk s)
      else
      let (tr, s) := if w.trace then openContinuation p w d s else (none, s)
      enterIntake p { pkt := pk, sport := p, dport := d, dld := ld, cls := w.cls.val, midq := homeQuire pk.addr, home := home
                      init := 0x1FFF, spbr := w.spbr.val, dpbr := if roleOf s d = 3 then b else 0xFFF
                      stamp := tbNs s % 65536, asked := true, trace := tr, gen := s.val o6020_02 [] } s

/-- A sort of an accepted flit is taken: packets are put together class by class; one that carries VOID is discarded whole
(R318, R337). -/
def takeSlot (p : Nat) (s : State) (w : WireSlot) : State :=
  let f := folioOf s p
  let c := w.cls.val
  let x : DSort := { cls := c, sop := w.sop, eop := w.eop, plen := w.plen.val, pkt := w.pkt, trace := w.trace
                     traceid := w.traceid.val, spbr := w.spbr.val, dpbr := w.dpbr.val }
  let part := (if w.sop then [] else Tbl.look [] f.part c) ++ [x]
  let void := w.void || (!w.sop && Tbl.look false f.voidSeen c)
  let f := { f with occ := Tbl.mod 0 f.occ c (· + 1) }
  if ¬ w.eop then setFolio p { f with part := Tbl.upd [] f.part c part, voidSeen := Tbl.upd false f.voidSeen c void } s
  else
    let n := part.length
    let f := { f with part := Tbl.upd [] f.part c [], voidSeen := Tbl.upd false f.voidSeen c false }
    if void then
      let f := { f with occ := Tbl.mod 0 f.occ c (· - n), owed := Tbl.mod 0 f.owed c (· + n) }
      (setFolio p f s).bump o2130_07 [pP p] 1
    else
      let f := { f with occ := Tbl.mod 0 f.occ c fun k => k - n + w.pkt.sorts }
      match part with
      | h :: _ => folioPacket p { w with pkt := h.pkt, trace := h.trace, traceid := Fin.ofNat 4096 h.traceid } (setFolio p f s)
      | [] => setFolio p f s

/-- A good sequenced flit (R320). -/
def takeSequenced (p : Nat) (fl : Flit) (s : State) : State :=
  let f := folioOf s p
  if f.bad then s
  else if f.incoming = f.e then
    let due := if f.cbDue = 0 then s.clk.now + ns 64 else f.cbDue
    let s := setFolio p { f with e := (f.e + 1) % 4096, incoming := (f.e + 1) % 4096, cbDue := due } s
    fl.slots.foldl (takeSlot p) (noteTraffic p (takeCredits p fl s))
  else (setFolio p { f with incoming := (f.incoming + 1) % 4096 } s).bump o2110_0A [pP p] 1

/-- RSTART sets the incoming count; a START above E is a count fault (R320, R328). -/
def takeRstart (p : Nat) (start : Nat) (s : State) : State :=
  let f := folioOf s p
  let d := (start + 4096 - f.e) % 4096
  if d ≠ 0 ∧ d < 2048 then countFault p s
  else setFolio p { f with incoming := start % 4096, bad := false, nakSent := false } s

/-- A good INIT (R333): held flits below its ACK are released, credits are set from WIN, the counts of returns start again,
and what is still held is replayed; the returns owed from before the own INIT went with its sending. Of one that comes again the ACK is
taken. [DEDUCED, log 83] -/
def takeInit (p : Nat) (cb : CtrlBlock) (s : State) : State :=
  let f := folioOf s p
  if ¬ (portLink s p).joined ∨ folioState s p ≠ 4 then s else
  let n := (cb.ack + 4096 - oldestCount f) % 4096
  if f.inited then
    if f.held.length < n ∨ n = 0 then s else
    setFolio p { f with held := f.held.drop n, misses := 0, replayAt := s.clk.now + s.val o2110_01 [pP p] * 4 } s
  else
  if f.held.length < n then countFault p s else
  let s := setFolio p { f with
    inited := true, held := f.held.drop n, credit := cb.win, placed := [], taken := [], minDiff := []
    incoming := f.e, bad := false, nakSent := false, misses := 0, monitorAt := s.clk.now } s
  let s := (List.range 6).foldl (fun s c =>
    s.put o2100_02 [pP p, pCLS c] (Tbl.look 0 cb.win c) |>.put o2100_03 [pP p, pCLS c] (Tbl.look 0 cb.win c)) s
  if (folioOf s p).held.isEmpty then s else replayFrom p 0 s

/-- A bad flit (R316, R324): nothing of it is used; the first after an RSTART or INIT draws one NAK. -/
def takeBad (p : Nat) (s : State) : State :=
  let s := countPort p 18 {} 1 (s.bump o2110_05 [pP p] 1)
  let f := folioOf s p
  let s := setFolio p { f with bad := true, nakSent := true } s
  if f.nakSent then s else sendFlit p 0 [] true true 0 [] s

/-- A good unsequenced flit. -/
def takeUnsequenced (p : Nat) (fl : Flit) (s : State) : State :=
  match fl.ty.val with
  | 3 => takeInit p fl.cb s
  | 4 => takeRstart p fl.cb.start s
  | 5 => takeDreq p s
  | 6 => takeDack p s
  | 7 => takeDref p s
  | 8 => takeDcan p s
  | 9 => retrain p s
  | _ => s

/-- A flit arrives at a Folio port. [DESIGN CHOICE, log 78] -/
def folioReceive (p : Nat) (fl : Flit) (s : State) : State :=
  if roleOf s p ≠ 3 ∨ folioState s p ≠ 4 ∨ ¬ (portLink s p).joined then s
  else if ¬ fl.good then takeBad p s
  else
    let s := countPort p 16 {} 1 (s.bump o2110_06 [pP p] fl.fec.val)
    let s := if fl.fec.val = 0 then s else countPort p 20 {} fl.fec.val s
    if 10 ≤ fl.ty.val then raiseFault p 0x35 (ctxPort p) s
    else if fl.ty.val = 1 then takeSequenced p fl s
    else if fl.ty.val = 2 then takeControl p fl.cb (takeSequenced p fl s)
    else if fl.ty.val = 3 then takeUnsequenced p fl s
    else takeUnsequenced p fl (takeControl p fl.cb (takeCredits p fl s))

/-- FOLIO_INIT_RECEIVE: a good INIT arrives. -/
def execFolioInitReceive (p : Fin 128) (cb : CtrlBlock) (s : State) : Host.Outcome State Fault Refusal :=
  .next (folioReceive p.val { ty := 3, cb := cb } s)

/-- FOLIO_RTRN_RECEIVE: the partner asks for a retrain, and the port retrains at once (R332). -/
def execFolioRtrnReceive (p : Fin 128) (s : State) : Host.Outcome State Fault Refusal := .next (retrain p.val s)

/-! ### Timers -/

/-- INIT_RESEND_TIMER: INIT goes out again at least every 64 ns until a good INIT arrives (R333). -/
def execInitResendTimer (p : Fin 128) (s : State) : Host.Outcome State Fault Refusal :=
  .next <|
    let p := p.val
    if roleOf s p = 3 ∧ folioState s p = 4 ∧ (portLink s p).joined = true ∧ (folioOf s p).inited = false then
      sendInit p (advanceTo ((folioOf s p).initAt + ns 64) s)
    else s

/-- CONTROL_BLOCK_DUE: 64 ns after E advanced, a control block goes out in IDLE (R323). [DEDUCED, log 82] -/
def execControlBlockDue (p : Fin 128) (s : State) : Host.Outcome State Fault Refusal :=
  .next <|
    let f := folioOf s p.val
    if roleOf s p.val = 3 ∧ folioState s p.val = 4 ∧ f.cbDue ≠ 0 then
      sendFlit p.val 0 [] true false 0 [] (advanceTo f.cbDue s)
    else s

/-- REPLAY_TIMER_EXPIRY (R326). [DEDUCED, log 81] -/
def execReplayTimerExpiry (p : Fin 128) (s : State) : Host.Outcome State Fault Refusal :=
  .next <|
    let p := p.val
    let f := folioOf s p
    if roleOf s p = 3 ∧ folioState s p = 4 ∧ f.held ≠ [] ∧ f.inited = true then
      let s := setFolio p { f with misses := f.misses + 1 } (advanceTo f.replayAt s)
      if s.val o2110_02 [pP p] ≤ f.misses + 1 then
        plannedRetrain p (setFolio p { folioOf s p with misses := 0 } (s.bump o2110_04 [pP p] 1))
      else replayFrom p 0 s
    else s

/-- LEAK_MONITOR_INTERVAL: effective windows are set from the smallest difference seen, and a shortfall below the threshold
starts a planned retrain (R332). -/
def leakMonitor (p : Nat) (s : State) : State :=
  let f := folioOf s p
  if roleOf s p ≠ 3 ∨ folioState s p ≠ 4 ∨ ¬ f.inited then s else
  let s := advanceTo (f.monitorAt + us (s.val o2100_06 [pP p])) s
  let s := (List.range 6).foldl (fun s c =>
    let w := s.val o2100_02 [pP p, pCLS c]
    let m := match Tbl.look none f.minDiff c with
      | some d => d
      | none => w - s.val o2100_03 [pP p, pCLS c]
    let found := m - (w - s.val o2100_03 [pP p, pCLS c])
    let s := (s.put o2100_03 [pP p, pCLS c] (w - m)).bump o2100_04 [pP p, pCLS c] found
    if found = 0 then s else countPort p 21 { cls := some c } found s) s
  let s := setFolio p { folioOf s p with minDiff := [], monitorAt := s.clk.now } s
  let t := s.val o2100_05 [pP p]
  if t ≠ 0 ∧ (List.range 6).any (fun c =>
      decide (s.val o2100_03 [pP p, pCLS c] * 100 < t * s.val o2100_02 [pP p, pCLS c])) then plannedRetrain p s
  else s

def execLeakMonitorInterval (p : Fin 128) (s : State) : Host.Outcome State Fault Refusal := .next (leakMonitor p.val s)

/-- 1 is written to the planned-retrain object; a host writes that of its own ports (15 Table ODX-5). -/
def retrainRequest (role : Role) (p v : Nat) (s : State) : Status × State :=
  let mine : Bool := match role with
    | .host n => hostBound s n.val p
    | _ => true
  if ¬ mine ∨ 1 < v then (.refused, s) else (.ok, if v = 1 then plannedRetrain p s else s)

/-- PLANNED_RETRAIN_REQUEST. -/
def execPlannedRetrainRequest (role : Role) (p : Fin 128) (v : Nat) (s : State) : Host.Outcome State Fault Refusal :=
  .next (answered (managed role o2120_01 [pP p.val] (retrainRequest role p.val v) s))

/-- FOLIO_LINK_DOWN: a Folio link goes down; every sort is held (R335), and a half-received packet keeps the sorts of its accepted
flits. -/
def execFolioLinkDown (p : Fin 128) (s : State) : Host.Outcome State Fault Refusal :=
  .next <|
    let p := p.val
    if roleOf s p ≠ 3 ∨ folioState s p = 0 then s else
    let s := setPort p { portLink s p with downSince := some s.clk.now, bound := none } s
    let s := enterState p 1 (abortScans p s)
    setFolio p { folioOf s p with inited := false } s

/-- The receive windows of a port must sum to 1,024 or less (R330). -/
def windowWrite (p c v : Nat) (s : State) : Status × State :=
  let sum := ((List.range 6).map fun k => if k = c then v else s.val o2100_01 [pP p, pCLS k]).sum
  if 1024 < sum then (.refused, s) else (.ok, s.put o2100_01 [pP p, pCLS c] v)

end Sys2Proof.Machine
end

