-- ==== Sys2Proof/Machine/Platen.lean ====
section
/-!
DEFINITION. Platen (13): rings, their ownership and doorbells, descriptors, accesses and completions, squash and drain.
-/
namespace Sys2Proof.Machine

def ringOf (s : State) (r : Nat) : Ring := Tbl.look {} s.plat.ring r

def setRing (r : Nat) (v : Ring) (s : State) : State :=
  { s with plat := { s.plat with ring := Tbl.upd {} s.plat.ring r v } }

/-! ### Assignment (Table PLT-1, R377-R379) -/

def ringWord (s : State) (r : Nat) : Nat := s.val o8000_01 [pRI r]

def ringValid (w : Nat) : Bool := bit w 31
def ringOwner (w : Nat) : Nat := bits w 30 18
def ringUnit (w : Nat) : Nat := bits w 17 13
def ringInside (w : Nat) : Bool := bit w 12
def ringPrio (w : Nat) : Bool := bit w 11
def ringTc (w : Nat) : Nat := bits w 10 8

/-- The VCS that a device-wide VF number belongs to, and its number there (R379, 12 R362). -/
def vfOf (s : State) (d : Nat) : Option (Nat × Nat) :=
  ((List.range 64).find? fun n =>
    decide (s.val o4400_05 [pVCS n] ≤ d) && decide (d < s.val o4400_05 [pVCS n] + s.val o4400_02 [pVCS n])).map
    fun n => (n, d - s.val o4400_05 [pVCS n] + 1)

/-- The function that an initiator index names. -/
def fnOfInit (s : State) (i : Nat) : Option Nat :=
  if i < 0x40 then some (i * 1024)
  else if 0x840 ≤ i ∧ i < 0x1840 then (vfOf s (i - 0x840)).map fun x => x.1 * 1024 + x.2
  else none

/-- The initiator index of a function. -/
def initOfFn (s : State) (fn : Nat) : Nat :=
  if fn % 1024 = 0 then fn / 1024 else 0x840 + s.val o4400_05 [pVCS (fn / 1024)] + fn % 1024 - 1

def isFnOwner (i : Nat) : Bool := decide (i < 0x40) || (decide (0x840 ≤ i) && decide (i < 0x1840))

/-- An owner that a ring may have: a management function, a VF, an engine or a Platen unit. -/
def ownerAllowed (i : Nat) : Bool := isFnOwner i || (decide (0x1840 ≤ i) && decide (i < 0x1920))

/-- Rings that an owner has. -/
def ringsOf (s : State) (i : Nat) : List Nat :=
  ((s.listed o8000_01).filter fun e => ringValid e.2 && ringOwner e.2 == i).map fun e => elemAt e.1 0

/-! ### FIFOs (R374) -/

def sqSize (v : Ring) : Nat := 2 ^ bits v.cfg 62 58
def cqSize (v : Ring) : Nat := 2 ^ bits v.cfg 57 53

/-- Depths of the two queues (R384). -/
def sqDepth (v : Ring) : Nat := (v.sqTail + sqSize v - v.sqHead) % sqSize v
def cqDepth (v : Ring) : Nat := (v.cqTail + cqSize v - v.cqHead) % cqSize v

/-- The ring is active: enabled, with a descriptor published or in execution. -/
def ringActive (v : Ring) : Bool :=
  v.state != 0 && v.state != 5 && (sqDepth v != 0 || !v.fifo.isEmpty || !v.run.isEmpty)

/-- FIFOs that a quire's rings hold. -/
def fifosHeld (s : State) (q : Nat) : Nat :=
  (s.plat.ring.filter fun e => e.1 / 8192 == q && e.2.hasFifo).length

/-- The next waiting ring takes a freed FIFO. -/
def grantFifo (q : Nat) (s : State) : State :=
  match Tbl.look [] s.plat.wait q with
  | [] => s
  | r :: rest =>
    if fifosHeld s q < 512 then
      setRing r { ringOf s r with hasFifo := true } { s with plat := { s.plat with wait := Tbl.upd [] s.plat.wait q rest } }
    else s

/-- A ring takes or gives back its FIFO as it becomes active or idle. -/
def settleFifo (r : Nat) (s : State) : State :=
  let v := ringOf s r
  let q := r / 8192
  let w := Tbl.look [] s.plat.wait q
  if ringActive v then
    if v.hasFifo ∨ r ∈ w then s
    else grantFifo q { s with plat := { s.plat with wait := Tbl.upd [] s.plat.wait q (w ++ [r]) } }
  else
    let s : State := { s with plat := { s.plat with wait := Tbl.upd [] s.plat.wait q (w.filter (· != r)) } }
    if v.hasFifo then grantFifo q (setRing r { v with hasFifo := false } s) else s

/-! ### States (Table PLT-5) -/

/-- Indices at 0. -/
def zeroIndices (v : Ring) : Ring := { v with sqHead := 0, sqTail := 0, cqHead := 0, cqTail := 0, phase := true, bp := false }

/-- The ring goes to ERROR: fetch stops, descriptors in execution are squashed. -/
def ringError (r : Nat) (s : State) : State :=
  settleFifo r (setRing r { ringOf s r with state := 4, run := [], fifo := [], disabling := false } s)

/-- The quire of a ring's context is contained: its page answers as that of an unowned ring (16 R463). -/
def ringDark (s : State) (r : Nat) : Bool := s.val o9050_01 [pQ (r / 8192)] == 1

/-- The status word (Table PLT-4). A flush takes its whole effect in one step, so FLUSH reads 0. [DEDUCED, log 95] -/
def ringStatus (v : Ring) : Nat :=
  v.state * 2 ^ 61 + b2n v.bp * 2 ^ 60 + b2n (sqDepth v == 0) * 2 ^ 59 + b2n v.undr * 2 ^ 57 + b2n v.badidx * 2 ^ 56
    + b2n v.cfgerr * 2 ^ 55 + b2n v.memerr * 2 ^ 54

/-- Published and fetched descriptors that are not started are discarded (R384). [DEDUCED, log 95] -/
def flushRing (v : Ring) : Ring := { v with fifo := [], sqHead := v.sqTail }

/-- A ring whose DISABLE waited for its descriptors is disabled. -/
def settleDisable (r : Nat) (s : State) : State :=
  let v := ringOf s r
  if v.disabling ∧ v.run.isEmpty = true then
    settleFifo r (setRing r (zeroIndices { v with state := 0, disabling := false }) s)
  else s

/-- A packet of Platen is still in the device. -/
def pidInside (s : State) (pid : Nat) : Bool :=
  ((allSorts s).any fun x => x.orig && x.pid == pid) || s.gal.orig.any fun e => e.2.any fun x => x.pid == pid

/-- A ring is squashed (Table PLT-9): nothing more is fetched, started or issued, and its FIFO is emptied. -/
def squashRing (r : Nat) (s : State) : State :=
  let v := ringOf s r
  if v.state = 0 ∨ v.state = 5 then s
  else
    let left := v.run.flatMap fun e => e.accs ++ e.sent
    settleFifo r (setRing r { v with state := 5, fifo := [], run := [], disabling := false, squashAt := s.clk.now, left := left } s)

/-- Every ring of an owner is squashed. -/
def squashOwner (i : Nat) (s : State) : State := (ringsOf s i).foldl (fun s r => squashRing r s) s

/-- The VCSs whose view an assignment word is in. -/
def viewVcs (s : State) (w : Nat) : List Nat :=
  if ringValid w then (match fnOfInit s (ringOwner w) with
    | some fn => [fn / 1024]
    | none => []) else []

/-- A new assignment takes effect; the Imprint of each VCS whose view it changes advances (R378). -/
def applyAssign (r w : Nat) (s : State) : State :=
  let old := ringWord s r
  let vs := viewVcs s old ++ (viewVcs s w).filter fun n => !(viewVcs s old).contains n
  vs.foldl (fun s n => imprintChange n s) (s.put o8000_01 [pRI r] w)

/-- The assignment word is written (R377, R378). -/
def ringAssign (r v : Nat) (s : State) : Status × State :=
  let i := ringOwner v
  let w := v &&& 0xFFFFFF00
  if 2 ^ 32 ≤ v ∨ ¬ ownerAllowed i ∨ (ringInside v = true ∧ isFnOwner i = true) ∨ ringUnit v / 4 ≠ r / 8192
      ∨ (ringValid v = true ∧ 0x840 ≤ i ∧ i < 0x1840 ∧ 256 ≤ ((ringsOf s i).filter (· != r)).length) then (.refused, s)
  else if w = ringWord s r then (.ok, s)
  else if (ringOf s r).state = 0 then (.ok, applyAssign r w s)
  else
    let s := squashRing r s
    (.ok, setRing r { ringOf s r with assign := some w } s)

/-- RING_ASSIGN. -/
def execRingAssign (role : Role) (r : Fin 65536) (v : Nat) (s : State) : Host.Outcome State Fault Refusal :=
  .next (answered (managed role o8000_01 [pRI r.val] (ringAssign r.val v) s))

/-! ### The doorbell page (Table PLT-2) -/

/-- The ring's page takes writes: it is assigned, not being squashed, and its owner function is there and not in an FLR or in D3hot. -/
def pageTakes (s : State) (r : Nat) : Bool :=
  let w := ringWord s r
  ringValid w && (ringOf s r).state != 5 && (match fnOfInit s (ringOwner w) with
    | some fn => s.flag o4100_02 [pVCS (fn / 1024)] && decide (fn % 1024 ≤ vfsOf s (fn / 1024)) && !flrRuns s fn && !inD3 s fn
    | none => true)

/-- A write to a ring's doorbell page; while its quire is contained it is discarded, and counted for the owner's VCS (12 R346, 16 R463). -/
def atPage (r : Nat) (f : State → State) (s : State) : State :=
  if ¬ ringDark s r then f s
  else if ringValid (ringWord s r) then
    match fnOfInit s (ringOwner (ringWord s r)) with
    | some fn => s.bump o4450_01 [pVCS (fn / 1024)] 1
    | none => s
  else s

/-- An index out of rule: BADIDX, and an ACTIVE ring goes to ERROR. [DEDUCED, log 96] -/
def badIndex (r : Nat) (s : State) : State :=
  let v := ringOf s r
  let s := setRing r { v with badidx := true } s
  if v.state = 1 then ringError r s else s

/-- The SQ tail is written: descriptors are published, or BADIDX where the depth would fall (R384). [DEDUCED, log 96] -/
def sqTailWrite (r v : Nat) (s : State) : State :=
  let x := ringOf s r
  if ¬ pageTakes s r ∨ x.state = 0 then s
  else
    let y := { x with sqTail := v }
    if sqSize x ≤ v ∨ sqDepth y < sqDepth x then badIndex r s
    else settleFifo r (setRing r y s)

/-- DOORBELL_SQ_TAIL. -/
def execDoorbellSqTail (r : Fin 65536) (v : Nat) (s : State) : Host.Outcome State Fault Refusal :=
  .next (atPage r.val (sqTailWrite r.val v) s)

/-- How a ring signals its owner (R384, R391): the function's vector in the unit's own stream, or an interrupt message to the
engine or to the unit's cluster. -/
def ringInterrupt (r : Nat) (s : State) : State :=
  let w := ringWord s r
  let i := ringOwner w
  let vec := bits (ringOf s r).cfg 52 42
  match fnOfInit s i with
  | some fn => signalFrom (ringUnit w / 4, 0x10 + ringUnit w % 4) (ringTc w) fn vec s
  | none => raiseVec (if i < 0x1900 then i - 0x1840 else clusterEngine s ((i - 0x1900) / 4)) vec s

/-- The CQ's back-pressure after a change of its depth; a rise interrupts where HIEN is set. -/
def settleCq (r : Nat) (s : State) : State :=
  let v := ringOf s r
  let b := bpAfter (bits v.cfg 39 24) (bits v.cfg 23 8) (cqDepth v) v.bp
  let s := setRing r { v with bp := b } s
  if b ∧ ¬ v.bp ∧ bit v.cfg 41 = true then ringInterrupt r s else s

/-- The CQ head is written: completions are consumed; a head that would pass the tail sets BADIDX. An empty CQ clears the pending
event of the ring's vector. [DEDUCED, log 96] -/
def cqHeadWrite (r v : Nat) (s : State) : State :=
  let x := ringOf s r
  if ¬ pageTakes s r ∨ x.state = 0 then s
  else
    let y := { x with cqHead := v }
    if cqSize x ≤ v ∨ cqDepth x < cqDepth y then badIndex r s
    else
      let s := settleCq r (setRing r y s)
      match fnOfInit s (ringOwner (ringWord s r)) with
      | some fn => if cqDepth y = 0 then clearEvent fn (bits x.cfg 52 42) s else s
      | none => s

/-- DOORBELL_CQ_HEAD. -/
def execDoorbellCqHead (r : Fin 65536) (v : Nat) (s : State) : Host.Outcome State Fault Refusal :=
  .next (atPage r.val (cqHeadWrite r.val v) s)

/-- PAUSE. -/
def ringPause (r : Nat) (s : State) : State :=
  let v := ringOf s r
  if pageTakes s r ∧ v.state = 1 then setRing r { v with state := 2 } s else s

/-- RESUME. -/
def ringResume (r : Nat) (s : State) : State :=
  let v := ringOf s r
  if pageTakes s r ∧ v.state = 2 then setRing r { v with state := 1 } s else s

/-- FLUSH. -/
def ringFlush (r : Nat) (s : State) : State :=
  let v := ringOf s r
  if pageTakes s r ∧ 1 ≤ v.state ∧ v.state ≤ 3 then settleFifo r (setRing r (flushRing v) s) else s

/-- CLEAR: the error bits; an ERROR ring is DISABLED. -/
def ringClear (r : Nat) (s : State) : State :=
  let v := ringOf s r
  if ¬ pageTakes s r then s
  else
    let v := { v with undr := false, badidx := false, cfgerr := false, memerr := false }
    settleFifo r (setRing r (if v.state = 4 then zeroIndices { v with state := 0 } else v) s)

/-- DISABLE: a flush; descriptors started run to completion first. -/
def ringDisable (r : Nat) (s : State) : State :=
  let v := ringOf s r
  if pageTakes s r ∧ (v.state = 1 ∨ v.state = 2) then
    settleDisable r (settleFifo r (setRing r { flushRing v with disabling := true } s))
  else s

/-- The control word is written: each bit that is set, lowest first. -/
def ringControl (r v : Nat) (s : State) : State :=
  let s := if bit v 0 then ringPause r s else s
  let s := if bit v 1 then ringResume r s else s
  let s := if bit v 2 then ringFlush r s else s
  let s := if bit v 3 then ringClear r s else s
  if bit v 4 then ringDisable r s else s

/-- RING_PAUSE. -/
def execRingPause (r : Fin 65536) (s : State) : Host.Outcome State Fault Refusal := .next (atPage r.val (ringPause r.val) s)
/-- RING_RESUME. -/
def execRingResume (r : Fin 65536) (s : State) : Host.Outcome State Fault Refusal := .next (atPage r.val (ringResume r.val) s)
/-- RING_FLUSH. -/
def execRingFlush (r : Fin 65536) (s : State) : Host.Outcome State Fault Refusal := .next (atPage r.val (ringFlush r.val) s)
/-- RING_CLEAR. -/
def execRingClear (r : Fin 65536) (s : State) : Host.Outcome State Fault Refusal := .next (atPage r.val (ringClear r.val) s)
/-- RING_DISABLE. -/
def execRingDisable (r : Fin 65536) (s : State) : Host.Outcome State Fault Refusal := .next (atPage r.val (ringDisable r.val) s)

/-- A base is written, while the ring is DISABLED (R383). -/
def ringBase (r : Nat) (cq : Bool) (v : Nat) (s : State) : State :=
  let x := ringOf s r
  if pageTakes s r ∧ x.state = 0 then
    setRing r (if cq then { x with cqBase := v % 2 ^ 64 } else { x with sqBase := v % 2 ^ 64 }) s
  else s

/-- RING_BASE_WRITE. -/
def execRingBaseWrite (r : Fin 65536) (cq : Bool) (v : Nat) (s : State) : Host.Outcome State Fault Refusal :=
  .next (atPage r.val (ringBase r.val cq v) s)

/-- A vector in the owner's range (Table PLT-3). -/
def vectorOk (i vec : Nat) : Bool :=
  if i < 0x40 then decide (4 ≤ vec) else if isFnOwner i then decide (vec < 64) else true

/-- What an enable needs (R383). -/
def enableOk (i : Nat) (x : Ring) (v : Nat) : Bool :=
  let sz := bits v 62 58
  let cz := bits v 57 53
  x.sqBase % 4096 == 0 && x.cqBase % 4096 == 0 && decide (4 ≤ sz) && decide (sz ≤ 16) && decide (5 ≤ cz) && decide (cz ≤ 16)
  && vectorOk i (bits v 52 42) && decide (bits v 23 8 < bits v 39 24) && decide (bits v 39 24 ≤ 2 ^ cz - 16)

/-- The configuration word is written, while the ring is DISABLED; ENABLE enables it or sets CFGERR. -/
def ringConfig (r v : Nat) (s : State) : State :=
  let x := ringOf s r
  if ¬ pageTakes s r ∨ x.state ≠ 0 then s
  else
    let w := setBits (setBits (v % 2 ^ 64) 40 40 0) 7 0 0
    let x := { x with cfg := w }
    if ¬ bit v 63 then setRing r x s
    else if enableOk (ringOwner (ringWord s r)) x v then
      setRing r (zeroIndices { x with state := 1, cfgerr := false, left := [] }) s
    else setRing r { x with cfgerr := true } s

/-- RING_ENABLE. -/
def execRingEnable (r : Fin 65536) (v : Nat) (s : State) : Host.Outcome State Fault Refusal :=
  .next (atPage r.val (ringConfig r.val v) s)

/-- DOORBELL_WRITE_DISCARD: a write that is not a naturally aligned one of 4 or 8 bytes is counted in 0x8030.01 (R382); one to a ring
that no function of the VCS `n` owns in that VCS's 0x4450.01 (12 R346). -/
def execDoorbellWriteDiscard (n : Option (Fin 64)) (s : State) : Host.Outcome State Fault Refusal :=
  .next <| match n with
    | some n => s.bump o4450_01 [pVCS n.val] 1
    | none => s.bump o8030_01 [] 1

/-! ### Bus Master Enable and D3hot (12 R367, R369) -/

/-- A descriptor that starts. -/
def startExec (w k : Nat) : PExec := { word := w, idx := k, crc := if bits w 255 254 = 2 then bits w 319 256 else bits w 287 256 }

/-- A descriptor that will start again from its first byte: an invalid one stays so, and the writes it has issued still go out. -/
def restartExec (e : PExec) : PExec :=
  match e.fail with
  | some (2, _) => e
  | _ => { startExec e.word e.idx with accs := e.accs.filter (·.write), sent := e.sent }

/-- The rings of a function stop; their descriptors restart from the first byte later. -/
def bmeStop (i : Nat) (s : State) : State :=
  (ringsOf s i).foldl (fun s r =>
    let v := ringOf s r
    if v.state = 1 ∨ v.state = 2 then
      setRing r { v with state := 3, prev := v.state, run := v.run.map restartExec } s
    else s) s

def bmeResume (i : Nat) (s : State) : State :=
  (ringsOf s i).foldl (fun s r =>
    let v := ringOf s r
    if v.state = 3 then setRing r { v with state := v.prev } s else s) s

/-! ### Accesses (R386-R388) -/

/-- The space of an operand: 0 H, 1 C, 2 V, 3 I. -/
def sasp (w : Nat) : Nat := bits w 503 502
def dasp (w : Nat) : Nat := bits w 501 500
def dOp (w : Nat) : Nat := bits w 511 504
def dLen (w : Nat) : Nat := bits w 479 448
def dSrc (w : Nat) : Nat := bits w 447 384
def dDst (w : Nat) : Nat := bits w 383 320
def dPattern (w : Nat) : Nat := bits w 319 256
def dCrc (w : Nat) : Nat := bits w 255 254
def dFence (w : Nat) : Bool := bit w 499
def dIrq (w : Nat) : Bool := bit w 498
def dScrub (w : Nat) : Bool := bit w 497

/-- A space that an owner has (R386). -/
def spaceOk (i sp : Nat) : Bool := if isFnOwner i then decide (sp < 3) else sp == 1 || sp == 3

/-- Operands of an operation: SRC, DST. -/
def usesSrc (op : Nat) : Bool := op != 2
def usesDst (op : Nat) : Bool := op != 4

/-- Spaces as Table PLT-7 allows them. -/
def opSpaces (op sp dp : Nat) : Bool :=
  if op = 1 then (sp == 0 && dp == 0) || (sp == 3 && dp == 3)
  else if op = 5 then (sp == 1 && dp != 2) || (dp == 1 && sp != 2)
  else if op = 6 then (sp == 2 && (dp == 2 || dp == 0)) || (dp == 2 && sp == 0)
  else true

/-- A scrub write is a FILL of a Platen unit inside a capacity block in SCRUB (R390). -/
def scrubOk (s : State) (i w : Nat) : Bool :=
  decide (0x1900 ≤ i) && usesDst (dOp w) && dasp w == 1 &&
  (match blockAt s (dDst w) with
  | some (_, b) => b.state == 3 && decide ((dDst w + dLen w - 1) / 2 ^ 28 = dDst w / 2 ^ 28)
  | none => false)

/-- A descriptor completes with INVALID (R386). -/
def descInvalid (s : State) (i w : Nat) : Bool :=
  let op := dOp w
  let n := dLen w
  op == 0 || decide (6 < op) || dCrc w == 3 || n == 0
  || (usesSrc op && !spaceOk i (sasp w)) || (usesDst op && !spaceOk i (dasp w)) || !opSpaces op (sasp w) (dasp w)
  || (usesSrc op && decide (2 ^ 64 < dSrc w + n)) || (usesDst op && decide (2 ^ 64 < dDst w + n))
  || ((op == 1 || op == 5) && sasp w == dasp w && decide (dSrc w < dDst w + n) && decide (dDst w < dSrc w + n))
  || (dScrub w && !scrubOk s i w)

/-- Where a byte of an operand lies: a port of this device with the address its requests carry and the address Frisket checks,
the home of a homed line, here or on another member, a target of another member by PBR, or the internal space. [DESIGN CHOICE, log 99] -/
inductive PTarget where
  | bulk (port ld addr chk : Nat)
  | line (port ld pbr addr : Nat)
  | far (pbr addr vcs vppb : Nat)
  | inside (addr : Nat)
  | nowhere
  deriving DecidableEq, Repr

/-- The target of an access of an owner. What lies on another member and is bound to no vPPB of the owner goes there as an express request,
which the member serves as the range entry says (06 R156, R165). [DESIGN CHOICE, log 48; DESIGN CHOICE, log 99] -/
def pTarget (s : State) (i sp a : Nat) (dec : Option Nat) : PTarget × State :=
  let n := (fnOfInit s i).map (· / 1024)
  match sp with
  | 0 => match n.bind (upOf s) with
    | some p => (.bulk p 0 a (hostPoint s p), s)
    | none => (.nowhere, s)
  | 3 => (.inside a, s)
  | sp =>
    match (if sp = 1 then some a else dec) with
    | none => (.nowhere, s)
    | some a =>
      if caDev a = ownPos s then
        (if homedHere s a = true then .line (caPort a) (caLd a) 0xFFF a else .bulk (caPort a) (caLd a) a a, s)
      else match n.bind fun n => (vppbFor s n a).map fun v => (n, v) with
        | some (n, v) => (.far (s.val o4110_05 [pVCS n, pV v]) a n v, s)
        | none => match portToward s (caDev a) with
          | some p => (.line p 0 ((freshValue s).1 % 4095) a, (freshValue s).2)
          | none => (.nowhere, s)

/-- Max_Payload_Size below a vPPB: Device Control [7:5]. -/
def mpsBelow (s : State) (n v : Nat) : Nat := 128 * 2 ^ bits (cfgOf s (n * 1024 + 514 + v) .devCtl) 7 5

/-- Max_Payload_Size of the link of a port, or of one LD of it. [DESIGN CHOICE, log 88] -/
def mpsOf (s : State) (port ld : Nat) : Nat :=
  if roleOf s port = 1 then
    match vcsOfUp s port with
    | some n => 128 * 2 ^ bits (cfgOf s (n * 1024 + 512) .devCtl) 7 5
    | none => 128
  else match boundTo s port ld with
    | some (n, v) => mpsBelow s n v
    | none => 128

/-- Where originated reads are cut (12 R357). [DESIGN CHOICE, log 88] -/
def readCut (s : State) (port : Nat) : Nat :=
  let a := s.val o4400_04 [pP port]
  if roleOf s port = 1 then
    match vcsOfUp s port with
    | some n => min a (128 * 2 ^ bits (cfgOf s (n * 1024) .devCtl) 14 12)
    | none => a
  else a

/-- Where reads of a target on another member are cut: at the port they leave by. [DESIGN CHOICE, log 88] -/
def farCut (s : State) (b : Nat) : Nat := ((egressOf s (.pbr b)).map fun e => readCut s e.1).getD 128

/-- The first piece of a span that is cut at multiples of `m`. -/
def firstCut (a len m : Nat) : Nat := if m = 0 then len else min len (m - a % m)

/-- A packet of an originating unit (its quire and origin code): class BLK toward a port, or REQ to the home of its line. `i` is the
initiator. -/
def sendFrom (q code i : Nat) (t : PTarget) (pkt : Packet) (s : State) : Nat × State :=
  let pid := s.gal.nextOrd
  let s := { s with gal := { s.gal with nextOrd := pid + 1 } }
  let x : DSort := { cls := 4, srcq := q, midq := substQuire s (homeQuire pkt.addr), sport := code, orig := true, init := i,
                     tc := pkt.tc.val, stamp := tbNs s % 65536, pid := pid, gen := genAt s (originChecker q code), pkt := pkt }
  match t with
  | .bulk p l _ _ => (pid, askOrigin s (onVc s { x with dport := p, dld := l, dstq := quireOf p }))
  | .line p l b _ =>
    (pid, launchExpress { x with cls := 3, dport := p, dld := l, dstq := quireOf p, dpbr := b, home := b == 0xFFF
                                 pkt := { pkt with inner := true } } s)
  | .far b _ _ _ =>
    match egressOf s (.pbr b) with
    | some e => (pid, askOrigin s { x with dport := e.1, dld := e.2.1, dpbr := b, dstq := quireOf e.1 })
    | none => (pid, s)
  | _ => (pid, s)

/-- A Platen unit's packet. -/
def unitSend (u i : Nat) (t : PTarget) (pkt : Packet) (s : State) : Nat × State := sendFrom (u / 4) (0x10 + u % 4) i t pkt s

/-- The descriptor's first failure keeps its status; the lowest byte not done is kept with it. -/
def failExec (st off : Nat) (e : PExec) : PExec :=
  { e with fail := some (match e.fail with
    | some (k, o) => (k, min o off)
    | none => (st, off)) }

/-- Platen may reach a place of the internal space: a memory whose target is in service, an engine's own only while it does not
run (14 R401). -/
def insideOk (s : State) (a len : Nat) (write : Bool) : Bool :=
  let one := fun b : Nat => match placeOf b with
    | some p => targetState s (targetOf p) == 0 && (match p with
        | .loc c _ => engState s c == 0 || engState s c == 3
        | .shared _ _ => true
        | .sram _ => true
        | .rom _ => !write
        | _ => false)
    | none => false
  one a && one (a + len - 1)

/-- The Frisket check of an access at a unit's issue point (09 R249): none where it is allowed. -/
def unitCheck (u i space a len : Nat) (write scrub : Bool) (s : State) : Bool × State :=
  let r := friskAsk (ckUnit u) i none space a len scrub s
  match r.1 with
  | .allow => (true, r.2)
  | .refuse k pl => (false, friskRefused (ckUnit u) (0x2D0 + u) 3 i space a len k pl write r.2)

/-- Context of one ring's access: unit, ring, owner, traffic class. -/
structure RCtx where
  u : Nat
  r : Nat
  i : Nat
  tc : Nat

/-- Bytes of a piece of data. -/
def slice (data off len : Nat) : Nat := data / 256 ^ off % 256 ^ len

/-- One write of a descriptor: pieces as its target cuts them, until one fails. `off` is the offset in the operand. -/
def issueWrites (c : RCtx) (off len data : Nat) : Nat → PExec → State → PExec × State
  | 0, e, s => (e, s)
  | fuel + 1, e, s =>
    if len = 0 ∨ e.fail.isSome = true then (if len = 0 then e else failExec 4 off e, s)
    else
      let a := dDst e.word + off
      let (t, s) := pTarget s c.i (dasp e.word) a (e.vd.map (· + off))
      match t with
      | .nowhere => (failExec 4 off e, s)
      | .inside a =>
        let (ok, s) := unitCheck c.u c.i 1 a len true false s
        if ¬ ok then (failExec 3 off e, s)
        else if ¬ insideOk s a len true then (failExec 4 off e, s)
        else
          match (heldIn s a len).bind fun g => (Tbl.look none s.net.holds g).map fun h => (g, h) with
          | some (g, h) =>
            let pid := s.gal.nextOrd
            let gal : Galley := { s.gal with nextOrd := pid + 1 }
            let h : GranHold := { h with writes := h.writes ++ [(a, len, slice data 0 len, pid)] }
            let n : Net := { s.net with holds := Tbl.upd none s.net.holds g (some h) }
            ({ e with accs := e.accs ++ [{ pid := pid, off := off, len := len, dst := true, write := true }] },
             { s with gal := gal, net := n })
          | none => (e, spaceWrite a len data s)
      | .line _ _ _ ca =>
        let n := firstCut ca len 64
        let (ok, s) := unitCheck c.u c.i 0 ca n true (dScrub e.word) s
        if ¬ ok then (failExec 3 off e, s)
        else
          let op := if n = 64 then MsgOp.memWr else .memWrPtl
          let (pid, s) := unitSend c.u c.i t { op := op, addr := ca, len := n, data := slice data 0 n, tag := s.gal.nextOrd } s
          issueWrites c (off + n) (len - n) (data / 256 ^ n) fuel
            { e with accs := e.accs ++ [{ pid := pid, off := off, len := n, dst := true, write := true }] } s
      | .bulk p l ca chk =>
        let n := firstCut ca len (mpsOf s p l)
        let (ok, s) := unitCheck c.u c.i 0 chk n true (dScrub e.word) s
        if ¬ ok then (failExec 3 off e, s)
        else
          let (pid, s) := unitSend c.u c.i t { op := .mWr, addr := ca, len := n, data := slice data 0 n, tc := Fin.ofNat 8 c.tc } s
          issueWrites c (off + n) (len - n) (data / 256 ^ n) fuel
            { e with sent := e.sent ++ [{ pid := pid, off := off, len := n, dst := true, write := true, posted := true, dport := p }] } s
      | .far _ ca w v =>
        let n := firstCut ca len (mpsBelow s w v)
        let (ok, s) := unitCheck c.u c.i 0 ca n true (dScrub e.word) s
        if ¬ ok then (failExec 3 off e, s)
        else
          let (pid, s) := unitSend c.u c.i t { op := .mWr, addr := ca, len := n, data := slice data 0 n, tc := Fin.ofNat 8 c.tc } s
          issueWrites c (off + n) (len - n) (data / 256 ^ n) fuel
            { e with sent := e.sent ++ [{ pid := pid, off := off, len := n, dst := true, write := true, posted := true, dport := 128 }] } s

/-! ### Data that is read: CRC and COMPARE (R387) -/

/-- One byte of a CRC computed LSB first with a reflected generator. -/
def crcLsb (g : Nat) : Nat → Nat → Nat
  | 0, c => c
  | k + 1, c => crcLsb g k (if c % 2 = 1 then c / 2 ^^^ g else c / 2)

/-- One byte of a CRC-64 computed MSB first. -/
def crcMsb (g : Nat) : Nat → Nat → Nat
  | 0, c => c
  | k + 1, c => crcMsb g k (if bit c 63 then (2 * c % 2 ^ 64) ^^^ g else 2 * c % 2 ^ 64)

/-- A CRC register after one byte. -/
def crcByte (sel c b : Nat) : Nat :=
  if sel = 2 then crcMsb 0x42F0E1EBA9EA3693 8 (c ^^^ (b * 2 ^ 56))
  else crcLsb (if sel = 0 then 0x82F63B78 else 0xEDB88320) 8 (c ^^^ b)

/-- A CRC register after `n` bytes of data. -/
def crcBytes (sel : Nat) : Nat → Nat → Nat → Nat
  | 0, c, _ => c
  | n + 1, c, d => crcBytes sel n (crcByte sel c (d % 256)) (d / 256)

/-- Pieces of SRC are taken into the CRC in address order. -/
def takeCrc : Nat → PExec → PExec
  | 0, e => e
  | k + 1, e =>
    match takeFirst (fun p : Nat × Nat × Nat => p.1 == e.crcAt) e.src with
    | some ((_, n, d), r) => takeCrc k { e with src := r, crc := crcBytes (dCrc e.word) n e.crc d, crcAt := e.crcAt + n }
    | none => e

/-- The first offset at which two pieces of data differ. -/
def diffAt : Nat → Nat → Nat → Nat → Option Nat
  | 0, _, _, _ => none
  | n + 1, k, a, b => if a % 256 = b % 256 then diffAt n (k + 1) (a / 256) (b / 256) else some k

/-- The lower of two offsets. -/
def minOpt : Option Nat → Option Nat → Option Nat
  | some a, some b => some (min a b)
  | some a, none => some a
  | none, b => b

/-- A new piece of one operand is compared with what has come of the other. -/
def compareWith (o n d : Nat) (others : List (Nat × Nat × Nat)) : Option Nat :=
  others.foldl (fun m p =>
    let lo := max o p.1
    let hi := min (o + n) (p.1 + p.2.1)
    if hi ≤ lo then m
    else minOpt m (diffAt (hi - lo) lo (slice d (lo - o) (hi - lo)) (slice p.2.2 (lo - p.1) (hi - lo)))) none

/-- Data of an operand has been read. -/
def dataRead (c : RCtx) (dst : Bool) (off n d : Nat) (e : PExec) (s : State) : PExec × State :=
  match e.fail with
  | some _ => (failExec 4 off e, s)
  | none =>
    match dOp e.word with
    | 3 =>
      if dst then ({ e with dst := e.dst ++ [(off, n, d)], miss := minOpt e.miss (compareWith off n d e.src) }, s)
      else ({ e with src := e.src ++ [(off, n, d)], miss := minOpt e.miss (compareWith off n d e.dst) }, s)
    | 4 => (takeCrc 4096 { e with src := e.src ++ [(off, n, d)] }, s)
    | _ => issueWrites c off n d (n + 1) e s

/-- Reads of an operand over a span, as its target cuts them, until one fails. -/
def issueReads (c : RCtx) (dst : Bool) (off len : Nat) : Nat → PExec → State → PExec × State
  | 0, e, s => (e, s)
  | fuel + 1, e, s =>
    if len = 0 ∨ e.fail.isSome = true then (if len = 0 then e else failExec 4 off e, s)
    else
      let sp := if dst then dasp e.word else sasp e.word
      let a := (if dst then dDst e.word else dSrc e.word) + off
      let (t, s) := pTarget s c.i sp a ((if dst then e.vd else e.vs).map (· + off))
      match t with
      | .nowhere => (failExec 4 off e, s)
      | .inside a =>
        let (ok, s) := unitCheck c.u c.i 1 a len false false s
        if ¬ ok then (failExec 3 off e, s)
        else if ¬ insideOk s a len false then (failExec 4 off e, s)
        else
          let (d, s) := spaceRead a len s
          dataRead c dst off len d e s
      | .line _ _ _ ca =>
        let n := firstCut ca len 64
        let (ok, s) := unitCheck c.u c.i 0 ca n false false s
        if ¬ ok then (failExec 3 off e, s)
        else
          let (pid, s) := unitSend c.u c.i t { op := .memRd, addr := ca, len := n, tag := s.gal.nextOrd } s
          issueReads c dst (off + n) (len - n) fuel
            { e with accs := e.accs ++ [{ pid := pid, off := off, len := n, dst := dst }] } s
      | .bulk p _ ca chk =>
        let n := firstCut ca len (readCut s p)
        let (ok, s) := unitCheck c.u c.i 0 chk n false false s
        if ¬ ok then (failExec 3 off e, s)
        else
          let (pid, s) := unitSend c.u c.i t
            { op := .mRd, addr := ca, len := n, tc := Fin.ofNat 8 c.tc, tag := s.gal.nextOrd } s
          issueReads c dst (off + n) (len - n) fuel
            { e with accs := e.accs ++ [{ pid := pid, off := off, len := n, dst := dst, dport := p }] } s
      | .far b ca _ _ =>
        let n := firstCut ca len (farCut s b)
        let (ok, s) := unitCheck c.u c.i 0 ca n false false s
        if ¬ ok then (failExec 3 off e, s)
        else
          let (pid, s) := unitSend c.u c.i t
            { op := .mRd, addr := ca, len := n, tc := Fin.ofNat 8 c.tc, tag := s.gal.nextOrd } s
          issueReads c dst (off + n) (len - n) fuel
            { e with accs := e.accs ++ [{ pid := pid, off := off, len := n, dst := dst }] } s

/-! ### Fetch and service (R374, R375, R389) -/

/-- The context of a ring. -/
def ctxOf (s : State) (r : Nat) : RCtx :=
  let w := ringWord s r
  { u := ringUnit w, r := r, i := ringOwner w, tc := ringTc w }

/-- The rings of a unit that a test admits, those after the last one served first. -/
def unitRings (s : State) (u last : Nat) (ok : Nat → Ring → Bool) : List Nat :=
  let l := (s.plat.ring.filter fun e =>
    ringValid (ringWord s e.1) && ringUnit (ringWord s e.1) == u && ok e.1 e.2).map (·.1)
  (l.filter fun r => decide (last < r)) ++ l.filter fun r => decide (r ≤ last)

/-- A unit's own access to its owner's memory outside a descriptor: a fetch or a completion is allowed. -/
def ownAccess (c : RCtx) (inside : Bool) (a len : Nat) (write : Bool) (s : State) : Bool × State :=
  if inside then
    let (ok, s) := unitCheck c.u c.i 1 a len write false s
    (ok && insideOk s a len write, s)
  else match (fnOfInit s c.i).bind fun fn => upOf s (fn / 1024) with
    | some p =>
      let (ok, s) := unitCheck c.u c.i 0 (hostPoint s p) len write false s
      (ok && linkOf s p == 2, s)
    | none => (false, s)

/-- A descriptor is fetched for a ring; `got` is what host memory answers, none where the read fails. [DESIGN CHOICE, log 94] -/
def fetchFor (r : Nat) (got : Option Nat) (s : State) : State :=
  let v := ringOf s r
  let c := ctxOf s r
  let inside := ringInside (ringWord s r)
  let a := v.sqBase + 64 * v.sqHead
  let (ok, s) := ownAccess c inside a 64 false s
  let (w, s) : Option Nat × State :=
    if ¬ ok then (none, s)
    else if inside then (some (spaceRead a 64 s).1, (spaceRead a 64 s).2) else (got.map (· % 2 ^ 512), s)
  match w with
  | none => ringError r (setRing r { ringOf s r with memerr := true } s)
  | some w =>
    setRing r { v with fifo := v.fifo ++ [(w, v.sqHead)], sqHead := (v.sqHead + 1) % sqSize v } s

/-- PLATEN_DESCRIPTOR_FETCH: unit `u` fetches the next descriptor of an active ring with room in its FIFO. [DESIGN CHOICE, log 94] -/
def execPlatenDescriptorFetch (u : Fin 32) (got : Option Nat) (s : State) : Host.Outcome State Fault Refusal :=
  .next <|
    if quireDark s (u.val / 4) then s else
    match unitRings s u.val (Tbl.look 0 s.plat.fetched u.val) fun _ v =>
        v.state == 1 && v.hasFifo && !v.disabling && sqDepth v != 0 && decide (v.fifo.length < 16) with
    | [] => s
    | r :: _ => fetchFor r got { s with plat := { s.plat with fetched := Tbl.upd 0 s.plat.fetched u.val r } }

/-- A descriptor of the ring has bytes whose accesses are still to be issued. -/
def hasWork (e : PExec) : Bool := e.fail.isNone && decide (e.next < dLen e.word)

/-- The ring's next descriptor may start: none of BP, 4 running, or a FENCE, holds it back (R384, R389). -/
def mayStart (v : Ring) : Bool :=
  match v.fifo with
  | [] => false
  | (w, _) :: _ => !v.bp && decide (v.run.length < 4) && (!dFence w || v.run.isEmpty)

/-- The next descriptor starts; an invalid one completes without any access. -/
def startDesc (r : Nat) (s : State) : State :=
  let v := ringOf s r
  match v.fifo with
  | [] => s
  | (w, k) :: rest =>
    let e := startExec w k
    let e := if descInvalid s (ringOwner (ringWord s r)) w then { e with fail := some (2, 0), next := dLen w } else e
    setRing r { v with fifo := rest, run := v.run ++ [e] } s

/-- The PATTERN bytes of a span of a FILL. -/
def fillData (p off : Nat) : Nat → Nat
  | 0 => 0
  | n + 1 => p / 256 ^ (off % 8) % 256 + 256 * fillData p (off + 1) n

/-- One chunk of at most 4 KB of a descriptor: its accesses are issued in ascending address order. -/
def issueChunk (c : RCtx) (e : PExec) (s : State) : PExec × State :=
  let n := min 4096 (dLen e.word - e.next)
  let off := e.next
  let e := { e with next := off + n }
  match dOp e.word with
  | 2 => issueWrites c off n (fillData (dPattern e.word) off n) (n + 1) e s
  | 3 =>
    let (e, s) := issueReads c false off n (n + 1) e s
    issueReads c true off n (n + 1) e s
  | _ => issueReads c false off n (n + 1) e s

/-- The first descriptor with work gets its chunk. -/
def serveRun (c : RCtx) (vs vd : Option Nat) : List PExec → State → List PExec × State
  | [], s => ([], s)
  | e :: rest, s =>
    if hasWork e then
      let (e, s) := issueChunk c { e with vs := vs, vd := vd } s
      (e :: rest, s)
    else
      let (rest, s) := serveRun c vs vd rest s
      (e :: rest, s)

/-- A ring gets one chunk of service. A unit that finds the FIFO it pops empty discards what it got: UNDR, and the ring goes to ERROR (R384). -/
def serveRing (r : Nat) (vs vd : Option Nat) (under : Bool) (s : State) : State :=
  let starts := ((ringOf s r).run.any hasWork) = false ∧ mayStart (ringOf s r) = true ∧ ¬ inStopPress s
  if starts ∧ under then ringError r (setRing r { ringOf s r with undr := true } s) else
  let s := if starts then startDesc r s else s
  let (run, s) := serveRun (ctxOf s r) vs vd (ringOf s r).run s
  setRing r { ringOf s r with run := run } s

/-- The ring a unit serves next: PRIO 1 first, but one chunk in 8 for PRIO 0 while one waits (R375). -/
def nextRing (s : State) (u : Nat) : Option (Nat × Bool) :=
  let work := fun (_ : Nat) (v : Ring) => v.state == 1 && (v.run.any hasWork || (mayStart v && !inStopPress s))
  let l := unitRings s u (Tbl.look 0 s.plat.served u) work
  let hi := l.find? fun r => ringPrio (ringWord s r)
  let lo := l.find? fun r => !ringPrio (ringWord s r)
  match hi, lo with
  | some r, none => some (r, false)
  | none, some r => some (r, true)
  | some h, some r => if 7 ≤ Tbl.look 0 s.plat.guard u then some (r, true) else some (h, false)
  | none, none => none

/-- PLATEN_CHUNK_SERVICE: unit `u` serves one chunk. `v` says where the bridges of the owner's VCS decode the SRC and the DST
of a descriptor in its space V; `under`: a FIFO that should hold a descriptor is found empty. [DESIGN CHOICE, log 24; DESIGN CHOICE, log 99] -/
def execPlatenChunkService (u : Fin 32) (v : Option Nat × Option Nat) (under : Bool) (s : State) : Host.Outcome State Fault Refusal :=
  .next <|
    if quireDark s (u.val / 4) then s else
    match nextRing s u.val with
    | none => s
    | some (r, low) =>
      let lowWaits := !(unitRings s u.val 0 fun k v =>
        v.state == 1 && (v.run.any hasWork || (mayStart v && !inStopPress s)) && !ringPrio (ringWord s k)).isEmpty
      let g := if low ∨ ¬ lowWaits then 0 else Tbl.look 0 s.plat.guard u.val + 1
      serveRing r v.1 v.2 under { s with plat := { s.plat with
        served := Tbl.upd 0 s.plat.served u.val r, guard := Tbl.upd 0 s.plat.guard u.val g } }

/-! ### Answers (R389) -/

/-- An answer to an access of a descriptor. -/
def answerExec (c : RCtx) (x : DSort) (a : PAcc) (e : PExec) (s : State) : PExec × State :=
  let rest := e.accs.filter fun b => b.pid != a.pid
  let p := x.pkt
  if a.write then (if p.err then failExec 4 a.off { e with accs := rest } else { e with accs := rest }, s)
  else if p.op = .cmp ∨ p.op = .cmpS ∨ p.op = .cmpE then (e, s)
  else if p.poison ∨ x.poison = true then (failExec 5 (a.off + a.got) { e with accs := rest }, s)
  else if p.err ∨ p.status ≠ 0 ∨ p.op = .cpl ∨ p.op = .memDataNXM then (failExec 4 (a.off + a.got) { e with accs := rest }, s)
  else
    let n := min (if p.op.cls = 4 then p.len else a.len) (a.len - a.got)
    let done := decide (a.len ≤ a.got + n) || p.last
    let accs := if done then rest else e.accs.map fun b => if b.pid = a.pid then { b with got := b.got + n } else b
    let e := { e with accs := accs }
    let e := if done ∧ a.got + n < a.len then failExec 4 (a.off + a.got + n) e else e
    dataRead c a.dst (a.off + a.got) n (p.data % 256 ^ n) e s

/-- The descriptor of a list that waits for a packet takes its answer. -/
def answerRun (c : RCtx) (x : DSort) : List PExec → State → Option (List PExec × State)
  | [], _ => none
  | e :: rest, s =>
    match e.accs.find? fun a => a.pid == x.pid with
    | some a =>
      let (e, s) := answerExec c x a e s
      some (e :: rest, s)
    | none => (answerRun c x rest s).map fun r => (e :: r.1, r.2)

/-- The ring that waits for a packet. -/
def ringWaits (s : State) (pid : Nat) : Option Nat :=
  (s.plat.ring.find? fun e =>
    (e.2.run.any fun x => x.accs.any (·.pid == pid)) || e.2.left.any (·.pid == pid)).map (·.1)

/-- PLATEN_ACCESS_RESPONSE: the oldest answer at unit `u`; one that nothing waits for is discarded. -/
def execPlatenAccessResponse (u : Fin 32) (s : State) : Host.Outcome State Fault Refusal :=
  .next <|
    match takeFirst (fun t : TSort => t.x.orig && t.x.srcq == u.val / 4 && t.x.sport == 0x10 + u.val % 4) s.stg.toUnit with
    | none => s
    | some (t, rest) =>
      let s := { s with stg := { s.stg with toUnit := rest } }
      match ringWaits s t.x.pid with
      | none => s
      | some r =>
        let v := ringOf s r
        match answerRun (ctxOf s r) t.x v.run s with
        | some (run, s) => setRing r { ringOf s r with run := run } s
        | none => setRing r { v with left := v.left.filter fun a => a.pid != t.x.pid } s

/-! ### Completions (R391, Table PLT-8) -/

/-- Every access of a descriptor is over, and each posted write is ahead in the record's own stream or has been sent
(12 R359). [DEDUCED, log 97] -/
def execDone (s : State) (inside : Bool) (up : Option Nat) (e : PExec) : Bool :=
  e.accs.isEmpty && !hasWork e
  && e.sent.all fun a => (!inside && up == some a.dport) || !pidInside s a.pid

/-- The status of a descriptor that is over. -/
def execStatus (e : PExec) : Nat :=
  match e.fail with
  | some (k, _) => k
  | none => if dOp e.word = 3 ∧ e.miss.isSome then 1 else 0

/-- RESULT: as Table PLT-7; of a COMPARE, a CRC or a reserved operation that failed none is stated: a free value. [DESIGN CHOICE, log 98] -/
def execResult (e : PExec) (s : State) : Nat × State :=
  let op := dOp e.word
  let zero := decide (op = 1) || decide (op = 2) || decide (op = 5) || decide (op = 6)
  if zero then (0, s)
  else if e.fail.isSome then ((freshValue s).1 % 2 ^ 64, (freshValue s).2)
  else if op = 3 then (e.miss.getD (2 ^ 64 - 1), s)
  else (if dCrc e.word = 2 then e.crc else e.crc ^^^ (2 ^ 32 - 1), s)

/-- The completion record. -/
def execRecord (v : Ring) (e : PExec) (res time : Nat) : Nat :=
  let done := match e.fail with
    | some (_, o) => o
    | none => dLen e.word
  bits e.word 495 480 * 2 ^ 240 + e.idx % 2 ^ 16 * 2 ^ 224 + execStatus e * 2 ^ 220 + b2n v.phase * 2 ^ 219
    + res * 2 ^ 128 + done % 2 ^ 32 * 2 ^ 96 + time % 2 ^ 64

/-- A record goes to the CQ: none where the write fails. [DEDUCED, log 97] -/
def writeRecord (r rec_ : Nat) (s : State) : Bool × State :=
  let v := ringOf s r
  let c := ctxOf s r
  let inside := ringInside (ringWord s r)
  let a := v.cqBase + 32 * v.cqTail
  let (ok, s) := ownAccess c inside a 32 true s
  if ¬ ok then (false, s)
  else if inside then (true, spaceWrite a 32 rec_ s)
  else match (fnOfInit s c.i).bind fun fn => upOf s (fn / 1024) with
    | some p => (true, (unitSend c.u c.i (.bulk p 0 a 0) { op := .mWr, addr := a, len := 32, data := rec_, tc := Fin.ofNat 8 c.tc } s).2)
    | none => (false, s)

/-- The oldest descriptor of a ring completes once it is over. [DEDUCED, log 97] -/
def completeRing (r : Nat) (s : State) : State :=
  let v := ringOf s r
  let w := ringWord s r
  let up := (fnOfInit s (ringOwner w)).bind fun fn => upOf s (fn / 1024)
  match v.run with
  | [] => s
  | e :: rest =>
    if (v.state ≠ 1 ∧ v.state ≠ 2) ∨ ¬ execDone s (ringInside w) up e
      ∨ (ringInside w = true ∧ (heldIn s (v.cqBase + 32 * v.cqTail) 32).isSome = true) then s
    else
      let (res, s) := execResult e s
      let (ok, s) := writeRecord r (execRecord v e res (tbNs s)) s
      if ¬ ok then ringError r (setRing r { ringOf s r with memerr := true } s)
      else
        let v := ringOf s r
        let t := (v.cqTail + 1) % cqSize v
        let s := setRing r { v with run := rest, cqTail := t, phase := if t = 0 then !v.phase else v.phase } s
        let s := settleCq r (s.bump o8000_05 [pRI r] 1)
        let s := if dIrq e.word then ringInterrupt r s else s
        settleDisable r (settleFifo r s)

/-- DESCRIPTOR_COMPLETE. -/
def execDescriptorComplete (r : Fin 65536) (s : State) : Host.Outcome State Fault Refusal :=
  .next (if quireDark s (r.val / 8192) then s else completeRing r.val s)

/-! ### Squash and drain (R392, R393) -/

/-- 1 is written to 0x8000.06; a host writes that of the rings of its own functions (15 Table ODX-5). -/
def ringSquash (role : Role) (r v : Nat) (s : State) : Status × State :=
  let mine : Bool := match role with
    | .host n => (viewVcs s (ringWord s r)).contains n.val
    | _ => true
  if ¬ mine then (.refused, s)
  else if v ≠ 1 then (if v = 0 then (.ok, s) else (.refused, s)) else (.ok, squashRing r s)

/-- RING_SQUASH. -/
def execRingSquash (role : Role) (r : Fin 65536) (v : Nat) (s : State) : Host.Outcome State Fault Refusal :=
  .next (answered (managed role o8000_06 [pRI r.val] (ringSquash role r.val v) s))

/-- A squashed ring is drained: nothing it issued is under way; at 5 ms its reads are detached, and a write still in the device is
residue, told once for the reset of an initiator's rings (R393). The owner-set configuration is at its reset values, and a new assignment takes effect. -/
def drainRing (r : Nat) (s : State) : State :=
  let v := ringOf s r
  if v.state ≠ 5 then s
  else
    let stuck := v.left.filter fun a => if a.write then pidInside s a.pid else true
    let i := ringOwner (ringWord s r)
    let s := if stuck.isEmpty then s else advanceTo (v.squashAt + ms 5) s
    let s := if stuck.any (·.write) ∧ Tbl.look none s.plat.residue i ≠ some v.squashAt then
        raiseFault (0x2D0 + ringUnit (ringWord s r)) 0x40 (ctxInit i) (s.bump o8020_02 [pIN i] 1) else s
    let s := if stuck.any (·.write) then
        { s with plat := { s.plat with residue := Tbl.upd none s.plat.residue i (some v.squashAt) } } else s
    let s := setRing r {} s
    match v.assign with
    | some w => applyAssign r w s
    | none => s

/-- RING_DRAIN_COMPLETE. -/
def execRingDrainComplete (r : Fin 65536) (s : State) : Host.Outcome State Fault Refusal := .next (drainRing r.val s)

/-- Sorts issued by an initiator's rings that are still in the device (0x8020.01): between issue and link, or held at a home. -/
def platenSorts (s : State) (i : Nat) : Nat :=
  let mine := fun x : DSort => x.orig && decide (0x10 ≤ x.sport) && decide (x.sport < 0x14) && x.init == i
  ((allSorts s).filter mine).length
  + (s.gal.orig.map fun e => ((e.2.filter mine).map (·.pkt.sorts)).sum).sum
  + (s.home.lines.map fun e => (e.2.reqs.filter fun h => mine h.x).length).sum

end Sys2Proof.Machine
end

