-- ==== Sys2Proof/Machine/Impose.lean ====
section
/-!
DEFINITION. Imposition windows (12 R352-R355, 14 R400): the window entry, the translation of an access and its packets, and the
draining of a window that is turned off.
-/
namespace Sys2Proof.Machine

/-! ### The window entry (Table HST-9) -/

def winTarget (w : Nat) : Nat := bits w 127 64
def winBase (w : Nat) : Nat := bits w 63 32 * 4096
def winSize (w : Nat) : Nat := bits w 31 26
def winOkind (w : Nat) : Nat := bits w 25 24
def winOnum (w : Nat) : Nat := bits w 23 16
def winRead (w : Nat) : Bool := bit w 15
def winWrite (w : Nat) : Bool := bit w 14

def winOf (s : State) (k : Nat) : Nat := s.val o4410_01 [pIW k]

/-- Two windows of one owner overlap. -/
def winOverlap (a b : Nat) : Bool :=
  winOkind a == winOkind b && winOnum a == winOnum b
  && decide (winBase a < winBase b + 2 ^ winSize b) && decide (winBase b < winBase a + 2 ^ winSize a)

/-- A write of an entry that R352 refuses. -/
def winFaulty (s : State) (boot : Bool) (k w : Nat) : Bool :=
  let n := winSize w
  let ok := winOkind w
  decide (n < 12) || decide (44 < n) || (ok == 1 && decide (40 < n))
  || (ok == 1 && decide (63 < winOnum w)) || (ok == 2 && decide (191 < winOnum w)) || (ok == 3 && !boot)
  || (decide (16 ≤ s.val o4200_01 []) && caDev (winTarget w) != 0)
  || winTarget w % 2 ^ n != 0 || winBase w % 2 ^ n != 0
  || (ok == 1 && (s.val o4400_01 [pVCS (winOnum w)] == 0
      || decide (2 ^ s.val o4400_01 [pVCS (winOnum w)] < winBase w + 2 ^ n)))
  || (s.listed o4410_01).any fun e => elemAt e.1 0 != k && winOkind e.2 != 0 && winOverlap e.2 w

/-- Posted writes of accesses that have left the device are struck off; an access with nothing under way is over. -/
def pruneImp (s : State) : State :=
  s.net.imp.foldl (fun s e => match e.2 with
    | some w =>
      let w := { w with sent := w.sent.filter fun a => pidInside s a.pid }
      match w.who with
      | .line _ | .debug => setImp e.1 (some w) s
      | _ => if w.parts.isEmpty ∧ w.sent.isEmpty then setImp e.1 none s else setImp e.1 (some w) s
    | none => s) s

/-- An access through window `k` is under way. -/
def winBusy (s : State) (k : Nat) : Bool :=
  s.net.imp.any fun e => match e.2 with
    | some w => w.window == k && !(w.parts.isEmpty && w.sent.isEmpty)
    | none => false

/-- The content that a window gives a VCS's Imprint table changes (R351). -/
def winChange (old new : Nat) (s : State) : State :=
  let s := if winOkind old = 1 then imprintChange (winOnum old) s else s
  if winOkind new = 1 ∧ ¬ (winOkind old = 1 ∧ winOnum old = winOnum new) then imprintChange (winOnum new) s else s

/-- A write of an Imposition entry (R352, R355): an entry in use is changed only by turning it off; the answer to that write waits
until the window's accesses are over (none: no answer yet). -/
def windowEntry (boot : Bool) (k v : Nat) (s : State) : Option Status × State :=
  let v := v / 2 ^ 14 % 2 ^ 114 * 2 ^ 14
  let old := winOf s k
  if s.val o4410_02 [pIW k] = 2 then (some .busy, s)
  else if winOkind v = 0 then
    let s := winChange old v (s.put o4410_01 [pIW k] v)
    if winOkind old = 0 then (some .ok, s)
    else
      let s := pruneImp s
      if winBusy s k then (none, s.put o4410_02 [pIW k] 2) else (some .ok, s.put o4410_02 [pIW k] 0)
  else if winOkind old ≠ 0 ∨ winFaulty s boot k v = true then (some .refused, s)
  else (some .ok, winChange old v ((s.put o4410_01 [pIW k] v).put o4410_02 [pIW k] 1))

/-- Windows whose accesses are over finish draining, and the writes that turned them off are answered; of a write in a message or by an
engine, whoever holds its answer sends it. -/
def settleWindows (s : State) : State :=
  let s := pruneImp s
  ((s.listed o4410_02).filter fun e => e.2 == 2).foldl (fun s e =>
    let k := elemAt e.1 0
    if winBusy s k then s
    else if s.ads.late.contains k then { s.put o4410_02 [pIW k] 0 with ads := { s.ads with late := s.ads.late.filter (· != k) } }
    else answer .ok none (s.put o4410_02 [pIW k] 0)) s

/-! ### Translation and packets (R353, R356, R357) -/

/-- The window of an owner that covers an offset. -/
def windowAt (s : State) (okind onum off : Nat) : Option (Nat × Nat) :=
  ((s.listed o4410_01).find? fun e =>
    winOkind e.2 == okind && winOnum e.2 == onum && decide (winBase e.2 ≤ off) && decide (off < winBase e.2 + 2 ^ winSize e.2)).map
    fun e => (elemAt e.1 0, e.2)

/-- The composite address of an offset in a window. -/
def winAddr (w off : Nat) : Nat := winTarget w + (off - winBase w)

/-- The quire of an Imposition path: that of the target port. [DEDUCED, log 89] -/
def impQuire (a : Nat) : Nat := quireOf (caPort a)

/-- The packets of a checked access, from offset `off` on, as their targets cut them. [DEDUCED, log 90] -/
def issueImp (q i a : Nat) : Nat → Nat → Nat → Nat → ImpWait → State → ImpWait × State
  | 0, _, _, _, w, s => (w, s)
  | fuel + 1, off, len, data, w, s =>
    if len = 0 then (w, s) else
    let (t, s) := pTarget s i 1 (a + off) none
    match t with
    | .line _ _ _ ca =>
      let n := firstCut ca len 64
      let op := if ¬ w.write then MsgOp.memRd else if n = 64 then .memWr else .memWrPtl
      let pk : Packet := { op := op, addr := ca, len := n, data := if w.write then data % 256 ^ n else 0, tag := s.gal.nextOrd }
      let (pid, s) := sendFrom q 0x14 i t pk s
      issueImp q i a fuel (off + n) (len - n) (data / 256 ^ n)
        { w with parts := w.parts ++ [{ pid := pid, off := off, len := n, write := w.write }] } s
    | .bulk p l ca _ =>
      let n := firstCut ca len (if w.write then mpsOf s p l else readCut s p)
      let pk : Packet := { op := if w.write then .mWr else .mRd, addr := ca, len := n, data := if w.write then data % 256 ^ n else 0,
                           tag := s.gal.nextOrd }
      let (pid, s) := sendFrom q 0x14 i t pk s
      let acc : PAcc := { pid := pid, off := off, len := n, write := w.write, posted := w.write, dport := p }
      issueImp q i a fuel (off + n) (len - n) (data / 256 ^ n)
        (if w.write then { w with sent := w.sent ++ [acc] } else { w with parts := w.parts ++ [acc] }) s
    | .far b ca n v =>
      let n := firstCut ca len (if w.write then mpsBelow s n v else farCut s b)
      if (egressOf s (.pbr b)).isNone then (failImp 1 w, s) else
      let pk : Packet := { op := if w.write then .mWr else .mRd, addr := ca, len := n, data := if w.write then data % 256 ^ n else 0,
                           tag := s.gal.nextOrd }
      let (pid, s) := sendFrom q 0x14 i t pk s
      let acc : PAcc := { pid := pid, off := off, len := n, write := w.write, posted := w.write, dport := 128 }
      issueImp q i a fuel (off + n) (len - n) (data / 256 ^ n)
        (if w.write then { w with sent := w.sent ++ [acc] } else { w with parts := w.parts ++ [acc] }) s
    | _ => (failImp 1 w, s)

/-- What the path answers to an access. [DEDUCED, log 89] -/
inductive ImpStart where
  /-- No window, a forbidden direction, or a quire whose path is out of service. -/
  | miss
  /-- Frisket refused it. -/
  | refused
  /-- It is under way, under this number. -/
  | under (k : Nat)
  deriving DecidableEq, Repr

/-- An access at an offset of an owner's BAR4 or aperture: translated, checked once as a whole, and sent. [DEDUCED, log 89; DEDUCED, log 90] -/
def startImp (okind onum i off len : Nat) (write : Bool) (data addr : Nat) (who : ImpWho) (s : State) : ImpStart × State :=
  match windowAt s okind onum off with
  | none => (.miss, s)
  | some (k, w) =>
    let a := winAddr w off
    let q := impQuire a
    if (if write then !winWrite w else !winRead w) = true ∨ winBase w + 2 ^ winSize w < off + len
      ∨ s.val o9050_01 [pQ q] = 1 ∨ s.val oD060_02 [pQ q] = 2 ∨ s.val o7040_02 [pQ q] ≠ 0 then (.miss, s)
    else
      let (v, s) := friskAsk (ckImp q) i none 0 a len false s
      match v with
      | .refuse r pl => (.refused, friskRefused (ckImp q) (if i = 0x1920 then 0x2FC else 0x510 + q) 4 i 0 a len r pl write s)
      | .allow =>
        let id := s.net.nextPid
        let s := { s with net := { s.net with nextPid := id + 1 } }
        let (x, s) := issueImp q i a (len + 1) 0 len data { window := k, who := who, addr := addr, len := len, write := write } s
        (.under id, settleImp id x s)

/-! ### BAR4 (R353, R354) -/

/-- A host request of BAR4 at an offset: translated, or Unsupported Request where no window serves it; a refusal of Frisket is
answered as for the host's TLP (09 Table FRK-5). Each shows in the management function's AER. -/
def bar4Access (n : Nat) (p : Packet) (s : State) : State :=
  match upOf s n with
  | none => s
  | some port =>
    if linkOf s port ≠ 2 ∨ (p.op ≠ .mRd ∧ p.op ≠ .mWr) then s
    else
      let unsup := fun s => failRead port 1 p (setAer (some (n * 1024)) 20 p s)
      if inD3 s (n * 1024) ∨ flrRuns s (n * 1024) = true then unsup s
      else
        let len := max p.len 1
        match startImp 1 n n p.addr len (p.op == .mWr) p.data p.addr (.host { p with len := len } port) (pruneImp s) with
        | (.miss, s) => unsup s
        | (.refused, s) => failRead port 4 p (setAer (some (n * 1024)) 15 p s)
        | (.under _, s) => s

/-- BAR4_ACCESS: the host of VCS `n` reads or writes BAR4 at offset `p.addr`. -/
def execBar4Access (n : Fin 64) (p : Packet) (s : State) : Host.Outcome State Fault Refusal :=
  .next (if s.flag o4100_02 [pVCS n.val] then bar4Access n.val p s else s)

/-- IMPOSITION_WINDOW_OFF: OKIND 0b00 is written to a window, with its other fields; the answer comes when its accesses are over. -/
def execImpositionWindowOff (role : Role) (k : Fin 4096) (v : Nat) (s : State) : Host.Outcome State Fault Refusal :=
  .next <|
    match writeGate role o4410_01 [pIW k.val] s with
    | some st => answer st none s
    | none =>
      match windowEntry (role == .boot) k.val (setBits v 25 24 0) s with
      | (some st, s) => answer st none s
      | (none, s) => s

end Sys2Proof.Machine
end

