-- ==== Sys2Proof/Machine/Home.lean ====
section
/-!
DEFINITION. The home (06) and the flows of its directory (07): transactions, writes, snoops by unicast and by ring, timers,
poison and isolation, recalls, evictions, demotions, sweeps and the rebuild.
-/
namespace Sys2Proof.Machine

/-! ### Parts of the state -/

def lineOf (s : State) (l : Nat) : HLine := Tbl.look {} s.home.lines l

def setLn (l : Nat) (v : HLine) (s : State) : State :=
  { s with home := { s.home with lines := Tbl.upd {} s.home.lines l v } }

def opsOf (s : State) (q : Nat) : List SnoopOp := Tbl.look [] s.home.ops q

def setOps (q : Nat) (l : List SnoopOp) (s : State) : State :=
  { s with home := { s.home with ops := Tbl.upd [] s.home.ops q l } }

def wbufOf (s : State) (q : Nat) : List WBuf := Tbl.look [] s.home.wbuf q

def setWbuf (q : Nat) (l : List WBuf) (s : State) : State :=
  { s with home := { s.home with wbuf := Tbl.upd [] s.home.wbuf q l } }

def kickLine (l : Nat) (s : State) : State := { s with home := { s.home with kick := s.home.kick ++ [l] } }

def newId (s : State) : Nat × State := (s.home.nextId, { s with home := { s.home with nextId := s.home.nextId + 1 } })

/-- The lines of a region that have requests, kicked so that their heads may begin. -/
def kickRegion (q a : Nat) (s : State) : State :=
  (s.home.lines.filter fun e => e.1 / 64 == a / 4096 && e.2.q == q).foldl (fun s e => kickLine e.1 s) s

/-! ### Sorts at the home (06 R161, R162) -/

/-- A sort ends at the home: one looked up on its way gives its class credit back. -/
def absorb (x : DSort) (s : State) : State := if x.home then s else returnCredit x.srcq x.midq x.cls s

/-- A sort looked up on its way goes on to its port: it passes the stage queue, ready for stage 2 11 ns later (01 Table ARC-7). -/
def goOn (q : Nat) (x : DSort) (s : State) : State := pushSort (stageRef q x.dport x.cls) (s.clk.now + ns 11) x s

/-- A message of the home to a requester: its port, over Folio by its PBR ID, or the unit that asked. -/
def answerTo (q : Nat) (x : DSort) (pk : Packet) (s : State) : State :=
  if x.orig then sendOrigin (forUnit x (homeSort s q (if x.trace then some x.traceid else none) pk)) s
  else
    let d := replyPort s x.sport x.spbr
    homeSend q d x.pkt.ld.val x.dpbr x.spbr 0 (if x.trace then some x.traceid else none)
      { pk with dst := some (Fin.ofNat 128 d) }
      (if x.trace then stamp x.traceid 0xE q s else s)

/-- A completion of a request. -/
def completion (x : DSort) (op : MsgOp) : Packet := { x.pkt with op := op, len := 0, data := 0, poison := false, err := false }

/-- An answer of the home for a line waits in the launch queue of its port's class: a later one goes behind it (06 R180). -/
def answerWaits (s : State) (q port l c : Nat) : Bool :=
  let mine := fun y : DSort => y.hown && y.dport == port && y.pkt.addr / 64 == l
  let k := creditKey q q c
  (Tbl.look [] s.stg.expQ k).any mine || (Tbl.look [] s.stg.expWait k).any mine

/-- What a device answered goes on to the requester (06 Table COH-7): the sort itself, unless an answer of the home must leave first. -/
def passOn (q : Nat) (x d : DSort) (s : State) : State :=
  if x.orig ∨ d.home = true ∨ answerWaits s q (replyPort s x.sport x.spbr) (x.pkt.addr / 64) d.cls = true then answerTo q x { d.pkt with tag := x.pkt.tag } (absorb d s)
  else
    let r := replyPort s x.sport x.spbr
    goOn q { d with
      dport := r, dld := x.pkt.ld.val, dstq := quireOf r, dpbr := x.spbr, trace := x.trace, traceid := x.traceid
      hid := 0, pkt := { d.pkt with tag := x.pkt.tag, dst := some (Fin.ofNat 128 r) } } s

/-- A request is refused with the responses of R54: poison for a read, an error response for a write. -/
def refuseHome (q : Nat) (x : DSort) (s : State) : State :=
  absorb x ((failAnswers .completerAbort x.pkt).foldl (fun s a => answerTo q x a s) s)

/-- A request goes on to the device, and its answer comes back to the home (06 R168). -/
def forwardReq (q : Nat) (x : DSort) (id : Nat) (s : State) : State :=
  goOn q { x with fromHome := true, hid := id, home := false } s

/-! ### The write buffer (06 R169, R170) -/

/-- A buffered write leaves once its port's DAT egress queue has an entry for it. [DEDUCED, log 50] -/
def sendWrite (q : Nat) (s : State) (w : WBuf) : State :=
  if w.sent ∨ ¬ egressFree s w.x.dport 1 then s else
  forwardReq q w.x w.hid (setWbuf q ((wbufOf s q).map fun v => if v.hid = w.hid then { v with sent := true } else v) s)

/-- A line that waits is written to the memory device with the poison bit set (06 R185), once its port's DAT egress queue has an entry. -/
def sendPoison (q : Nat) (s : State) (l : Nat) : State :=
  let a := l * 64
  if ¬ egressFree s (caPort a) 1 then s else
  let (id, s) := newId s
  let pk : Packet := { op := .memWr, addr := a, len := 64, poison := true, ld := Fin.ofNat 16 (caLd a), tag := id }
  let x : DSort := { cls := 1, srcq := q, midq := q, dport := caPort a, dld := caLd a, orig := true, hown := true, poison := true, pkt := pk }
  setWbuf q (wbufOf s q ++ [{ hid := id, line := l, x := x, sent := true }])
    { s with home := { s.home with toPoison := Tbl.mod [] s.home.toPoison q (·.filter (· != l)) } }
  |> homeSend q x.dport x.dld 0xFFF 0xFFF id none pk

/-- The writes of a home leave: those of its write buffer, then poison. -/
def sendWrites (q : Nat) (s : State) : State :=
  let s := (wbufOf s q).foldl (sendWrite q) s
  (Tbl.look [] s.home.toPoison q).foldl (sendPoison q) s

/-- A line is to be written with the poison bit set. -/
def poisonLine (q a : Nat) (s : State) : State :=
  let t := Tbl.mod [] s.home.toPoison q (fun l => (l.filter (· != a / 64)) ++ [a / 64])
  sendWrites q { s with home := { s.home with toPoison := t } }

/-- A full-line write of a line takes the place of a poison write that has not left. -/
def unpoison (q : Nat) (p : Packet) (s : State) : State :=
  if p.op = .memWr then
    { s with home := { s.home with toPoison := Tbl.mod [] s.home.toPoison q (·.filter (· != p.addr / 64)) } }
  else s

/-- Data that waits at the home for a line: poison, or the last write (06 R170, R185). [DEDUCED, log 50] -/
def heldFor (s : State) (q l : Nat) : Option Packet :=
  if (Tbl.look [] s.home.toPoison q).contains l then
    let p : Packet := { op := .memWr, poison := true }
    some p
  else (((wbufOf s q).filter (·.line == l)).getLast?).map (·.x.pkt)

def poisonLines (q a n : Nat) (s : State) : State :=
  (List.range n).foldl (fun s j => poisonLine q (a + 64 * j) s) s

/-! ### Snoops (06 R174-R178, R185, R190) -/

/-- A snoop to one slot: to its upstream port, or over Folio by the PBR ID of its VCS. A slot that is ABSENT or ISOLATED, or whose VCS has no
upstream port or no ID, is sent none (R177, R190). [DESIGN CHOICE, log 48] -/
def sendSnoop (q dom tag : Nat) (op : MsgOp) (a n : Nat) (s : State) : State :=
  if homeView s dom n = 1 ∨ homeView s dom n = 3 then s else
  let pk : Packet := { op := op, addr := a, tag := tag }
  let w := slotWord s dom n
  if bits w 11 8 = ownPos s then
    match slotPort s dom n with
    | some p => homeSend q p 0 0xFFF 0xFFF 0 none pk s
    | none => s
  else
    let b := Tbl.look 0xFFF s.forme.vcsIds (64 * bits w 11 8 + bits w 5 0)
    let e := s.val o4180_01 [pPBR b]
    if b < 0xFFF ∧ bit e 31 = true ∧ bit e 30 = false then homeSend q (routePort s e) 0 0xFFF b 0 none pk s else s

/-- The timer of a snoop to a slot. -/
def biTimer (s : State) (dom : Nat) : Nat := s.clk.now + us (s.val o5022_01 [pDOM dom])

/-- Slots of a mask that may be snooped: an ISOLATED slot is not (R190). -/
def snoopable (s : State) (dom mask : Nat) : List Nat := (slotsOf mask).filter fun n => homeView s dom n != 3

/-- Evictions and demotions in progress (07 R211). [DEDUCED, log 63] -/
def evictsOf (s : State) (q : Nat) : List SnoopOp :=
  (opsOf s q).filter fun o => match o.why with
    | .evict _ | .demote .. => true
    | _ => false

/-- The home's own operations, oldest first: those of a line belong to its transaction. The first 128 are in the internal tracker (06 Table
COH-4). [DEDUCED, log 63] -/
def internalOps (s : State) (q : Nat) : List SnoopOp :=
  (opsOf s q).filter fun o => match o.why with
    | .line _ => false
    | _ => true

/-- Entries of the internal tracker in use. -/
def internalUsed (s : State) (q : Nat) : Nat := min 128 (internalOps s q).length

/-- Snoop answer slots held by evictions, demotions and recalls (07 R211). -/
def slotsHeld (s : State) (q : Nat) : Nat :=
  ((opsOf s q).map fun o => match o.why with
    | .evict _ | .demote .. | .recallOf .. => o.waits.length
    | _ => 0).sum

/-- An operation may issue snoops for `n` more answers: it is in its tracker, and the answer slots are there (06 Table COH-4, 07 R211). -/
def answerSlots (s : State) (q : Nat) (o : SnoopOp) (n : Nat) : Bool :=
  let total := ((opsOf s q).map (·.waits.length)).sum
  let tracked := match o.why with
    | .line _ => true
    | _ => ((internalOps s q).take 128).any (·.id == o.id)
  tracked && decide (total + n ≤ 4096) &&
  (match o.why with
  | .evict _ | .demote .. | .recallOf .. => decide (slotsHeld s q + n ≤ 2048)
  | _ => true)

/-- An operation with a changed list of answers. -/
def setOp (q : Nat) (o : SnoopOp) (s : State) : State :=
  setOps q ((opsOf s q).map fun v => if v.id = o.id then o else v) s

/-- The tag of a message of an operation: each has its own, which its answers carry (03 R91). -/
def snoopTag (o : SnoopOp) (k : Nat) : Nat := o.id + 2 ^ 32 * k

/-- The next unicast snoop of an operation is issued, with its timer, once an answer slot is there (R174, R185). -/
def issueOne (q id : Nat) (s : State) (_ : Nat × Nat) : State :=
  match (opsOf s q).find? (·.id == id) with
  | none => s
  | some o =>
    match o.todo with
    | [] => s
    | t :: r =>
      if ¬ answerSlots s q o 1 then s else
      setOp q { o with todo := r, sent := o.sent + 1, waits := o.waits ++ [{ slot := t.1, addr := t.2, until_ := biTimer s o.dom }] } s
      |> sendSnoop q o.dom (snoopTag o o.sent) o.msg t.2 t.1

/-- Unicast snoops that wait for answer slots are issued. -/
def issueUnicast (q : Nat) (s : State) : State :=
  (opsOf s q).foldl (fun s o => o.todo.foldl (issueOne q o.id) s) s

/-- Unicast snoops, one to each target at its address (R174). -/
def unicastOp (q dom : Nat) (op : MsgOp) (why : SnoopFor) (ts : List (Nat × Nat)) (s : State) : Nat × State :=
  let (id, s) := newId s
  let o : SnoopOp := { id := id, dom := dom, msg := op, why := why, base := 0, count := 0, mask := 0, todo := ts }
  (id, ts.foldl (issueOne q id) (setOps q (opsOf s q ++ [o]) s))

/-- A ring operation begins: its messages are injected as ring positions pass (R175). -/
def ringOp (q dom : Nat) (op : MsgOp) (why : SnoopFor) (base count : Nat) (wide : Bool) (mask : Nat) (s : State) :
    Nat × State :=
  let (id, s) := newId s
  let o : SnoopOp := { id := id, dom := dom, msg := op, why := why, base := base, count := if mask = 0 then 0 else count
                       wide := wide, mask := mask }
  (id, setOps q (opsOf s q ++ [o]) s)

def SnoopOp.done (o : SnoopOp) : Bool := o.next == o.count && o.waits.isEmpty && o.todo.isEmpty

/-- The operations of a kind that have all their answers, oldest first. -/
def firstDone (s : State) (q : Nat) (p : SnoopFor → Bool) : Option SnoopOp :=
  (opsOf s q).find? fun o => SnoopOp.done o && p o.why

def dropOp (q id : Nat) (s : State) : State := setOps q ((opsOf s q).filter (·.id != id)) s

/-! ### Fallback and removal of a slice (07 Table DIR-4) -/

/-- FALLBACK of every homed range entry. -/
def setFallback (on : Bool) (s : State) : State :=
  (s.listed o5020_01).foldl (fun s e =>
    let p := [pRG (elemAt e.1 0)]
    if rangeMode e.2 = 1 ∧ ¬ converting s (elemAt e.1 0) then
      (s.put o5020_01 p (setBits e.2 1 1 (b2n on))).put o5020_02 p (if ¬ on then 1 else if s.val o5020_02 p = 2 then 2 else 3)
    else s) (if on then s else { s with home := { s.home with reconv := [] } })

/-- The arrays are discarded and the slice is OUT; requests that waited for an entry, a recall, an eviction, a demotion or the rebuild are
looked up again. -/
def emptySlice (q : Nat) (s : State) : State :=
  let s := (clearSlice q s).put o5100_01 [pQ q] 2 |>.put o5100_05 [pQ q] 0
  let s : State := { s with dir := { s.dir with
    wait := s.dir.wait.filter fun e => e.1 / 16384 != q
    rebuild := Tbl.upd none s.dir.rebuild q none } }
  (s.home.lines.filter fun e => e.2.q == q && !e.2.begun).foldl (fun s e =>
    kickLine e.1 (setLn e.1 { e.2 with waitEnt := false, looked := false } s)) s

/-- A slice is taken out of service for a reason (1 command, 2 unnamed entry, 3 device reset). -/
def takeOut (q why : Nat) (s : State) : State :=
  let s := s.put o5100_04 [pQ q] why
  if sliceState s q = 0 then (setFallback true s).put o5100_01 [pQ q] 1
  else
    let gone := (opsOf s q).filter fun o => match o.why with
      | .rebuild | .recallOf .. | .evict _ | .demote .. => true
      | _ => false
    emptySlice q (gone.foldl (fun s o => dropOp q o.id s) s)

/-! ### Errors in entries (07 R214-R216) -/

/-- A line entry fails: its line is poisoned, its block is invalidated at the summary, and it becomes P. [DEDUCED, log 60] -/
def failLine (q k a : Nat) (s : State) : State :=
  let e := regEnt s q k
  let dom := match rangeAt s a with
    | some (_, w) => rangeDom w
    | none => 0
  let s := setLine q (lineIdx e a) { lineEnt s q (lineIdx e a) with state := 3, sharers := 0 } s
  let s := (ringOp q dom .biSnpInvBlk .failed (a / 256 * 256) 1 false e.sharers (poisonLine q a s)).2
  s.bump o5130_02 [pQ q] 1 |> raiseFault (0x2B8 + q) 0x15 (ctxLine s a none)

/-- A region entry fails: all its lines are poisoned, every member is sent the invalidation of its 16 blocks, and it becomes P
with its block freed. The fault's slot field is 1 (16 Table FLT-4). [DEDUCED, log 60] -/
def failRegion (q k a : Nat) (s : State) : State :=
  let e := regEnt s q k
  let r := a / 4096 * 4096
  let dom := match rangeAt s a with
    | some (_, w) => rangeDom w
    | none => 0
  let s := if e.prom then freeBlock q e.block s else s
  let s := setReg q k { e with state := 3, sharers := 0, prom := false, block := 0 } s
  let s := (ringOp q dom .biSnpInvBlk .failed r 16 false (memberMask s dom) (poisonLines q r 64 s)).2
  s.bump o5130_02 [pQ q] 1 |> raiseFault (0x2B8 + q) 0x15 (2 ^ 36 + ctxLine s r none)

/-- Three or more bits of a line entry, or of the state group of a region entry, are corrected wrongly: what it then holds is undetermined
(R213), a free value. It is reported as a corrected error. [DEDUCED, log 60] -/
def miscorrect (q k a : Nat) (s : State) : State :=
  let (f, s) := freshValue s
  let e := regEnt s q k
  if e.prom then
    setLine q (lineIdx e a) { sharers := f % 2 ^ 64, state := f / 2 ^ 64 % 4, touch := bit f 66, last := f / 2 ^ 67 % 64 } s
  else
    setReg q k { e with sharers := f % 2 ^ 64, state := f / 2 ^ 64 % 4, hits := f / 2 ^ 66 % 16, quiet := f / 2 ^ 70 % 16, ref := bit f 74 } s

/-- What a read of the entries of an address finds. [DEDUCED, log 60] -/
def entryError (q a : Nat) (e : Option DirErr) (s : State) : State :=
  match e with
  | none => s
  | some .unnamed =>
    raiseFault (0x2C0 + q) 0x16 (ctxEntry false ((findReg s q a).getD (regionSet a * 16))) (takeOut q 2 s)
  | some err =>
    match findReg s q a with
    | none => s
    | some k =>
      let ent := regEnt s q k
      match err with
      | .failedRegion => failRegion q k a s
      | .failedLine => if ent.prom then failLine q k a s else failRegion q k a s
      | .miscorrected => raiseFault (0x2C0 + q) 0x14 (if ent.prom then ctxEntry true (lineIdx ent a) else ctxEntry false k)
          (miscorrect q k a (s.bump o5130_01 [pQ q] 1))
      | _ =>
        raiseFault (0x2C0 + q) 0x14 (if ent.prom then ctxEntry true (lineIdx ent a) else ctxEntry false k)
          (s.bump o5130_01 [pQ q] 1)

/-! ### Slots that are swept (06 R189, R190) -/

/-- A slot's bit is swept from a line entry: S loses the bit, E/M becomes P and is poisoned in the device. -/
def sweepLine (q i a n : Nat) (s : State) : State :=
  let l := lineEnt s q i
  if ¬ bit l.sharers n then s
  else if l.state = 2 then poisonLine q a (setLine q i { l with state := 3, sharers := 0 } s)
  else
    let u := dropSlot l.sharers n
    setLine q i { l with sharers := u, state := if u = 0 ∧ l.state = 1 then 0 else l.state } s

/-- A slot's bit is swept from a region entry and its block; a region in E/M has every line poisoned. -/
def sweepReg (q n : Nat) (s : State) (k : Nat) : State :=
  let e := regEnt s q k
  let a := regionAddr s k e
  if ¬ bit e.sharers n then s
  else if e.prom then
    let s := (List.range 64).foldl (fun s j => sweepLine q (64 * e.block + j) (a + 64 * j) n s) s
    setReg q k { regEnt s q k with sharers := dropSlot e.sharers n } s
  else if e.state = 2 then poisonLines q a 64 (setReg q k { e with state := 3, sharers := 0 } s)
  else
    let u := dropSlot e.sharers n
    setReg q k { e with sharers := u, state := if u = 0 ∧ e.state = 1 then 0 else e.state } s

/-- ISOLATED slots are swept from a region entry that is recalled, evicted or folded: they are sent no snoop (R190). -/
def sweepIsolated (q dom k : Nat) (s : State) : State :=
  ((slotsOf (regEnt s q k).sharers).filter fun n => homeView s dom n == 3).foldl (fun s n => sweepReg q n s k) s

/-- A lookup in which ISOLATED slots are swept first (R190). [DESIGN CHOICE, log 53] -/
def lookupSwept (q dom a : Nat) (s : State) : (Grain × Nat × Nat) × State :=
  let ((g, _, sh), s) := lookupDir q a s
  let iso := (slotsOf sh).filter fun n => homeView s dom n == 3
  match findReg s q a with
  | none => lookupDir q a s
  | some k =>
    let s := iso.foldl (fun s n =>
      match g with
      | .line => sweepLine q (lineIdx (regEnt s q k) a) (a / 64 * 64) n s
      | _ => sweepReg q n s k) s
    lookupDir q a s

/-! ### Transactions: what Table COH-7 gives -/

/-- A transaction's outcome: the next state and vector, the slots to snoop and the snoop. -/
structure Plan where
  next : Nat
  nextHeld : Nat
  targets : Nat := 0
  snoop : MsgOp := .biSnpInv
  deriving DecidableEq, Repr

def isInv (o : MsgOp) : Bool := o == .memInv || o == .memInvNT
def isRead (o : MsgOp) : Bool := o == .memRd || o == .memRdData
def isWrite (o : MsgOp) : Bool := o == .memWr || o == .memWrPtl

/-- The wanted state (R167): MemInv wants E, MemRdData E where the line is I and S otherwise, an internal read I (R171). -/
def wantOf (x : DSort) (st : Nat) : Meta :=
  if isInv x.pkt.op then .a
  else if x.pkt.inner then .i
  else if x.pkt.op = .memRdData then (if st = 0 then .a else .s)
  else x.pkt.mval

/-- Table COH-7 and R171. `r` is the requester's bit, 0 for an internal request. MemClnEvct for a line of which the requester holds no bit
has no row: it is answered, and changes nothing. [DEDUCED, log 52; DESIGN CHOICE, log 179] -/
def planOf (x : DSort) (st sh r : Nat) : Plan :=
  let others := sh - (sh &&& r)
  if x.pkt.op = .memClnEvct then
    if (st = 1 ∨ st = 2) ∧ sh &&& r ≠ 0 then ⟨if others = 0 then 0 else st, others, 0, .biSnpInv⟩ else ⟨st, sh, 0, .biSnpInv⟩
  else if isWrite x.pkt.op then ⟨0, 0, if st = 1 ∨ st = 2 then sh else 0, .biSnpInv⟩
  else match wantOf x st with
    | .a => ⟨2, r, if st = 1 ∨ st = 2 then others else 0, .biSnpInv⟩
    | .s =>
      if st = 1 then ⟨1, sh ||| r, 0, .biSnpData⟩
      else if st = 2 ∧ others ≠ 0 then ⟨1, sh ||| r, others, .biSnpData⟩
      else ⟨1, r, 0, .biSnpData⟩
    | .i =>
      if st = 2 ∧ others ≠ 0 then ⟨2, sh, others, .biSnpCur⟩
      else if st = 2 then ⟨0, 0, 0, .biSnpCur⟩
      else ⟨st, sh, 0, .biSnpCur⟩

/-- The completion of a request: as wanted; MemRdData in a broadcast-homed range gains E only where every member answered
BIRspI without data (R173). -/
def grantOf (L : HLine) (x : DSort) : MsgOp :=
  if isInv x.pkt.op then .cmpE
  else if x.pkt.op = .memRdData ∧ ¬ L.dir then (if L.shared then .cmpS else .cmpE)
  else match L.want with
    | .a => .cmpE
    | .s => .cmpS
    | .i => .cmp

/-- The head of a line's wait list is an internal write: the line becomes I, its poison cleared (R171, R191). -/
def innerWrite (L : HLine) : Bool := match L.reqs with
  | r :: _ => isWrite r.x.pkt.op
  | [] => false

/-- The state and vector a line enters when T ends: P where the data is poisoned and no member is left (R172, R185). [DEDUCED, log 55] -/
def finalOf (L : HLine) : Nat × Nat :=
  if innerWrite L then (0, 0)
  else if L.nextHeld = 0 then (if L.poison ∨ L.next = 3 then 3 else 0, 0) else (L.next, L.nextHeld)

/-! ### Allocation and eviction (07 R207-R211, R594) -/

/-- The domain of an address. -/
def domAt (s : State) (a : Nat) : Nat :=
  match rangeAt s a with
  | some (_, w) => rangeDom w
  | none => 0

/-- An eviction or demotion for a domain may begin (R211): the allotment, the internal tracker, and half the allotment for one
domain while several wait. [DEDUCED, log 63] -/
def mayEvict (s : State) (q dom : Nat) : Bool :=
  let allot := s.val o5120_02 [pQ q]
  let others := s.dir.wait.any fun e => e.1 / 16384 == q && e.2.any fun w => domAt s (w.line * 64) != dom
  decide ((evictsOf s q).length < allot) && decide ((internalOps s q).length < 128)
  && (!others || decide ((((evictsOf s q).filter (·.dom == dom)).length + 1) * 2 ≤ allot))

def setWaits (q set : Nat) (l : List EntWait) (s : State) : State :=
  { s with dir := { s.dir with wait := Tbl.upd [] s.dir.wait (q * 16384 + set) l } }

def waitsOf (s : State) (q set : Nat) : List EntWait := Tbl.look [] s.dir.wait (q * 16384 + set)

/-- A way takes a region. -/
def fillWay (q k a : Nat) (s : State) : State := setReg q k { tag := regionTag a, valid := true, ref := true } s

/-- A contention at entry `k` (R202): HITS rises; promotion at the threshold where a block is free (true), after which the line entry at `a`
is looked up (Table DIR-5), else a region recall after which the entry takes the result. The recall snoops the holders that the entry has once
no transaction holds a line of the region in T, but for the requester `r`. -/
def contention (q k dom a : Nat) (r : Nat) (p : Plan) (s : State) : Bool × State :=
  let e := { regEnt s q k with hits := min 15 ((regEnt s q k).hits + 1) }
  let s := setReg q k e s
  let recallOf := fun s : State =>
    let (id, s) := newId s
    let o : SnoopOp := { id := id, dom := dom, msg := if p.next = 1 then .biSnpDataBlk else .biSnpInvBlk
                         why := .recallOf k p.next p.nextHeld, base := regionAddr s k e, count := 16, mask := r }
    setOps q (opsOf s q ++ [o]) (setReg q k { e with busy := 1 } s)
  if s.val o5110_01 [pDOM dom] ≤ e.hits then
    match promote q k s with
    | (true, s) => (true, (lookupDir q a s).2)
    | (false, s) => (false, recallOf s)
  else (false, recallOf s)

/-- The result of an applied write is recorded in the entry of its region: one that it cannot cover is a contention (R595). -/
def recordResult (q a n st u : Nat) (s : State) : State :=
  match findReg s q a with
  | none => s
  | some k =>
    if (regEnt s q k).prom ∨ (coverOf (regAhead s q k) st u).isSome = true then commitDir q a st u (some n) s
    else match contention q k (domAt s a) a (2 ^ n) ⟨st, u, 0, .biSnpInv⟩ s with
      | (true, s) => commitDir q a st u (some n) s
      | (false, s) => s

/-- An address lies in a homed range that is not converting. -/
def homedStill (s : State) (a : Nat) : Bool :=
  match rangeAt s a with
  | some (rg, w) => rangeMode w == 1 && !converting s rg
  | none => false

/-- A waiter has its entry, or needs none: a write's result is recorded, a request is looked up. -/
def endWait (q set : Nat) (w : EntWait) (s : State) : State :=
  let s := setWaits q set ((waitsOf s q set).filter (· != w)) s
  let s := s.put o5120_08 [pQ q] (max (s.val o5120_08 [pQ q]) ((s.clk.now - w.since) / 4))
  match w.result with
  | some (st, u, n) => recordResult q (w.line * 64) n st u s
  | none => kickLine w.line (setLn w.line { lineOf s w.line with waitEnt := false } s)

/-- An eviction begins: the region is recalled to I (R208). -/
def startEvict (q k : Nat) (s : State) : State :=
  let e := regEnt s q k
  let a := regionAddr s k e
  (ringOp q (domAt s a) .biSnpInvBlk (.evict k) a 16 false e.sharers (setReg q k { e with busy := 2 } s)).2

/-- The waiters of a set in arrival order: each takes an entry that is there or a free way, or has an eviction started, at most 4
at a time (R209). A write's result waits until the entry is not recalled, evicted or demoted. -/
def serveSet (q set : Nat) : List EntWait → State → State
  | [], s => s
  | w :: r, s =>
    if w.evicting.isSome then serveSet q set r s
    else if ¬ homedStill s (w.line * 64) then serveSet q set r (endWait q set w s)
    else match findReg s q (w.line * 64), freeWay s q set with
      | some k, _ =>
        serveSet q set r (if (regEnt s q k).busy = 0 ∨ w.result = none then endWait q set w s else s)
      | none, some k => serveSet q set r (endWait q set w (fillWay q k (w.line * 64) s))
      | none, none =>
        if 4 ≤ ((waitsOf s q set).filter (·.evicting.isSome)).length then s else
        match victim s q set with
        | some k =>
          if mayEvict s q (domAt s (w.line * 64)) then
            serveSet q set r (startEvict q k (setWaits q set
              ((waitsOf s q set).map fun v => if v = w then { v with evicting := some k } else v) s))
          else s
        | none => s

def serve (q set : Nat) (s : State) : State := serveSet q set (waitsOf s q set) s

/-- A request, or the result of a write, waits for a region entry (R594). -/
def waitEntry (q l : Nat) (result : Option (Nat × Nat × Nat)) (s : State) : State :=
  let set := regionSet (l * 64)
  let s := setWaits q set (waitsOf s q set ++ [{ line := l, since := s.clk.now, result := result }]) s
  serve q set (s.bump o5120_06 [pQ q] 1)

/-- An entry for a region: true where it has one now; else its waiter is queued (R594). -/
def needEntry (q l : Nat) (result : Option (Nat × Nat × Nat)) (s : State) : Bool × State :=
  let a := l * 64
  let set := regionSet a
  if (findReg s q a).isSome then (true, s)
  else match (waitsOf s q set).isEmpty, freeWay s q set with
    | true, some k => (true, fillWay q k a s)
    | _, _ => (false, waitEntry q l result s)

/-! ### The life of a transaction -/

/-- A BIConflict is acknowledged. -/
def ackConflict (q : Nat) (s : State) (x : DSort) : State := absorb x (answerTo q x (completion x .biConflictAck) s)

/-- A BIConflict of slot `n` is acknowledged once the buffered writes of the slot to the line have their Cmp (06 Table COH-7). -/
def ackAfter (q l n : Nat) (s : State) (x : DSort) : State :=
  match ((wbufOf s q).filter fun w => w.line == l && w.slot == some n).getLast? with
  | some w => setWbuf q ((wbufOf s q).map fun v => if v.hid = w.hid then { v with acks := v.acks ++ [x] } else v) s
  | none => ackConflict q s x

/-- A slot at which a snoop for the line timed out (06 R187). [DEDUCED, log 54] -/
def isLate (s : State) (l d n : Nat) : Bool := s.home.lateW.contains (l, 64 * d + n)

/-- A writeback of a slot to a line is late no more. [DEDUCED, log 54] -/
def dropLate (l d n : Nat) (s : State) : State :=
  { s with home := { s.home with lateW := s.home.lateW.filter (· != (l, 64 * d + n)) } }

/-- A request that its slot was granted the line by: what it writes from now on is not late. [DEDUCED, log 54] -/
def notLate (l : Nat) (L : HLine) (r : HReq) (s : State) : State :=
  match r.slot with
  | some n => if L.want = .i ∧ isInv r.x.pkt.op = false then s else dropLate l L.dom n s
  | none => s

/-- The rebuild sweep takes its region once no line of it is in T (07 R219): 16 messages to every member. -/
def tryRebuild (q : Nat) (s : State) : State :=
  match Tbl.look none s.dir.rebuild q with
  | none => s
  | some a =>
    if regionInT s q a ∨ (opsOf s q).any (fun o => o.why = .rebuild) then s else
    let dom := domAt s a
    (ringOp q dom .biSnpInvBlk .rebuild a 16 false (memberMask s dom) s).2

/-- A line leaves T: waiters of its set may find a way, the rebuild may take its region, and the next request is served. -/
def finishTxn (q l : Nat) (s : State) : State :=
  let L := lineOf s l
  match L.reqs with
  | [] => s
  | r :: rest =>
    let (st, u) := finalOf L
    let s := if L.dir then commitDir q (l * 64) st u r.slot s else s
    let s := r.acks.foldl (ackAfter q l (r.slot.getD 64)) (notLate l L r s)
    let s := setLn l (if rest.isEmpty then {} else { q := q, dom := L.dom, reqs := rest }) s
    kickLine l s |> serve q (regionSet (l * 64)) |> tryRebuild q

/-- Data that the home holds for a line: a write that serves the transaction, the write buffer, or the poison of P (R169, R170,
Table COH-7). -/
def localData (s : State) (q l : Nat) (L : HLine) : Option Packet :=
  match L.wb, heldFor s q l with
  | some p, _ => some p
  | none, some p => some p
  | none, none =>
    if L.st = 3 then
      let p : Packet := { op := .memWr, poison := true }
      some p
    else none

/-- A read ends with data of the home. -/
def endLocal (q l : Nat) (L : HLine) (x : DSort) (d : Packet) (s : State) : State :=
  let s := match L.data with
    | some y => absorb y s
    | none => s
  let s := if L.sent then s else absorb x s
  let bad := L.poison || d.poison
  setLn l { L with poison := bad } s
  |> answerTo q x { completion x .memData with len := 64, data := d.data, poison := bad }
  |> answerTo q x (completion x (grantOf L x))
  |> finishTxn q l

/-- A transaction whose snoops are answered goes on or ends. -/
def advanceTxn (q l : Nat) (s : State) : State :=
  let L := lineOf s l
  match L.reqs with
  | [] => s
  | r :: _ =>
    let x := r.x
    if ¬ L.begun ∨ L.op.isSome then s
    else if x.pkt.op = .memClnEvct then finishTxn q l (answerTo q x (completion x .cmp) (absorb x s))
    else if isInv x.pkt.op then
      finishTxn q l (answerTo q x (completion x .cmpE) (absorb x s))
    else if isWrite x.pkt.op then
      if L.sent ∨ ¬ egressFree s x.dport 1 then s
      else
        homeSend q x.dport x.dld 0xFFF 0xFFF L.hid none x.pkt (setLn l { L with sent := true } (unpoison q x.pkt s))
        |> absorb x
    else match localData s q l L, L.data with
      | some d, _ => endLocal q l L x d s
      | none, some d =>
        let d := if L.poison then { d with poison := true, pkt := { d.pkt with poison := true } } else d
        setLn l { L with poison := d.poison } s
        |> passOn q x d
        |> answerTo q x (completion x (grantOf L x))
        |> finishTxn q l
      | none, none => if L.sent then s else forwardReq q x L.hid (setLn l { L with sent := true } s)

/-- A transaction takes its line into T: the device read that may run beside the snoops, then the snoops. -/
def startTxn (q l : Nat) (dir : Bool) (st sh : Nat) (p : Plan) (ring parallel : Bool) (s : State) : State :=
  let L := lineOf s l
  match L.reqs with
  | [] => s
  | r :: _ =>
    let (id, s) := newId s
    let ts := snoopable s L.dom p.targets
    let L := { L with begun := true, looked := false, dir := dir, want := wantOf r.x st, st := st, held := sh, next := p.next,
                      nextHeld := p.nextHeld, hid := id }
    let early := parallel && isRead r.x.pkt.op && (localData s q l L).isNone
    let s := setLn l { L with sent := early } s
    let s := if early then forwardReq q r.x id s else s
    if ts.isEmpty then advanceTxn q l s else
    let s := if r.x.trace then stamp r.x.traceid 6 q s else s
    let (o, s) :=
      if ring ∨ s.val o5022_03 [pDOM L.dom] < ts.length then
        ringOp q L.dom p.snoop (.line l) (l * 64) 1 false (ts.foldl (fun m n => m + 2 ^ n) 0) s
      else unicastOp q L.dom p.snoop (.line l) (ts.map fun n => (n, l * 64)) s
    setLn l { lineOf s l with op := some o } s

/-- The bit of a requester. -/
def slotBit : Option Nat → Nat
  | some n => 2 ^ n
  | none => 0

/-- Broadcast-homed service (06 R173): every member but the requester is snooped by ring. An internal write invalidates every
member. MemClnEvct, which the rule does not name, gets its Cmp without a snoop. [DEDUCED, log 56; DESIGN CHOICE, log 180] -/
def beginBroadcast (q l : Nat) (s : State) : State :=
  let L := lineOf s l
  match L.reqs with
  | [] => s
  | r :: _ =>
    let m := memberMask s L.dom
    let others := m - (m &&& slotBit r.slot)
    let op := r.x.pkt.op
    let p : Plan :=
      if op = .memClnEvct then ⟨0, 0, 0, .biSnpInv⟩
      else if isInv op ∨ isWrite op then ⟨0, 0, others, .biSnpInv⟩
      else if op = .memRdData then ⟨0, 0, others, .biSnpData⟩
      else match wantOf r.x 1 with
        | .a => ⟨0, 0, others, .biSnpInv⟩
        | .s => ⟨0, 0, others, .biSnpData⟩
        | .i => ⟨0, 0, others, .biSnpCur⟩
    startTxn q l false 0 m p true true s

/-- The region of a line is being recalled, evicted, demoted or rebuilt: its requests wait (07 R203, R205, R219). -/
def regionHeld (s : State) (q a : Nat) : Bool :=
  (match findReg s q a with
  | some k => (regEnt s q k).busy != 0
  | none => false)
  || (Tbl.look none s.dir.rebuild q == some (a / 4096 * 4096))

/-- The head of a line's wait list is looked up and takes the line into T, or waits (06 R168, 07 R200-R202, R594). -/
def beginLine (l : Nat) (e : Option DirErr) (s : State) : State :=
  let L := lineOf s l
  let q := L.q
  match L.reqs with
  | [] => s
  | r :: _ =>
    let a := l * 64
    if L.begun ∨ L.waitEnt ∨ regionHeld s q a then s else
    let s := if r.x.trace then stamp r.x.traceid 5 q s else s
    let s := if dirServed s q a then entryError q a e s else s
    if ¬ dirServed s q a then beginBroadcast q l s else
    let ((g, st, sh), s) := lookupSwept q L.dom a s
    let p := planOf r.x st sh (slotBit r.slot)
    let clean := st == 0 || st == 1
    match g with
    | .none =>
      if p.nextHeld = 0 then startTxn q l true st sh p false clean s else
      match needEntry q l none s with
      | (true, s) => startTxn q l true st sh p false clean s
      | (false, s) => setLn l { lineOf s l with waitEnt := true } s
    | .line => startTxn q l true st sh p false clean s
    | .region =>
      match findReg s q a with
      | none => s
      | some k =>
        if r.x.pkt.op = .memClnEvct ∨ (coverOf (regAhead s q k) p.next p.nextHeld).isSome then
          startTxn q l true st sh p false clean s
        else match contention q k L.dom a (slotBit r.slot) p s with
          | (true, s) => startTxn q l true st sh p false clean s
          | (false, s) => setLn l { lineOf s l with looked := true } s

/-- The lines that were kicked begin, until none is left. -/
def runKick : Nat → State → State
  | 0, s => s
  | n + 1, s =>
    match s.home.kick with
    | [] => s
    | l :: r => runKick n (beginLine l none { s with home := { s.home with kick := r } })

/-! ### LEAVING (02 R55, 07 R220) -/

/-- A slot in LEAVING is invalidated from one region entry at a time in each slice: 16 messages to it alone. -/
def leaveNext (q d n : Nat) (s : State) : State :=
  let running := (opsOf s q).any fun o => match o.why with
    | .leave d' n' _ => d' == d && n' == n
    | _ => false
  if running ∨ 128 ≤ (internalOps s q).length then s else
  match (regsWith s q d n).find? fun k => (regEnt s q k).busy == 0 with
  | some k => (ringOp q d .biSnpInvBlk (.leave d n k) (regionAddr s k (regEnt s q k)) 16 false (2 ^ n) s).2
  | none => s

def leaveAll (q : Nat) (s : State) : State :=
  s.home.leaving.foldl (fun s e => leaveNext q (e.1 / 64) (e.1 % 64) s) s

/-- The bit of a slot in LEAVING leaves a region entry, and every line entry of its block. -/
def clearLeaving (q n k : Nat) (s : State) : State :=
  let e := regEnt s q k
  let drop := fun (u st : Nat) => if dropSlot u n = 0 ∧ st ≠ 3 then 0 else st
  if e.prom then
    let s := (List.range 64).foldl (fun s j =>
      let l := lineEnt s q (64 * e.block + j)
      setLine q (64 * e.block + j) { l with sharers := dropSlot l.sharers n, state := drop l.sharers l.state } s) s
    setReg q k { e with sharers := dropSlot e.sharers n } s
  else setReg q k { e with sharers := dropSlot e.sharers n, state := drop e.sharers e.state } s

/-- Internal writes that wait for an entry in their port's DAT egress queue leave (06 R170). -/
def sendInner (q : Nat) (s : State) : State :=
  (s.home.lines.filter fun e => e.2.q == q && e.2.begun && !e.2.sent && innerWrite e.2).foldl (fun s e => advanceTxn q e.1 s) s

/-- What the home does at the end of a command: kicked lines begin, buffered and internal writes leave, snoops are issued, LEAVING goes on. -/
def settleHome (q : Nat) (s : State) : State :=
  runKick 4096 s |> sendWrites q |> sendInner q |> issueUnicast q |> leaveAll q

/-! ### Answers of snoops -/

/-- An operation has its last answer (the rows that complete recalls, evictions, demotions, conversions and the rebuild find it
done). -/
def answered1 (q : Nat) (o : SnoopOp) (s : State) : State :=
  if ¬ SnoopOp.done o then s else
  match o.why with
  | .line l =>
    let L := lineOf s l
    let s := match L.reqs with
      | r :: _ => if r.x.trace then stamp r.x.traceid 7 q s else s
      | [] => s
    advanceTxn q l (setLn l { L with op := none } (dropOp q o.id s))
  | .failed => dropOp q o.id s
  | .leave _ n k => clearLeaving q n k (dropOp q o.id s)
  | .pool _ rs =>
    let s := rs.foldl (fun s a => match findReg s q a with
      | some k => dropReg q k (sweepIsolated q o.dom k s)
      | none => s) (dropOp q o.id s)
    rs.foldl (fun s a => kickRegion q a (serve q (regionSet a) s)) s
  | _ => s

/-- A late answer of a slot is counted (06 R187). -/
def lateAnswer (d n : Nat) (s : State) : State := if 16 ≤ d then s else s.bump o5030_05 (slotPath d n) 1

/-- A BIRsp at its home: it answers the snoop that its tag and address name, or is late (06 R185, R187). -/
def birspAt (q : Nat) (x : DSort) (s : State) : State :=
  let a := x.pkt.addr
  let o := (opsOf s q).find? fun o => o.id == x.pkt.tag % 2 ^ 32
  let dom := match o with
    | some o => o.dom
    | none => if homedHere s a then domAt s a else 16
  match slotFrom s dom x.pkt true with
  | none => s
  | some n =>
    match o with
    | some o =>
      match takeFirst (fun w : SnoopWait => w.slot == n && w.addr == a) o.waits with
      | some (_, ws) =>
        let o := { o with waits := ws }
        let s := match o.why with
          | .line l => if x.pkt.op = .biRspI then s else setLn l { lineOf s l with shared := true } s
          | _ => s
        answered1 q o (setOp q o s)
      | none => lateAnswer dom n s
    | none => lateAnswer dom n s

/-! ### The ring (06 R175-R177) -/

/-- The address of an operation's next message. -/
def opAddr (q : Nat) (o : SnoopOp) : Nat :=
  match o.why with
  | .pool _ (r :: rs) => (r :: rs).getD (o.next / 16) 0 + 256 * (o.next % 16)
  | _ => if o.wide then wideRegion q o.base (o.next / 16) + 256 * (o.next % 16) else o.base + 256 * o.next

/-- The slots its next message is for: in a recall, those of the region's entry. -/
def opMask (s : State) (q : Nat) (o : SnoopOp) : Nat :=
  match o.why with
  | .recallOf k .. => (regEnt s q k).sharers - ((regEnt s q k).sharers &&& o.mask)
  | .pool _ (_ :: _) =>
    match findReg s q (opAddr q o) with
    | some k => (regEnt s q k).sharers
    | none => 0
  | _ => o.mask

/-- An operation may issue its next message: the answer slots are there, and a recall of a region, as in step 2 of a block's move, waits for
the transactions that hold lines of the region in T (07 R594). [DEDUCED, log 63] -/
def mayIssue (s : State) (q : Nat) (o : SnoopOp) : Bool :=
  decide (o.next < o.count) && answerSlots s q o (snoopable s o.dom (opMask s q o)).length &&
  (match o.why with
  | .recallOf .. => !regionInT s q o.base
  | .pool _ (_ :: _) => !regionInT s q (opAddr q o)
  | _ => true)

/-- Mask parts for other members go over Folio, one to each (R176). [DESIGN CHOICE, log 48] -/
def sendParts (q : Nat) (m : RMsg) (ns : List Nat) (s : State) : State :=
  (List.range 16).foldl (fun s d =>
    let part := ns.filter fun n => bits (slotWord s m.dom n) 11 8 == d
    if d = ownPos s ∨ part.isEmpty then s else
    match portToward s d with
    | some p =>
      let (f, s) := freshValue s
      homeSend q p 0 0xFFF (f % 4095) 0 none
        { op := m.op, addr := m.addr, tag := m.tag, dev := Fin.ofNat 16 m.member, toDev := some (Fin.ofNat 16 d)
          data := part.foldl (fun k n => k + 2 ^ n) 0 } s
    | none => s) s

/-- An operation issues its next message: timers for every target, the parts of other members, and the ring message for the
local slots that can be reached. -/
def issue (q : Nat) (o : SnoopOp) (s : State) : Option RMsg × State :=
  let a := opAddr q o
  let ts := snoopable s o.dom (opMask s q o)
  let o' := { o with next := o.next + 1
                     waits := o.waits ++ ts.map fun n => { slot := n, addr := a, until_ := biTimer s o.dom } }
  let live := ts.filter fun n => homeView s o.dom n != 1
  let mine := live.filter fun n => (slotPort s o.dom n).isSome
  let m : RMsg := { op := o.msg, addr := a, tag := snoopTag o o.next, member := ownPos s, hq := q, dom := o.dom
                    mask := mine.foldl (fun k n => k + 2 ^ n) 0 }
  let s := sendParts q m live (setOp q o' s)
  if mine.isEmpty then (none, answered1 q o' s) else (some m, s)

/-- A message passes node `n`: one snoop for each masked slot local to the quire whose SNP egress queue has room (R177). A slot
whose VCS has lost its upstream port is cleared. -/
def passNode (n : Nat) (m : RMsg) (s : State) : RMsg × State :=
  (slotsOf m.mask).foldl (fun (m, s) k =>
    match slotPort s m.dom k with
    | none => ({ m with mask := dropSlot m.mask k }, s)
    | some p =>
      if quireOf p ≠ n ∨ 64 ≤ depthOf s (classRef p 2) then (m, s) else
      let pk : Packet := { op := m.op, addr := m.addr, tag := m.tag, dev := Fin.ofNat 16 m.member, dst := some (Fin.ofNat 128 p) }
      let x : DSort := { cls := 2, srcq := m.hq, midq := m.hq, dstq := n, sport := 0x15, dport := p, orig := true
                         fromHome := true, hown := true, pid := s.gal.nextOrd, pkt := pk }
      ({ m with mask := dropSlot m.mask k },
        toEgressQueue x { s with gal := { s.gal with nextOrd := s.gal.nextOrd + 1 } })) (m, s)

/-- What quire `n` injects into an empty position: a part from another member, or the next message of its oldest operation that
may issue. [DEDUCED, log 57] -/
def nextMessage (n : Nat) (s : State) : Option RMsg × State :=
  match Tbl.look [] s.home.parts n with
  | m :: r => (some m, { s with home := { s.home with parts := Tbl.upd [] s.home.parts n r } })
  | [] =>
    match (opsOf s n).find? (mayIssue s n) with
    | some o => issue n o s
    | none => (none, s)

/-- A ring position passes its next node: positions are 1 ns apart and pass a node every 2 ns (R175). [DEDUCED, log 57] -/
def ringPass (k : Nat) (s : State) : State :=
  let t := max (Tbl.look 0 s.home.ringAt k) ((s.clk.now + 3) / 4)
  let t := t + (t + k) % 2
  let n := (t + k) / 2 % 8
  let s := advanceTo (ns t) { s with home := { s.home with ringAt := Tbl.upd 0 s.home.ringAt k (t + 1) } }
  let (m, s) := match Tbl.look none s.home.ring k with
    | some m => (some m, s)
    | none => nextMessage n s
  match m with
  | none => settleHome n s
  | some m =>
    let (m, s) := passNode n m s
    settleHome n { s with home := { s.home with
      ring := Tbl.upd none s.home.ring k (if m.mask = 0 then none else some m) } }

/-- REMOTE_RING_PART_RECEIVE: a part of another member's mask joins this member's ring as a message of the same home and tag
(R176). [DESIGN CHOICE, log 15] -/
def execRemoteRingPartReceive (q : Fin 8) (hq : Fin 8) (d : Fin 16) (p : Packet) (s : State) :
    Host.Outcome State Fault Refusal :=
  .next <|
    let m : RMsg := { op := p.op, addr := p.addr, tag := p.tag, member := p.dev.val, hq := hq.val, dom := d.val
                      mask := p.data % 2 ^ 64 }
    if m.mask = 0 ∨ p.op.channel ≠ 5 then s
    else { s with home := { s.home with parts := Tbl.mod [] s.home.parts q.val (· ++ [m]) } }

/-! ### Requests (06 R54, R156, R160, R167, R168, R189) -/

/-- The block's home is fenced (08 R232). -/
def fenced (s : State) (a : Nat) : Option Nat :=
  match blockOf s a with
  | some b => match Tbl.look none s.blocks b with
    | some v => if v.fenced then some b else none
    | none => none
  | none => none

/-- A request from outside the domain: the fault's slot field holds the requesting VCS (16 Table FLT-4). -/
def refuseOutside (q : Nat) (x : DSort) (s : State) : State :=
  let v := match x.pkt.vcs with
    | some v => v.val
    | none => 0
  refuseHome q x s |> raiseFault (0x2B8 + q) 0x10 (v * 2 ^ 36 + ctxLine s x.pkt.addr none)

/-- A BIConflict: acknowledged after the completions already owed to its slot for the line. Where none is owed, and on a line that is not in
T, for which Table COH-7 has no row, at once. [DESIGN CHOICE, log 181] -/
def conflictAt (q : Nat) (x : DSort) (n l : Nat) (s : State) : State :=
  let L := lineOf s l
  match (L.reqs.reverse.findIdx? fun r => r.slot == some n) with
  | none => ackAfter q l n s x
  | some i =>
    let j := L.reqs.length - 1 - i
    setLn l { L with reqs := L.reqs.mapIdx fun k r => if k = j then { r with acks := r.acks ++ [x] } else r } s

/-- A request that its home serves joins its line's wait list. -/
def enterLine (q : Nat) (e : Option DirErr) (x : DSort) (n : Option Nat) (dom : Nat) (s : State) : State :=
  let l := x.pkt.addr / 64
  let L := lineOf s l
  let s := setLn l { L with q := if L.reqs.isEmpty then q else L.q, dom := dom, reqs := L.reqs ++ [{ x := x, slot := n }] } s
  if L.reqs.isEmpty then beginLine l e s else s

/-- A request at its home. [DEDUCED, log 58] -/
def homeRequest (q : Nat) (e : Option DirErr) (x : DSort) (s : State) : State :=
  let a := x.pkt.addr
  match rangeAt s a with
  | none => goOn q x s
  | some (_, w) =>
    let d := rangeDom w
    if rangeMode w = 3 then goOn q x s
    else if x.pkt.inner then
      match fenced s a with
      | some b => refuseHome q x (s.bump o5220_05 [pCB b] 1)
      | none => enterLine q e x none d s
    else match slotFrom s d x.pkt false with
      | none => refuseOutside q x s
      | some n =>
        if homeView s d n = 3 then refuseHome q x (s.bump o5030_07 (slotPath d n) 1)
        else if x.pkt.op = .memRdFwd ∨ x.pkt.op = .memWrFwd then
          absorb x ((failAnswers .unsupported x.pkt).foldl (fun s p => answerTo q x p s) s)
        else if x.pkt.op = .memSpecRd then
          absorb x { s with home := { s.home with spec := Tbl.mod 0 s.home.spec q (· + 1) } }
        else if x.pkt.op = .biConflict then conflictAt q x n (a / 64) s
        else match fenced s a with
          | some b => refuseHome q x (s.bump o5220_05 [pCB b] 1)
          | none => enterLine q e x (some n) d s

/-- The egress entries of a request's answers are free at its requester's port (04 R125, 06 Table COH-9). -/
def answerRoom (s : State) (x : DSort) : Bool :=
  x.orig || (egressFree s (replyPort s x.sport x.spbr) 0 && (!draws x.pkt.op 1 || egressFree s (replyPort s x.sport x.spbr) 1))

/-- The oldest request that the home can admit: those of one line in the order in which they came (06 R179). -/
def firstAdmitted (s : State) (p : DSort → Bool) : List TSort → List Nat → Option TSort
  | [], _ => none
  | t :: r, held =>
    if ¬ p t.x then firstAdmitted s p r held
    else if answerRoom s t.x ∧ held.contains (t.x.pkt.addr / 64) = false then some t
    else firstAdmitted s p r (t.x.pkt.addr / 64 :: held)

/-- The oldest message for the home logic of a quire that meets a test. -/
def takeHome (q : Nat) (p : DSort → Bool) (s : State) : Option TSort × State :=
  match takeFirst (fun t : TSort => p t.x) (Tbl.look [] s.stg.toHome q) with
  | some (t, r) => (some t, { s with stg := { s.stg with toHome := Tbl.upd [] s.stg.toHome q r } })
  | none => (none, s)

/-- The oldest request of a kind that the home can admit is taken. -/
def admitHome (q : Nat) (p : DSort → Bool) (s : State) : Option TSort × State :=
  match firstAdmitted s p (Tbl.look [] s.stg.toHome q) [] with
  | some t => takeHome q (· == t.x) s
  | none => (none, s)

/-- HOME_REQUEST: the oldest request that waits at quire `q` is looked up, 12 ns after it arrived (01 Table ARC-6); `e` is what
the read of its entries finds. A contained quire's home logic takes none (16 R463). [DESIGN CHOICE, log 13] -/
def execHomeRequest (q : Fin 8) (e : Option DirErr) (s : State) : Host.Outcome State Fault Refusal :=
  .next <|
    if quireDark s q.val then s else
    match admitHome q.val (fun x => !x.home && (x.pkt.op.channel == 0 || (x.pkt.inner && isWrite x.pkt.op))) s with
    | (some t, s) => settleHome q.val (homeRequest q.val e t.x (advanceTo (t.at_ + ns 12) s))
    | (none, s) => s

/-! ### Writes (06 R169, R173, R187, 07 R594, R595) -/

/-- The result of an applied write (Table COH-8). -/
def writeResult (x : DSort) (st n : Nat) : Nat × Nat :=
  match x.pkt.mval with
  | .s => (1, 2 ^ n)
  | .a => (2, 2 ^ n)
  | .i => if st = 3 ∧ x.pkt.op = .memWrPtl then (3, 0) else (0, 0)

/-- The result of an applied write is recorded: in an entry that covers it, or after an allocation, a promotion or a recall. While the entry
is evicted, the result of a write to a line the slot did not hold waits for the next one. -/
def recordWrite (q l n : Nat) (had : Bool) (st u : Nat) (s : State) : State :=
  let a := l * 64
  match findReg s q a with
  | none =>
    if u = 0 then s else
    match needEntry q l (some (st, u, n)) s with
    | (true, s) => recordResult q a n st u s
    | (false, s) => s
  | some k =>
    if (regEnt s q k).busy = 2 then (if u = 0 ∨ had = true then s else waitEntry q l (some (st, u, n)) s)
    else recordResult q a n st u s

/-- A write is applied: it enters the write buffer, and serves a transaction that holds its line. -/
def applyWrite (q : Nat) (x : DSort) (n : Nat) (s : State) : State :=
  let l := x.pkt.addr / 64
  let (id, s) := newId s
  let s := setWbuf q (wbufOf s q ++ [{ hid := id, line := l, x := x, slot := some n }]) (unpoison q x.pkt s)
  let L := lineOf s l
  if L.begun then
    let keep := if x.pkt.mval = .i then dropSlot L.nextHeld n else L.nextHeld
    setLn l { L with wb := some x.pkt, shared := true, nextHeld := keep } s
  else s

/-- A write from slot `n` of domain `d` at its home (Table COH-8): a line is in T also while its region is recalled (07 R203). A late
writeback is discarded, unless its line is then in I or P (R187). [DEDUCED, log 51; DEDUCED, log 54] -/
def writeAt (q : Nat) (e : Option DirErr) (x : DSort) (d n : Nat) (s : State) : State :=
  let a := x.pkt.addr
  let l := a / 64
  let L := lineOf s l
  let dirS := if L.begun then L.dir else dirServed s q a
  let s := if dirS ∧ ¬ L.begun then entryError q a e s else s
  let ((g, st, sh), s) := if dirS ∧ ¬ L.begun then lookupSwept q d a s else ((.none, 0, 0), s)
  let recalled : Bool := g != .none && (match findReg s q a with
    | some k => (regEnt s q k).busy == 1
    | none => false)
  let had : Bool := if L.begun then bit L.held n else bit sh n
  let late := isLate s l d n
  let owes : Bool := match L.op with
    | some id => (opsOf s q).any fun o => o.id == id && o.waits.any (·.slot == n)
    | none => false
  let owned : Bool := if ¬ dirS then !late else if L.begun ∨ recalled then had && !late
    else (st != 1 && st != 2) || (sh == 2 ^ n && !late)
  if (fenced s a).isSome && !had && !owes then
    refuseHome q x (s.bump o5220_05 [pCB ((fenced s a).getD 0)] 1)
  else if ¬ owned then
    let s := if late then dropLate l d n (s.bump o5030_05 (slotPath d n) 1) else s
    refuseHome q x s |> raiseFault (0x2B8 + q) 0x11 (ctxLine s a (some n))
  else
    let s := applyWrite q x n (dropLate l d n s)
    if L.begun ∨ recalled ∨ ¬ dirS then s
    else
      let r := writeResult x st n
      recordWrite q l n had r.1 r.2 s

/-- A host's write at its home. -/
def homeWrite (q : Nat) (e : Option DirErr) (x : DSort) (s : State) : State :=
  match rangeAt s x.pkt.addr with
  | none => goOn q x s
  | some (_, w) =>
    let d := rangeDom w
    if rangeMode w = 3 then goOn q x s
    else match slotFrom s d x.pkt true with
      | none => refuseOutside q x s
      | some n =>
        if homeView s d n = 3 then refuseHome q x (s.bump o5030_07 (slotPath d n) 1)
        else writeAt q e x d n s

/-- HOME_WRITE: the oldest write that waits at quire `q`. -/
def execHomeWrite (q : Fin 8) (e : Option DirErr) (s : State) : Host.Outcome State Fault Refusal :=
  .next <|
    if quireDark s q.val then s else
    match admitHome q.val (fun x => !x.home && !x.pkt.inner && x.pkt.op.channel == 1) s with
    | (some t, s) => settleHome q.val (homeWrite q.val e t.x (advanceTo (t.at_ + ns 12) s))
    | (none, s) => s

/-! ### Answers of devices (06 R170-R172) -/

/-- An answer whose transaction was lost with a contained quire is discarded and counted at the substitute (16 R463). -/
def strayAnswer (q : Nat) (x : DSort) (s : State) : State :=
  absorb x (if homeQuire x.pkt.addr ≠ q then s.bump o9050_02 [pQ q] 1 else s)

/-- A device's answer at the home. [DEDUCED, log 50; DEDUCED, log 55] -/
def deviceAnswer (q : Nat) (x : DSort) (s : State) : State :=
  match (wbufOf s q).find? fun w => w.hid == x.hid with
  | some w =>
    if x.cls ≠ 0 then absorb x s else
    let s := setWbuf q ((wbufOf s q).filter (·.hid != x.hid)) s
    if w.x.hown then absorb x s else w.acks.foldl (ackConflict q) (passOn q w.x x s)
  | none =>
    let l := x.pkt.addr / 64
    let L := lineOf s l
    if L.begun ∧ L.hid = x.hid ∧ L.sent then
      if x.cls = 1 then
        let L := { L with data := some x, poison := L.poison || x.poison }
        advanceTxn q l (setLn l L s)
      else match L.reqs with
        | r :: _ => if innerWrite L then finishTxn q l (passOn q r.x x s) else absorb x s
        | [] => absorb x s
    else strayAnswer q x s

/-- DEVICE_RESPONSE_RECEIVE: the oldest answer of a device that waits at quire `q`. -/
def execDeviceResponseReceive (q : Fin 8) (s : State) : Host.Outcome State Fault Refusal :=
  .next <|
    if quireDark s q.val then s else
    match takeHome q.val (fun x => x.pkt.op.channel == 3 || x.pkt.op.channel == 4) s with
    | (some t, s) => settleHome q.val (deviceAnswer q.val t.x (advanceTo t.at_ s))
    | (none, s) => s

/-! ### Timeouts (06 R185-R188) -/

/-- A slot is ISOLATED (Table COH-10): the fault, and its sweep. -/
def isolateSlot (q d n : Nat) (s : State) : State :=
  { s.put o5030_06 (slotPath d n) 3 with home := { (s.put o5030_06 (slotPath d n) 3).home with
      sweeps := s.home.sweeps.filter (fun w => !(w.dom == d && w.slot == n)) ++ [⟨d, n, s.clk.now⟩] } }
  |> raiseFault (0x2B8 + q) 0x13 (ctxSlot d n)

/-- A timeout of a slot is counted, and raises its suspect count where its view is NORMAL and none has raised it within the
suspect window (R188). -/
def noteTimeout (q d n : Nat) (s : State) : State :=
  if 16 ≤ d then s else
  let p := slotPath d n
  let s := s.bump o5030_04 p 1
  let window := us (s.val o5022_04 [pDOM d])
  let recent := decide ((Tbl.look none s.home.raised (64 * d + n)).any fun t => decide (s.clk.now ≤ t + window))
  if homeView s d n ≠ 0 ∨ recent = true then s else
  let c := min 255 (s.val o5030_01 p + 1)
  let s := s.put o5030_01 p c
  let s : State := { s with home := { s.home with raised := Tbl.upd none s.home.raised (64 * d + n) (some s.clk.now) } }
  if s.val o5022_02 [pDOM d] ≤ c then isolateSlot q d n s else s

/-- A block snoop covers the four lines of its block. -/
def isBlock (o : MsgOp) : Bool := o == .biSnpCurBlk || o == .biSnpDataBlk || o == .biSnpInvBlk

/-- A sort carries the snoop `w` of an operation to a slot of another member: by the PBR ID of the slot's VCS, or in a mask part of whose slots none
is waited for any more (11 R338). -/
def snoopCopy (s : State) (o : SnoopOp) (w : SnoopWait) (x : DSort) : Bool :=
  let word := slotWord s o.dom w.slot
  match x.pkt.toDev with
  | some d => d.val == bits word 11 8 && bit x.pkt.data w.slot
      && (slotsOf x.pkt.data).all fun n => !(o.waits.any fun v => v.slot == n && v.addr == w.addr)
  | none => x.dpbr == Tbl.look 0xFFF s.forme.vcsIds (64 * bits word 11 8 + bits word 5 0)

/-- A snoop's timer expires (R185): P in the directory where R206 puts it, the poison write, the fault, the counts, and the
transaction goes on as if answered BIRspI. -/
def expireSnoop (q : Nat) (o : SnoopOp) (w : SnoopWait) (s : State) : State :=
  let o := { o with waits := o.waits.filter (· != w) }
  let s := setOp q o (voidSnoop q o.id w.addr (snoopCopy s o w) s)
  let ls := (List.range (if isBlock o.msg then 4 else 1)).map fun j => w.addr + 64 * j
  let record := match o.why with
    | .line l => (lineOf s l).dir
    | .convert _ | .rebuild => false
    | _ => true
  let s := ls.foldl (fun s a => poisonLine q a (if record then recordPoison q a w.slot s else s)) s
  let s := raiseFault (0x2B8 + q) 0x12 (ctxLine s w.addr (some w.slot)) s
  let s := noteTimeout q o.dom w.slot s
  let s := ls.foldl (fun s a => { dropLate (a / 64) o.dom w.slot s with home := { (dropLate (a / 64) o.dom w.slot s).home with
    lateW := (a / 64, 64 * o.dom + w.slot) :: (dropLate (a / 64) o.dom w.slot s).home.lateW } }) s
  let s := match o.why with
    | .line l =>
      let L := lineOf s l
      setLn l { L with poison := true, nextHeld := dropSlot L.nextHeld w.slot } s
    | _ => s
  answered1 q o s

/-- The snoop of a quire whose timer expires next. -/
def nextExpiry (s : State) (q : Nat) : Option (SnoopOp × SnoopWait) :=
  ((opsOf s q).flatMap fun o => o.waits.map fun w => (o, w)).foldl (fun b e => match b with
    | none => some e
    | some f => if e.2.until_ < f.2.until_ then some e else some f) none

/-- The next timer of a quire's home expires. -/
def biTimeout (q : Nat) (s : State) : State :=
  match nextExpiry s q with
  | none => s
  | some (o, w) => settleHome q (expireSnoop q o w (advanceTo w.until_ s))

/-- BIRSP_RECEIVE's part at the home. -/
def birspReceive (q : Nat) (s : State) : State :=
  match takeHome q (fun x => x.home && x.pkt.op.channel == 2) s with
  | (some t, s) => settleHome q (birspAt q t.x (advanceTo t.at_ s))
  | (none, s) => s

/-! ### Sweeps and the home view (06 R188-R190, 07 R220) -/

/-- Directory accesses of a sweep: every region entry, and the 64 line entries of each block whose summary has the bit. [DESIGN CHOICE, log 62] -/
def sweepReads (s : State) (q n : Nat) : Nat :=
  262144 + 64 * ((validRegs s q).filter fun k => (regEnt s q k).prom && bit (regEnt s q k).sharers n).length

/-- SLOT_SWEEP_END: the sweep of a slot ends, one access every 2 datapath cycles in every slice (07 R220), and the slot's bits
are swept; a SWEEPING slot is NORMAL. [DESIGN CHOICE, log 53] -/
def execSlotSweepEnd (d : Fin 16) (n : Fin 64) (s : State) : Host.Outcome State Fault Refusal :=
  .next <|
    match takeFirst (fun w : SlotSweep => w.dom == d.val && w.slot == n.val) s.home.sweeps with
    | none => s
    | some (w, r) =>
      let len := ((List.range 8).map fun q => sweepReads s q n.val).foldl max 0 * 2 * cycle s
      let s := advanceTo (w.since + len) { s with home := { s.home with sweeps := r } }
      let s := (List.range 8).foldl (fun s q => (regsWith s q d.val n.val).foldl (sweepReg q n.val) s) s
      if homeView s d.val n.val = 2 then s.put o5030_06 (slotPath d.val n.val) 0 else s

/-- A slot's VCS is active or is not (Table COH-10). -/
def slotOnVcs (active : Bool) (d n : Nat) (s : State) : State :=
  let v := homeView s d n
  if active then
    if v = 1 then
      let s := s.put o5030_06 (slotPath d n) 2
      { s with home := { s.home with
          sweeps := s.home.sweeps.filter (fun w => !(w.dom == d && w.slot == n)) ++ [⟨d, n, s.clk.now⟩] } }
    else s
  else if v = 0 ∨ v = 2 then s.put o5030_06 (slotPath d n) 1 else s

/-- The slots of a VCS of a member follow its state. -/
def viewsOnVcs (active : Bool) (dev vcs : Nat) (s : State) : State :=
  (List.range 1024).foldl (fun s k =>
    if slotState s (k / 64) (k % 64) = 1 ∧ slotWord s (k / 64) (k % 64) = dev * 256 + vcs
    then slotOnVcs active (k / 64) (k % 64) s else s) s

/-- 1 is written to release isolation (Table COH-10). -/
def releaseIsolation (d n v : Nat) (s : State) : Status × State :=
  if 1 < v then (.refused, s) else if v = 0 then (.ok, s) else
  let w := slotWord s d n
  if homeView s d n = 3 ∧ ¬ s.home.sweeps.any (fun x => x.dom == d && x.slot == n)
      ∧ slotState s d n = 1 ∧ wordActive s w = true then
    (.ok, (s.put o5030_06 (slotPath d n) 0).put o5030_01 (slotPath d n) 0)
  else (.refused, s)

/-- RELEASE_ISOLATION. -/
def execReleaseIsolation (role : Role) (d : Fin 16) (n : Fin 64) (v : Nat) (s : State) : Host.Outcome State Fault Refusal :=
  .next (answered (managed role o5030_03 (slotPath d.val n.val) (releaseIsolation d.val n.val v) s))

/-- The suspect count takes only 0 (R188). -/
def suspectClear (d n v : Nat) (s : State) : Status × State :=
  if v ≠ 0 then (.refused, s) else (.ok, s.put o5030_01 (slotPath d n) 0)

/-- SUSPECT_COUNT_CLEAR. -/
def execSuspectCountClear (role : Role) (d : Fin 16) (n : Fin 64) (v : Nat) (s : State) : Host.Outcome State Fault Refusal :=
  .next (answered (managed role o5030_01 (slotPath d.val n.val) (suspectClear d.val n.val v) s))

/-! ### Membership (02 R51-R55, 06 R188, R190) -/

/-- The Imprint table of a VCS of this member changes with the slots that it holds (12 R347, R351). -/
def slotImprint (w : Nat) (s : State) : State := if bits w 11 8 = ownPos s ∧ w ≠ 0xFFFF then imprintChange (bits w 5 0) s else s

/-- A member is written to a slot: assigned where the slot is FREE and the VCS holds none in the domain. -/
def slotAssign (d n v : Nat) (s : State) : Status × State :=
  let w := v &&& 0x0F3F
  let dev := bits w 11 8
  let vcs := bits w 5 0
  if slotState s d n ≠ 0 ∨ 0xFFFF < v ∨ (16 ≤ s.val o4200_01 [] ∧ dev ≠ 0) ∨ (domSlot s d dev vcs true).isSome then
    (.refused, s)
  else
    let p := slotPath d n
    (.ok, slotImprint w (s.put o5010_01 p w |>.put o5010_02 p 1 |>.put o5030_01 p 0 |>.put o5030_06 p (if wordActive s w then 0 else 1)))

/-- 0xFFFF is written to a slot: a MEMBER slot moves to LEAVING and its bits are back-invalidated; an ISOLATED one holds none and
is FREE at once. -/
def slotRemove (d n : Nat) (s : State) : Status × State :=
  let p := slotPath d n
  if slotState s d n = 2 then (.refused, s)
  else if slotState s d n = 0 then (.ok, s)
  else if homeView s d n = 3 then (.ok, slotImprint (s.val o5010_01 p) ((s.put o5010_01 p 0xFFFF).put o5010_02 p 0))
  else
    let w := s.val o5010_01 p
    let s := (s.put o5010_01 p 0xFFFF).put o5010_02 p 2
    let s : State := { s with home := { s.home with leaving := Tbl.upd 0xFFFF s.home.leaving (64 * d + n) w } }
    (.ok, (List.range 8).foldl (fun s q => leaveNext q d n s) s)

/-- A write to a domain slot. -/
def slotWrite (d n v : Nat) (s : State) : Status × State := if v = 0xFFFF then slotRemove d n s else slotAssign d n v s

/-- LEAVING_COMPLETE: no entry of any slice has the slot's bit, and no invalidation of it runs: the slot is FREE (R55). -/
def execLeavingComplete (d : Fin 16) (n : Fin 64) (s : State) : Host.Outcome State Fault Refusal :=
  .next <|
    let busy := (List.range 8).any fun q =>
      !(regsWith s q d.val n.val).isEmpty || (opsOf s q).any fun o => match o.why with
        | .leave d' n' _ => d' == d.val && n' == n.val
        | _ => false
    if slotState s d.val n.val ≠ 2 ∨ busy = true then s
    else
      let w := slotWord s d.val n.val
      let s := s.put o5010_02 (slotPath d.val n.val) 0
      slotImprint w { s with home := { s.home with leaving := Tbl.upd 0xFFFF s.home.leaving (64 * d.val + n.val) 0xFFFF } }

/-! ### Inspection (06 R192) -/

/-- The state, vector and wait-list length of a line. A quire that is not the home answers state 0b111. The manual gives no
layout: the state in the first byte, the vector in the next eight, the length in the last two. A line is in T while a transaction holds it,
its region is recalled, or the rebuild sweep holds its region. [DESIGN CHOICE, log 61] -/
def inspectLine (s : State) (q a : Nat) : Nat :=
  if caDev a ≠ ownPos s ∨ substQuire s (homeQuire a) ≠ q then 7 else
  let L := lineOf s (a / 64)
  let ((_, st, sh), _) := lookupDir q a s
  let recalled := match findReg s q a with
    | some k => (regEnt s q k).busy == 1
    | none => false
  let held := L.begun || L.looked || recalled || Tbl.look none s.dir.rebuild q == some (a / 4096 * 4096)
  let n := if L.begun ∨ L.looked then L.reqs.length - 1 else L.reqs.length
  (if held then 4 else st) + (if L.begun then L.held else sh) * 2 ^ 8 + n * 2 ^ 72

def homeInspect (q a : Nat) (s : State) : Status × State :=
  if 2 ^ 64 ≤ a ∨ (16 ≤ s.val o4200_01 [] ∧ caDev a ≠ 0) then (.refused, s) else (.ok, (s.put o5042_01 [pQ q] a).put o5042_02 [pQ q] (inspectLine s q a))

/-- HOME_INSPECT. -/
def execHomeInspect (role : Role) (q : Fin 8) (a : Nat) (s : State) : Host.Outcome State Fault Refusal :=
  .next (answered (managed role o5042_01 [pQ q.val] (homeInspect q.val a) s))

/-! ### Recalls, evictions and demotions end (07 R202, R205, R208) -/

/-- A region entry whose range is no longer homed is discarded when its recall or demotion ends (06 Table COH-3). -/
def keepHomed (q k : Nat) (s : State) : State := if homedStill s (regionAddr s k (regEnt s q k)) then s else dropReg q k s

/-- A region recall ends: the region entry takes the result, with the slots that were left sharing, and the lines that waited are served. -/
def regionRecallComplete (q : Nat) (s : State) : State :=
    match firstDone s q fun w => match w with
      | .recallOf .. => true
      | _ => false with
    | none => s
    | some o =>
      match o.why with
      | .recallOf k st u =>
        let s := sweepIsolated q o.dom k (dropOp q o.id s)
        let e := regEnt s q k
        let a := regionAddr s k e
        let u := if st = 1 then u ||| e.sharers else u
        setReg q k { e with state := if u = 0 ∧ st ≠ 3 then 0 else st, sharers := u, busy := 0 } s
        |> keepHomed q k |> kickRegion q a |> serve q (k / 16) |> settleHome q
      | _ => s

/-- An eviction ends: the block is freed, the entry is invalid, and the request that caused the eviction takes the way. -/
def evictionComplete (q : Nat) (s : State) : State :=
    match firstDone s q fun w => match w with
      | .evict _ => true
      | _ => false with
    | none => s
    | some o =>
      match o.why with
      | .evict k =>
        let a := regionAddr s k (regEnt s q k)
        let s := dropReg q k (sweepIsolated q o.dom k (dropOp q o.id s))
        let s := match (waitsOf s q (k / 16)).find? fun w => w.evicting == some k with
          | some w =>
            if (findReg s q (w.line * 64)).isSome ∨ homedStill s (w.line * 64) = false then
              setWaits q (k / 16) ((waitsOf s q (k / 16)).map fun v => if v.evicting = some k then { v with evicting := none } else v) s
            else endWait q (k / 16) w (fillWay q k (w.line * 64) s)
          | none => s
        kickRegion q a s |> serve q (k / 16) |> settleHome q
      | _ => s

/-- The lines of a promoted region whose owners a demotion snoops: those in E/M, where more than one slot holds the block (R205). -/
def demoteLines (s : State) (q k : Nat) : List Nat :=
  let b := (regEnt s q k).block
  if popcount (blockUnion s q b) ≤ 1 then [] else (List.range 64).filter fun j => (lineEnt s q (64 * b + j)).state == 2

/-- BISnpData to the owner of each of those lines. -/
def demoteRound (q k : Nat) (s : State) : State :=
  let e := regEnt s q k
  let a := regionAddr s k e
  let js := demoteLines s q k
  let ts := js.flatMap fun j => (snoopable s (domAt s a) (lineEnt s q (64 * e.block + j)).sharers).map fun n => (n, a + 64 * j)
  (unicastOp q (domAt s a) .biSnpData (.demote k js) ts s).2

/-- A demotion begins (R205). -/
def startDemote (q k : Nat) (s : State) : State := demoteRound q k (setReg q k { regEnt s q k with busy := 3 } s)

/-- A promoted region may be demoted: no line of it is in T and it is not being recalled or evicted (R204). -/
def demotable (s : State) (q k : Nat) : Bool :=
  let e := regEnt s q k
  e.valid && e.prom && e.busy == 0 && !regionInT s q (regionAddr s k e) && mayEvict s q (domAt s (regionAddr s k e))

/-- A demotion's snoops are answered: every line snooped is in S, and the block is folded, unless writes have left other lines in E/M. -/
def demotionComplete (q : Nat) (s : State) : State :=
    match firstDone s q fun w => match w with
      | .demote .. => true
      | _ => false with
    | none => s
    | some o =>
      match o.why with
      | .demote k js =>
        let s := sweepIsolated q o.dom k (dropOp q o.id s)
        let e := regEnt s q k
        let a := regionAddr s k e
        let s := js.foldl (fun s j =>
          let i := 64 * e.block + j
          let l := lineEnt s q i
          if l.state = 2 then setLine q i { l with state := 1 } s else s) s
        if (demoteLines s q k).isEmpty = false then settleHome q (demoteRound q k s)
        else foldBlock q k s |> keepHomed q k |> kickRegion q a |> serve q (k / 16) |> settleHome q
      | _ => s

/-- The walker's visit of an entry (R204). -/
def visitEntry (q k : Nat) (s : State) : State :=
  let e := regEnt s q k
  if ¬ e.prom then setReg q k { e with hits := 0, ref := false } s
  else
    let e' := { e with quiet := if e.ref then 0 else min 15 (e.quiet + 1), ref := false }
    let s := (List.range 64).foldl (fun s j =>
      let i := 64 * e.block + j
      setLine q i { lineEnt s q i with touch := false } s) (setReg q k e' s)
    if s.val o5110_02 [pDOM (domAt s (regionAddr s k e))] ≤ e'.quiet ∧ demotable s q k = true then startDemote q k s else s

/-- WALKER_VISIT: the walker of quire `q` visits its next valid entry; `es` is what it finds, by line of the region. A pass takes 4 ms; the walker runs
only while the slice is in service. [DESIGN CHOICE, log 62] -/
def execWalkerVisit (q : Fin 8) (es : List (Fin 64 × DirErr)) (s : State) : Host.Outcome State Fault Refusal :=
  .next <|
    if sliceState s q.val ≠ 0 then s else
    let at_ := Tbl.look 0 s.dir.walk q.val
    let ks := validRegs s q.val
    let (k, s) := match ks.find? fun k => decide (at_ ≤ k) with
      | some k => (some k, s)
      | none =>
        let t := Tbl.look 0 s.dir.passAt q.val + ms 4
        let s := advanceTo t s
        (ks.head?, { s with dir := { s.dir with passAt := Tbl.upd 0 s.dir.passAt q.val s.clk.now } })
    match k with
    | none => s
    | some k =>
      let s : State := { s with dir := { s.dir with walk := Tbl.upd 0 s.dir.walk q.val (k + 1) } }
      let a := regionAddr s k (regEnt s q.val k)
      let s := es.foldl (fun s e => entryError q.val (a + 64 * e.1.val) (some e.2) s) s
      settleHome q.val (if (regEnt s q.val k).valid then visitEntry q.val k s else s)

/-- BACKGROUND_DEMOTION: while fewer blocks than the reserve are free, until the reserve and 64 more are, the slice demotes a
promoted region: REF 0 first, then the highest QUIET (R210). -/
def execBackgroundDemotion (q : Fin 8) (s : State) : Host.Outcome State Fault Refusal :=
  .next <|
    let free := 16384 - blocksUsed s q.val
    let reserve := s.val o5120_01 [pQ q.val]
    let on := if Tbl.look false s.dir.bg q.val then decide (free < reserve + 64) else decide (free < reserve)
    let s : State := { s with dir := { s.dir with bg := Tbl.upd false s.dir.bg q.val on } }
    if ¬ on ∨ sliceState s q.val ≠ 0 then s else
    let rank := fun k : Nat => b2n (regEnt s q.val k).ref * 16 + (15 - (regEnt s q.val k).quiet)
    let best := ((validRegs s q.val).filter (demotable s q.val)).foldl (fun b k => match b with
      | none => some k
      | some j => if rank k < rank j then some k else some j) none
    match best with
    | some k => settleHome q.val (startDemote q.val k s)
    | none => s

/-! ### Slices leave service and return (07 R217-R219, R593) -/

/-- 1 is written to take a slice out of service. -/
def sliceOut (q v : Nat) (s : State) : Status × State :=
  if 1 < v then (.refused, s) else if v = 0 then (.ok, s) else (.ok, settleHome q (takeOut q 1 s))

/-- SLICE_OUT_OF_SERVICE. -/
def execSliceOutOfService (role : Role) (q : Fin 8) (v : Nat) (s : State) : Host.Outcome State Fault Refusal :=
  .next (answered (managed role o5100_02 [pQ q.val] (sliceOut q.val v) s))

/-- Nothing that began with a directory lookup is under way at a quire. -/
def drained (s : State) (q : Nat) : Bool :=
  !(s.home.lines.any fun e => e.2.q == q && e.2.begun && e.2.dir)
  && !((opsOf s q).any fun o => match o.why with
      | .evict _ | .demote .. | .recallOf .. => true
      | _ => false)

/-- SLICE_DRAIN_COMPLETE: a draining slice with nothing under way is OUT. -/
def execSliceDrainComplete (q : Fin 8) (s : State) : Host.Outcome State Fault Refusal :=
  .next (if sliceState s q.val = 1 ∧ drained s q.val = true then settleHome q.val (emptySlice q.val s) else s)

/-- The rebuild sweep goes on to the lowest homed region at or above an address, or the slice is in service; FALLBACK is cleared
once no other slice is out. -/
def rebuildFrom (q a : Nat) (s : State) : State :=
  match nextHomed s q a with
  | some r =>
    { s.put o5100_05 [pQ q] r with
      dir := { (s.put o5100_05 [pQ q] r).dir with rebuild := Tbl.upd none s.dir.rebuild q (some r) } }
    |> tryRebuild q
  | none =>
    let s : State := { s with dir := { s.dir with rebuild := Tbl.upd none s.dir.rebuild q none } }
    let s := (s.put o5100_01 [pQ q] 0).put o5100_05 [pQ q] 0
    if (List.range 8).all (fun k => sliceState s k == 0) then setFallback false s else s

/-- A slice begins its rebuild. -/
def sliceReturn1 (q : Nat) (s : State) : State :=
  let s := (clearSlice q (abortTest [pQ q, pDIR] s)).put o5100_01 [pQ q] 3
  rebuildFrom q 0 { s with dir := { s.dir with rebuildAt := Tbl.upd 0 s.dir.rebuildAt q s.clk.now } }

/-- 1 is written to return a slice: refused unless it is OUT, and while its last self-test failed (21 R577). -/
def sliceReturn (q v : Nat) (s : State) : Status × State :=
  if 1 < v then (.refused, s) else if v = 0 then (.ok, s)
  else if sliceState s q ≠ 2 ∨ testStatus s [pQ q, pDIR] = 4 then (.refused, s) else (.ok, settleHome q (sliceReturn1 q s))

/-- SLICE_RETURN. -/
def execSliceReturn (role : Role) (q : Fin 8) (v : Nat) (s : State) : Host.Outcome State Fault Refusal :=
  .next (answered (managed role o5100_03 [pQ q.val] (sliceReturn q.val v) s))

/-- REBUILD_REGION_ANSWERED: the region is directory-served with no entry, and the pointer moves on. -/
def execRebuildRegionAnswered (q : Fin 8) (s : State) : Host.Outcome State Fault Refusal :=
  .next <|
    match firstDone s q.val (fun w => w == .rebuild), Tbl.look none s.dir.rebuild q.val with
    | some o, some a =>
      let s := rebuildFrom q.val (a + 4096) (dropOp q.val o.id s)
      settleHome q.val (kickRegion q.val a s)
    | _, _ => s

/-! ### A quire is lost or reset (16 R463, 08 R243) -/

/-- The transactions, writes and snoops of a quire's home are lost. -/
def homeLost (q : Nat) (s : State) : State :=
  let h : Home := { s.home with
    lines := s.home.lines.filter fun e => e.2.q != q
    ops := Tbl.upd [] s.home.ops q []
    wbuf := Tbl.upd [] s.home.wbuf q []
    toPoison := Tbl.upd [] s.home.toPoison q []
    parts := Tbl.upd [] s.home.parts q [] }
  let g : Stage := { s.stg with toHome := Tbl.upd [] s.stg.toHome q [] }
  { s with home := h, stg := g }

/-- The home of a quire holds no transaction, write or snoop (18 R523). -/
def homeIdle (s : State) (q : Nat) : Bool :=
  (opsOf s q).isEmpty && (wbufOf s q).isEmpty && (Tbl.look [] s.home.toPoison q).isEmpty && !(s.home.lines.any fun e => e.2.q == q)
  && (Tbl.look [] s.stg.toHome q).isEmpty

end Sys2Proof.Machine
end

