-- ==== Sys2Proof/Machine/Pool.lean ====
section
/-!
DEFINITION. Pooled memory (08) and the range table (06 R157-R159): block records, the operations of a block with their journal,
scrub, quarantine and recovery, and the conversions of a range.
-/
namespace Sys2Proof.Machine

def blk (s : State) (b : Nat) : Option Block := Tbl.look none s.blocks b

def setBlk (b : Nat) (v : Option Block) (s : State) : State := { s with blocks := Tbl.upd none s.blocks b v }

/-- A block's record changed by a function. -/
def modBlk (b : Nat) (f : Block → Block) (s : State) : State :=
  match blk s b with
  | some v => setBlk b (some (f v)) s
  | none => s

/-- VIN_WARN_N is asserted: no journal record is begun and no step starts (R245). [DEDUCED, log 71] -/
def vinWarn (s : State) : Bool := s.flag oA004_01 []

/-! ### Owners (Table POL-1, R231, R234) -/

/-- The VCS is active. -/
def vcsActive (s : State) (n : Nat) : Bool := s.val o4100_05 [pVCS n] == 2

/-- The VCSs that a block's owner stands for, as (bit of the answers, member, VCS): a KIND 0 owner, or the active members of its domain. [DEDUCED, log 68] -/
def ownersOf (s : State) (kind enc : Nat) : List (Nat × Nat × Nat) :=
  if enc = 0xFFF then []
  else if kind = 0 then (vcsOfPbr s enc).toList.map fun n => (n, ownPos s, n)
  else
    ((List.range 64).filter fun n => slotState s (enc % 16) n == 1 && wordActive s (slotWord s (enc % 16) n)).map fun n =>
      (n, bits (slotWord s (enc % 16) n) 11 8, bits (slotWord s (enc % 16) n) 5 0)

/-- The colour of an owner: of the VCS, or of the domain. -/
def ownerColour (s : State) (kind enc : Nat) : Nat :=
  if kind = 0 then
    match vcsOfPbr s enc with
    | some n => s.val o5230_04 [pVCS n]
    | none => 0
  else s.val o5230_07 [pDOM (enc % 16)]

/-- A slot map entry of an owner: the VCS's map, or the domain's. -/
def mapSlot (s : State) (kind enc k : Nat) : Obj × Path :=
  if kind = 0 then (o5230_03, [pVCS ((vcsOfPbr s enc).getD 0), pM k]) else (o5230_06, [pDOM (enc % 16), pM k])

/-- A DPA slot is reserved for a running operation toward an owner (R236). -/
def slotReserved (s : State) (kind enc k : Nat) : Bool :=
  s.blocks.any fun e => match e.2 with
    | some v => v.run && v.slot == some k && v.next == enc && v.nkind == kind
    | none => false

/-- The lowest DPA slot that is free and unreserved. -/
def freeSlot (s : State) (kind enc : Nat) : Option Nat :=
  (List.range 4096).find? fun k =>
    let (o, p) := mapSlot s kind enc k
    s.val o p == 0xFFFF && !slotReserved s kind enc k

/-- The DPA slot that a block holds in its owner's map. -/
def heldSlot (s : State) (b : Nat) (v : Block) : Option Nat :=
  (List.range 4096).find? fun k =>
    let (o, p) := mapSlot s v.kind v.owner k
    s.val o p == b

/-- A capacity event goes to every VCS of an owner, over Folio to one of another member. [DEDUCED, log 68] -/
def capacityEvent (b kind enc what : Nat) (slot : Option Nat) (s : State) : State :=
  (ownersOf s kind enc).foldl (fun s o =>
    if o.2.1 = ownPos s then emit (.capacity o.2.2 what b slot) s else tell o.2.1 (.capacity o.2.2 what b slot) s) s

/-- A block leaves its owner's slot map. -/
def unmap (b : Nat) (v : Block) (s : State) : State :=
  if v.owner = 0xFFF then s else
  match heldSlot s b v with
  | some k => s.put (mapSlot s v.kind v.owner k).1 (mapSlot s v.kind v.owner k).2 0xFFFF
  | none => s

/-! ### The journal (R240, R241, R245) -/

/-- A record that announces a step is requested. -/
def journal (b step : Nat) (s : State) : State :=
  match blk s b with
  | none => s
  | some v =>
    let n := (s.pool.seq + 1) % 2 ^ 32
    let r : JRec := { seq := n, block := b, step := step, rec_ := v, colour := ownerColour s v.nkind v.next
                      time := tbNs s, begun := !vinWarn s }
    { setBlk b (some { v with waitRec := true }) s with pool := { s.pool with seq := n, wait := s.pool.wait ++ [r] } }

/-- Operations that were commanded and run. -/
def opsRunning (s : State) : Nat :=
  (s.blocks.filter fun e => match e.2 with
    | some v => v.run && v.cmd
    | none => false).length

/-- An operation ends with a status: its reservation is released and a closing record is requested (R241). -/
def closeOp (b status : Nat) (s : State) : State :=
  match blk s b with
  | none => s
  | some v =>
    let s := if v.run ∧ v.cmd then s.put o5220_02 [pCB b] status else s
    let v := { v with run := false, cmd := false, step := 0, next := 0xFFF, nkind := 0, slot := none, forced := false, ask := 0,
                      whole := false, scrubAt := none, colourDone := none }
    let s := setBlk b (some v) s
    let s : State := { s with pool := { s.pool with scrubs := s.pool.scrubs.filter (· != b) } }
    (journal b 7 s).put o5220_04 [] (opsRunning s)

/-! ### Colour (R225, R233, R259) -/

/-- Every other member takes a block's COLOUR into its copy (09 R259). [DESIGN CHOICE, log 170] -/
def tellColour (b : Nat) (s : State) : State :=
  match blk s b with
  | some v => tellAll (.colours [(v.base, v.colour)])
      (setBlk b (some { v with seen := [], behind := (otherMembers s).foldl (fun m k => m ||| 2 ^ k) 0 }) s)
  | none => s

/-- A block's COLOUR changes; checkers apply it, each between two accesses, until the change reports complete. -/
def commitColour (b c : Nat) (s : State) : State := tellColour b (modBlk b (fun v => { v with colour := c, colourDone := none }) s)

/-- Member `k` says that its checkers use the COLOUR of the block at `base`. [DESIGN CHOICE, log 170] -/
def memberColoured (k base c : Nat) (s : State) : State :=
  s.blocks.foldl (fun s e => match e.2 with
    | some v => if v.base = base ∧ v.colour = c then setBlk e.1 (some { v with behind := dropSlot v.behind k }) s else s
    | none => s) s

/-- Quarantine (R247). [DEDUCED, log 70] -/
def quarantine (b : Nat) (s : State) : State :=
  match blk s b with
  | none => s
  | some v =>
    let s := if v.run ∧ v.cmd then s.put o5220_02 [pCB b] 5 else s
    let s := if v.state = 1 then unmap b v (capacityEvent b v.kind v.owner 1 (heldSlot s b v) s) else s
    let t := s.val o5210_04 []
    let v := { v with run := false, cmd := false, step := 0, next := 0xFFF, nkind := 0, slot := none, forced := false, ask := 0,
                      whole := false, scrubAt := none, fenced := false, state := 4,
                      owner := if v.state = 1 then 0xFFF else v.owner,
                      colour := t, colourDone := if v.colour = t then v.colourDone else none }
    let s := setBlk b (some v) s
    let s := if ((blk s b).map (·.applied)) = some t then s else tellColour b s
    let s : State := { s with pool := { s.pool with scrubs := s.pool.scrubs.filter (· != b) } }
    (journal b 0 s).put o5220_04 [] (opsRunning s)

/-! ### Steps (R231-R234, R237) -/

/-- The block's range is served by the directory at a quire now. -/
def blockDir (s : State) (q a : Nat) : Bool := dirServed s q a

/-- A recall of the block is under way. -/
def recalling (s : State) (b : Nat) : Bool :=
  s.home.ops.any fun e => e.2.any fun o => match o.why with
    | .pool c _ => c == b
    | _ => false

/-- The recall of step 2 at one quire: the tracked regions one by one, or every block of the capacity block to every member, or in a
pass-through range to the host bound to it (R232). [DESIGN CHOICE, log 183] -/
def recallAt (b : Nat) (v : Block) (s : State) (q : Nat) : State :=
  let a := v.base * 2 ^ 28
  match rangeAt s a with
  | none => s
  | some (_, w) =>
    if rangeMode w = 3 then
      match (if v.step = 2 ∧ v.kind = 0 then vcsOfPbr s v.owner else none) with
      | some n =>
        if (upOf s n).any Config.biChannels then (ringOp q 16 .biSnpInvBlk (.pool b []) a 131072 true (2 ^ n) s).2 else s
      | none => s
    else
      let dom := rangeDom w
      if v.whole ∨ ¬ blockDir s q (wideRegion q a 0) then
        let r := ringOp q dom .biSnpInvBlk (.pool b []) a 131072 true (memberMask s dom) s
        match (opsOf r.2 q).find? (·.id == r.1) with
        | some o => answered1 q o r.2
        | none => r.2
      else
        let ks := (validRegs s q).filter fun k =>
          let e := regEnt s q k
          e.busy == 0 && regionAddr s k e / 2 ^ 28 == v.base
        if ks.isEmpty then s else
        let rs := ks.map fun k => regionAddr s k (regEnt s q k)
        let s := ks.foldl (fun s k => setReg q k { regEnt s q k with busy := 2 } s) s
        (ringOp q dom .biSnpInvBlk (.pool b rs) a (16 * rs.length) false (2 ^ 64 - 1) s).2

/-- Region entries of a block in slices that serve it from the directory. -/
def blockEntries (s : State) (v : Block) : Bool :=
  (List.range 8).any fun q => (validRegs s q).any fun k => regionAddr s k (regEnt s q k) / 2 ^ 28 == v.base

/-- Step 2 goes on: further recalls while entries remain, then the record of step 3. -/
def step2Go (b : Nat) (s : State) : State :=
  match blk s b with
  | none => s
  | some v =>
    if ¬ v.run ∨ v.step ≠ 2 ∨ recalling s b = true ∨ v.waitRec = true then s
    else if v.whole = true ∨ ¬ blockEntries s v then journal b 3 (modBlk b (fun v => { v with whole := false }) s)
    else (List.range 8).foldl (recallAt b v) s

/-- Blocks whose step 2 may end. -/
def poolPoll (s : State) : State :=
  s.blocks.foldl (fun s e => match e.2 with
    | some v => if v.step = 2 then step2Go e.1 s else s
    | none => s) s

/-- The memory port of a block. -/
def blockPort (v : Block) : Nat := caPort (v.base * 2 ^ 28)

/-- Scrubs begin in command order, as many as 0x5210.03 allows and at most 2 on one memory port whose link is up (R237). The writes of a
zero-fill invalidate their lines like internal writes, and take the place of poison writes that have not left (06 R191). [DESIGN CHOICE, log 64] -/
def startScrubs (s : State) : State :=
  s.pool.scrubs.foldl (fun s b => match blk s b with
    | none => s
    | some v =>
      let on := s.pool.scrubs.filterMap fun c => (blk s c).bind fun w => if w.scrubAt.isSome then some (blockPort w) else none
      if v.scrubAt.isSome ∨ v.waitRec = true ∨ s.val o5210_03 [] ≤ on.length ∨ 2 ≤ (on.filter (· == blockPort v)).length
          ∨ linkOf s (blockPort v) ≠ 2 then s
      else
        let s := setBlk b (some { v with scrubAt := some s.clk.now }) s
        if v.scrubm = 0 then (List.range 8).foldl (recallAt b v) s else s) s

/-- Blocks scrub in command order (R237). -/
def inOrder (s : State) (b : Nat) : List Nat → List Nat
  | [] => [b]
  | c :: r =>
    let at_ := fun k => ((blk s k).map (·.opid)).getD 0
    if at_ b < at_ c then b :: c :: r else c :: inOrder s b r

/-- Step 1 ends: the old owner's slot is cleared and the record of step 2 is requested. [DEDUCED, log 68] -/
def endStep1 (b : Nat) (s : State) : State :=
  match blk s b with
  | none => s
  | some v => journal b 2 (unmap b v (setBlk b (some { v with ask := 0 }) s))

/-- A step starts, its record being durable. [DEDUCED, log 66; DEDUCED, log 68] -/
def startStep (b step : Nat) (s : State) : State :=
  let s := modBlk b (fun v => { v with waitRec := false, step := if step < 7 then step else v.step }) s
  match blk s b with
  | none => s
  | some v =>
    match step with
    | 1 =>
      let vs := ownersOf s v.kind v.owner
      if v.forced then endStep1 b (capacityEvent b v.kind v.owner 1 (heldSlot s b v) s)
      else if vs.isEmpty ∨ ¬ vs.all (fun o => o.2.1 != ownPos s || vcsActive s o.2.2) then
        endStep1 b (setBlk b (some { v with forced := true }) s)
      else
        capacityEvent b v.kind v.owner 0 (heldSlot s b v)
          (setBlk b (some { v with ask := vs.foldl (fun m o => m ||| 2 ^ o.1) 0, until_ := s.clk.now + sec (s.val o5210_01 []) }) s)
    | 2 =>
      let v := { v with state := 2, fenced := true }
      step2Go b ((List.range 8).foldl (recallAt b v) (setBlk b (some v) s))
    | 3 => commitColour b (s.val o5210_04 []) s
    | 4 =>
      let s := setBlk b (some { v with state := 3, scrubAt := none }) s
      startScrubs { s with pool := { s.pool with scrubs := inOrder s b (s.pool.scrubs.filter (· != b)) } }
    | 5 =>
      commitColour b (ownerColour s v.nkind v.next)
        (setBlk b (some { v with state := 1, owner := v.next, kind := v.nkind, fenced := false }) s)
    | 6 =>
      let s := match v.slot with
        | some k => s.put (mapSlot s v.kind v.owner k).1 (mapSlot s v.kind v.owner k).2 b
        | none => s
      closeOp b 2 (capacityEvent b v.kind v.owner 2 v.slot s)
    | _ => s

/-- A record is durable, on both copies or on one; with both failed, the step does not start and the operation ends with status 3
(R240). -/
def recordDurable (failed : Nat) (s : State) : State :=
  match s.pool.wait with
  | [] => s
  | r :: rest =>
    if ¬ r.begun then s else
    let s : State := { s with pool := { s.pool with wait := rest } }
    let s := if failed = 0 then s
      else raiseFault 0x505 0x19 (ctxBlock r.block) (s.bump o5240_03 [] failed)
    let live := match blk s r.block with
      | some v => v.base == r.rec_.base && v.opid == r.rec_.opid && (v.run || r.step == 7 || r.step == 0)
      | none => false
    if failed = 2 then
      if live = true ∧ 0 < r.step ∧ r.step < 7 then closeOp r.block 3 (modBlk r.block (fun v => { v with waitRec := false }) s)
      else modBlk r.block (fun v => { v with waitRec := false }) s
    else
      let s := (s.put o5240_01 [] r.seq).put o5240_02 [] ((s.val o5240_02 [] + 1) % 4096)
      let s : State := { s with pool := { s.pool with last := Tbl.upd none s.pool.last r.block (some r) } }
      if ¬ live then s
      else if r.step = 0 ∨ r.step = 7 then modBlk r.block (fun v => { v with waitRec := false }) s
      else if vinWarn s then { s with pool := { s.pool with held := s.pool.held ++ [(r.block, r.step)] } }
      else startStep r.block r.step s

/-- JOURNAL_RECORD_DURABLE: the oldest record begun is written; `failed` copies of it failed. [DEDUCED, log 71] -/
def execJournalRecordDurable (failed : Fin 3) (s : State) : Host.Outcome State Fault Refusal :=
  .next (recordDurable failed.val s)

/-- VIN_WARN_N is deasserted: records not begun are begun, and the steps held back start (R245). -/
def resumePool (s : State) : State :=
  let h := s.pool.held
  let s : State := { s with pool := { s.pool with
    held := [], wait := s.pool.wait.map fun r => { r with begun := true } } }
  h.foldl (fun s e => startStep e.1 e.2 s) s

/-! ### Commands (R227-R229, R235-R238, R260) -/

/-- A pooled plate covers the whole block. -/
def inPooledPlate (s : State) (v : Block) : Bool :=
  match plateAt s 0 (v.base * 2 ^ 28) with
  | some (_, w) => platePooled w && decide (v.base * 2 ^ 28 + 2 ^ 28 ≤ plateEnd w * 256 + 256)
  | none => false

/-- The new owner may hold the block: KIND 1 in a homed or broadcast-homed range of that domain (R227), KIND 0 there only with a
slot in the range's domain (R228). [DEDUCED, log 67] -/
def ownerOk (s : State) (v : Block) (nkind dest : Nat) : Bool :=
  match rangeAt s (v.base * 2 ^ 28) with
  | none => false
  | some (_, w) =>
    if nkind = 1 then rangeMode w != 3 && dest == rangeDom w
    else match vcsOfPbr s dest with
      | some n => rangeMode w == 3 || (domSlot s (rangeDom w) (ownPos s) n false).isSome
      | none => false

/-- The memory device of a block is there. -/
def blockPresent (s : State) (v : Block) : Bool := s.val o2020_03 [pP (blockPort v)] != 0

/-- The command word of a block: `op` 1 bind, 2 release, 3 re-bind. [DEDUCED, log 67] -/
def blockCommand (b op forced nkind scrubm dest : Nat) (s : State) : Status × State :=
  match blk s b with
  | none => (.refused, s)
  | some v =>
    let sanitizeOk := (Tbl.look {} s.devs (blockPort v)).sanitize
    let fits := (op = 1 ∧ v.state = 0) ∨ (op = 2 ∧ (v.state = 1 ∨ (v.state = 4 ∧ blockPresent s v = true)))
      ∨ (op = 3 ∧ v.state = 1)
    let dest := if op = 2 then 0xFFF else dest
    let slot := if op = 2 then none else freeSlot s nkind dest
    if op = 0 ∨ 1 < scrubm ∨ (scrubm = 1 ∧ ¬ sanitizeOk) ∨ v.run = true ∨ ¬ fits ∨ 256 ≤ opsRunning s then (.refused, s)
    else if op ≠ 2 ∧ (dest = 0xFFF ∨ ¬ ownerOk s v nkind dest ∨ ¬ inPooledPlate s v ∨ slot = none) then (.refused, s)
    else
      let id := s.pool.opid + 1
      let v' := { v with run := true, cmd := true, opid := id, next := dest, nkind := if op = 2 then 0 else nkind
                         forced := decide (forced = 1) && op != 1, scrubm := scrubm, owner0 := v.owner, slot := slot
                         fails := if v.state = 4 then 0 else v.fails }
      let s := setBlk b (some v') { s with pool := { s.pool with opid := id } }
      let s := (s.put o5220_02 [pCB b] 1).put o5220_03 [pCB b] 0 |>.put o5220_04 [] (opsRunning s)
      (.ok, journal b (if v.state = 4 then 4 else if op = 1 then 5 else 1) s)

/-- The command word as written: [31:30] OP, [29] FORCED, [28] NKIND, [27:26] SCRUBM, [25:14] TO. -/
def blockWord (b w : Nat) (s : State) : Status × State :=
  if 2 ^ 32 ≤ w then (.refused, s) else
  blockCommand b (bits w 31 30) (bits w 29 29) (bits w 28 28) (bits w 27 26) (bits w 25 14) s

/-- BLOCK_BIND. -/
def execBlockBind (role : Role) (b : Fin 65536) (nkind : Bool) (scrubm : Fin 4) (dest : Fin 4096) (s : State) :
    Host.Outcome State Fault Refusal :=
  .next (answered (managed role o5220_01 [pCB b.val] (blockCommand b.val 1 0 (b2n nkind) scrubm.val dest.val) s))

/-- BLOCK_RELEASE. -/
def execBlockRelease (role : Role) (b : Fin 65536) (forced : Bool) (scrubm : Fin 4) (s : State) :
    Host.Outcome State Fault Refusal :=
  .next (answered (managed role o5220_01 [pCB b.val] (blockCommand b.val 2 (b2n forced) 0 scrubm.val 0xFFF) s))

/-- BLOCK_REBIND. -/
def execBlockRebind (role : Role) (b : Fin 65536) (forced nkind : Bool) (scrubm : Fin 4) (dest : Fin 4096) (s : State) :
    Host.Outcome State Fault Refusal :=
  .next (answered (managed role o5220_01 [pCB b.val] (blockCommand b.val 3 (b2n forced) (b2n nkind) scrubm.val dest.val) s))

/-! ### Answers and timers -/

/-- The bit of a VCS of a member among the answers that step 1 of a block waits for. -/
def askBit (s : State) (v : Block) (dev vcs : Nat) : Nat :=
  if v.kind = 0 then vcs else (domSlot s (v.owner % 16) dev vcs true).getD 64

/-- An owner answers Release Dynamic Capacity, with the extent or without it (R231). -/
def releaseAnswer (b dev vcs : Nat) (extent : Bool) (s : State) : State :=
  match blk s b with
  | none => s
  | some v =>
    let n := askBit s v dev vcs
    if ¬ v.run ∨ v.step ≠ 1 ∨ v.waitRec = true ∨ ¬ bit v.ask n then s
    else if ¬ extent then closeOp b 3 s
    else
      let m := dropSlot v.ask n
      let s := setBlk b (some { v with ask := m }) s
      if m = 0 then endStep1 b s else s

/-- The owner's answer to Add Capacity is recorded (R234). -/
def addAnswer (b dev vcs : Nat) (accepted : Bool) (s : State) : State :=
  match blk s b with
  | none => s
  | some v =>
    if v.state = 1 ∧ (ownersOf s v.kind v.owner).any (fun o => o.2 == (dev, vcs)) = true then
      s.put o5220_03 [pCB b] (if accepted then 1 else 2)
    else s

/-- A host's answer to a capacity event of another member goes there; none was sent to it for a block of this one. [DEDUCED, log 68] -/
def answerFar (b vcs what : Nat) (ok : Bool) (s : State) : Option State :=
  match takeFirst (fun a : Nat × Nat × Nat × Nat => a.2 == (b, vcs, what)) s.forme.asked with
  | some (a, r) => some (tell a.1 (.capacityAnswer vcs what b ok) { s with forme := { s.forme with asked := r } })
  | none => none

/-- RELEASE_CAPACITY_RESPONSE: a host answers Release Dynamic Capacity. -/
def execReleaseCapacityResponse (b : Fin 65536) (vcs : Fin 64) (extent : Bool) (s : State) :
    Host.Outcome State Fault Refusal :=
  .next ((answerFar b.val vcs.val 0 extent s).getD (releaseAnswer b.val (ownPos s) vcs.val extent s))

/-- RELEASE_TIMEOUT: the release timeout ends the operation with status 3 (R231). -/
def execReleaseTimeout (b : Fin 65536) (s : State) : Host.Outcome State Fault Refusal :=
  .next <| match blk s b.val with
    | none => s
    | some v =>
      if ¬ v.run ∨ v.step ≠ 1 ∨ v.ask = 0 then s else closeOp b.val 3 (advanceTo v.until_ s)

/-- The home's write buffer and request tracker hold nothing for a block, and for a pass-through range the memory port's tracker
holds no write to it (R233). -/
def blockSettled (s : State) (v : Block) : Bool :=
  !(s.home.lines.any fun e => e.1 / 2 ^ 22 == v.base)
  && (List.range 8).all (fun q => !((wbufOf s q).any fun w => w.line / 2 ^ 22 == v.base))
  && (match rangeAt s (v.base * 2 ^ 28) with
    | some (_, w) => rangeMode w != 3 ||
        !((tracksOf s (blockPort v)).any fun t => writesOp t.x.pkt.op && t.x.pkt.addr / 2 ^ 28 == v.base)
    | none => true)

/-- TRANSIT_SETTLE_TIMER: 10 µs after the commit of the transit colour reports complete, step 3 ends once the home holds
nothing (R233). -/
def execTransitSettleTimer (b : Fin 65536) (s : State) : Host.Outcome State Fault Refusal :=
  .next <| match blk s b.val with
    | none => s
    | some v =>
      match v.colourDone with
      | some t =>
        if ¬ v.run ∨ v.step ≠ 3 ∨ v.waitRec = true then s
        else
          let s := advanceTo (t + us 10) s
          if blockSettled s v then journal b.val 4 s else s
      | none => s

/-- BLOCK_COLOUR_COMMIT_COMPLETE: every checker of every member uses the block's new COLOUR (09 R259); in step 5 the record of step 6 is
requested. -/
def execBlockColourCommitComplete (b : Fin 65536) (s : State) : Host.Outcome State Fault Refusal :=
  .next <| match blk s b.val with
    | none => s
    | some v =>
      if v.colourDone.isSome ∨ ((otherMembers s).any fun k => bit v.behind k) = true then s else
      let s := setBlk b.val (some { v with applied := v.colour, colourDone := some s.clk.now, seen := [] }) s
      if v.run ∧ v.step = 5 ∧ ¬ v.waitRec then journal b.val 6 s else s

/-- Nanoseconds of a zero-fill scrub: 268,435,456 bytes at 100 GB/s (R237). [DESIGN CHOICE, log 64] -/
def scrubNs : Nat := 2684355

/-- A block's scrub ends. [DESIGN CHOICE, log 64] -/
def scrubDone (b : Nat) (s : State) : State :=
  match blk s b with
  | none => s
  | some v =>
    let gone := s.home.toPoison.map fun e => (e.1, e.2.filter fun l => l / 2 ^ 22 != v.base)
    let s : State := { s with
      pool := { s.pool with scrubs := s.pool.scrubs.filter (· != b) }
      home := { s.home with toPoison := gone.filter fun e => !e.2.isEmpty } }
    if v.next = 0xFFF then
      startScrubs (closeOp b 2 (setBlk b (some { v with state := 0, owner := 0xFFF, kind := 0, fails := 0, fenced := false }) s))
    else startScrubs (journal b 5 (setBlk b (some { v with fails := 0, scrubAt := none }) s))

/-- SCRUB_COMPLETE: a running scrub ends: a zero-fill after its time, its lines invalidated, a sanitize when the device completes. [DESIGN CHOICE, log 6; DESIGN CHOICE, log 64] -/
def execScrubComplete (b : Fin 65536) (s : State) : Host.Outcome State Fault Refusal :=
  .next <| match blk s b.val with
    | none => s
    | some v =>
      match v.scrubAt with
      | some t => if linkOf s (blockPort v) ≠ 2 ∨ (v.scrubm = 0 ∧ recalling s b.val = true) then s else scrubDone b.val (if v.scrubm = 0 then advanceTo (t + ns scrubNs) s else s)
      | none => s

/-- An attempt fails (Table POL-3, R239): it is repeated after a further STEP 4 record, or the block is quarantined at the
limit. -/
def scrubFailed (b : Nat) (s : State) : State :=
  match blk s b with
  | none => s
  | some v =>
    let n := v.fails + 1
    let s := setBlk b (some { v with fails := min n 7, scrubAt := none }) s
    let s : State := { s with pool := { s.pool with scrubs := s.pool.scrubs.filter (· != b) } }
    if s.val o5210_05 [] ≤ n then startScrubs (raiseFault 0x505 0x18 (ctxBlock b) (quarantine b s))
    else startScrubs (journal b 4 s)

/-- SCRUB_ATTEMPT_FAIL. -/
def execScrubAttemptFail (b : Fin 65536) (s : State) : Host.Outcome State Fault Refusal :=
  .next <| match blk s b.val with
    | none => s
    | some v => if v.scrubAt.isSome then scrubFailed b.val s else s

/-- SANITIZE_TIMEOUT: a device sanitize past its timeout is a failed attempt (R238). -/
def execSanitizeTimeout (b : Fin 65536) (s : State) : Host.Outcome State Fault Refusal :=
  .next <| match blk s b.val with
    | none => s
    | some v =>
      match v.scrubAt with
      | some t => if v.scrubm = 1 then scrubFailed b.val (advanceTo (t + sec (s.val o5210_02 [])) s) else s
      | none => s

/-- ADD_CAPACITY_RESPONSE: a host answers Add Capacity (R234). [DEDUCED, log 66] -/
def execAddCapacityResponse (b : Fin 65536) (vcs : Fin 64) (accepted : Bool) (s : State) :
    Host.Outcome State Fault Refusal :=
  .next ((answerFar b.val vcs.val 2 accepted s).getD (addAnswer b.val (ownPos s) vcs.val accepted s))

/-! ### Presentation and colours of owners (R226, R248) -/

/-- Pool presentation of a VCS is written: enabling needs an UNBOUND vPPB. -/
def presentationWrite (n v : Nat) (s : State) : Status × State :=
  let w := s.val o5230_02 [pVCS n]
  if 1 < v then (.refused, s)
  else if v = 1 ∧ (127 < w ∨ recState (bindRec s n w) ≠ 0) then (.refused, s)
  else (.ok, if s.val o5230_01 [pVCS n] = v then s else imprintChange n (s.put o5230_01 [pVCS n] v))

/-- POOL_PRESENTATION_ENABLE. -/
def execPoolPresentationEnable (role : Role) (n : Fin 64) (v : Nat) (s : State) : Host.Outcome State Fault Refusal :=
  .next (answered (managed role o5230_01 [pVCS n.val] (presentationWrite n.val v) s))

/-- The vPPB of a VCS's enabled pool presentation. -/
def presents (s : State) (n v : Nat) : Bool := s.flag o5230_01 [pVCS n] && s.val o5230_02 [pVCS n] == v

/-- The colour of a VCS or of a domain is written: refused while a block is BOUND with the present one (R248). [DEDUCED, log 69] -/
def ownerColourWrite (o : Obj) (p : Path) (v : Nat) (s : State) : Status × State :=
  if 0xFFFF < v ∨ s.blocks.any (fun e => match e.2 with
      | some w => w.state == 1 && w.colour == s.val o p
      | none => false) = true then (.refused, s)
  else (.ok, s.put o p v)

/-! ### Owners and devices lost (R244, R246) -/

/-- The host of an owner, a VCS of a member, is lost during step 1: a requested release becomes forced at once (Table POL-6). -/
def ownerLost (dev vcs : Nat) (s : State) : State :=
  s.blocks.foldl (fun s e => match e.2 with
    | some v =>
      if v.run ∧ v.step = 1 ∧ bit v.ask (askBit s v dev vcs) then
        endStep1 e.1 (setBlk e.1 (some { v with forced := true, ask := 0 }) s)
      else s
    | none => s) s

/-- The lines of a removed device that nobody holds are poisoned (02 R77): their entries go to P. The lines that nothing tracks, and those that
lose their last holder later, are read from the absent device, and so poisoned. [DEDUCED, log 70] -/
def poisonEntries (port q : Nat) (s : State) : State :=
  ((validRegs s q).filter fun k => caPort (regionAddr s k (regEnt s q k)) == port).foldl (fun s k =>
    let e := regEnt s q k
    if e.prom then
      (List.range 64).foldl (fun s j =>
        let l := lineEnt s q (64 * e.block + j)
        if l.state = 0 then setLine q (64 * e.block + j) { l with state := 3 } s else s) s
    else if e.state = 0 then setReg q k { e with state := 3 } s else s) s

/-- A memory device is removed: its lines are poisoned, and every block on its port enters QUARANTINE, with the fault (Table POL-3). [DEDUCED, log 70] -/
def memoryRemoved (port : Nat) (s : State) : State :=
  let s := (List.range 8).foldl (fun s q => poisonEntries port q s) s
  s.blocks.foldl (fun s e => match e.2 with
    | some v =>
      if blockPort v = port ∧ v.state ≠ 4 then raiseFault 0x505 0x17 (ctxBlock e.1) (quarantine e.1 s) else s
    | none => s) s

/-! ### Ranges (06 R158, R159, R592; R222, R223) -/

/-- The lowest-numbered unused records. -/
def unusedRecords (s : State) (n : Nat) : Nat → Nat → List Nat
  | 0, _ => []
  | k + 1, b =>
    if n = 0 then []
    else if blk s b = none then b :: unusedRecords s (n - 1) k (b + 1)
    else unusedRecords s n k (b + 1)

/-- A range becomes active: each block takes a record in SCRUB under the transit colour, and is scrubbed (R222). [DEDUCED, log 65] -/
def takeRecords (rg base n : Nat) (s : State) : State :=
  let t := s.val o5210_04 []
  let s := ((List.range n).zip (unusedRecords s n 65536 0)).foldl (fun s e =>
    let id := s.pool.opid + 1
    let v : Block := { base := base + e.1, range := rg, colour := t, applied := t, state := 3, run := true, opid := id }
    journal e.2 4 <| tellColour e.2 (setBlk e.2 (some v) { s with pool := { s.pool with opid := id } })) s
  s.put o5200_02 [] s.blocks.length

/-- A range goes off: its records are released; a running operation ends with status 3 and its scrub stops (R223). -/
def releaseRecords (rg : Nat) (s : State) : State :=
  let s := s.blocks.foldl (fun s e => match e.2 with
    | some v =>
      if v.range ≠ rg then s else
      let s := if v.run ∧ v.cmd then s.put o5220_02 [pCB e.1] 3 else s
      setBlk e.1 none { s with pool := { s.pool with
        scrubs := s.pool.scrubs.filter (· != e.1), last := Tbl.upd none s.pool.last e.1 none
        wait := s.pool.wait.filter (·.block != e.1), held := s.pool.held.filter (·.1 != e.1) } }
    | none => s) s
  startScrubs ((s.put o5200_02 [] s.blocks.length).put o5220_04 [] (opsRunning s))

/-- The directory entries of a range are discarded; one that is recalled, evicted or demoted, at the end of that. -/
def dropRange (base n : Nat) (s : State) : State :=
  (List.range 8).foldl (fun s q =>
    ((validRegs s q).filter fun k =>
      let e := regEnt s q k
      let a := regionAddr s k e / 2 ^ 28
      e.busy == 0 && decide (base ≤ a) && decide (a < base + n)).foldl (fun s k => dropReg q k s) s) s

/-- A slice is out of service, so that homed ranges run broadcast-homed. -/
def anySliceOut (s : State) : Bool := (List.range 8).any fun q => sliceState s q != 0

/-- A range entry takes a word, active or off. [DEDUCED, log 59] -/
def settleRange (rg w : Nat) (s : State) : State :=
  let fb := rangeMode w == 1 && anySliceOut s
  let w := setBits w 1 0 (if fb then 2 else 0)
  let s := (s.put o5020_01 [pRG rg] w).put o5020_02 [pRG rg] (if rangeMode w = 0 then 0 else if fb then 3 else 1)
  { s with dir := { s.dir with since := Tbl.upd 0 s.dir.since rg (s.clk.now + 1) }
           home := { s.home with conv := Tbl.upd none s.home.conv rg none } }

/-- A conversion begins: every 256-byte block of the range is invalidated at every member, by ring, from each home. [DEDUCED, log 59] -/
def startConversion (rg old new : Nat) (s : State) : State :=
  let shown := setBits (if rangeMode new = 1 then new else old) 1 1 1
  let s := (s.put o5020_01 [pRG rg] shown).put o5020_02 [pRG rg] 2
  let s : State := { s with home := { s.home with conv := Tbl.upd none s.home.conv rg (some new) } }
  let dom := rangeDom old
  (List.range 8).foldl (fun s q =>
    (ringOp q dom .biSnpInvBlk (.convert rg) (rangeBase old * 2 ^ 28) (rangeBlocks old * 131072) true (memberMask s dom) s).2) s

/-- The range holds a BOUND block. -/
def rangeBound (s : State) (rg : Nat) : Bool :=
  s.blocks.any fun e => match e.2 with
    | some v => v.range == rg && v.state == 1
    | none => false

/-- Another active range overlaps. -/
def rangeOverlaps (s : State) (rg w : Nat) : Bool :=
  (s.listed o5020_01).any fun e =>
    elemAt e.1 0 != rg && rangeMode e.2 != 0
    && decide (rangeBase e.2 < rangeBase w + rangeBlocks w) && decide (rangeBase w < rangeBase e.2 + rangeBlocks e.2)

/-- A change of MODE that Table COH-3 does not allow, or that changes an active range (R158). -/
def rangeBad (s : State) (rg old new : Nat) : Bool :=
  let m0 := rangeMode old
  let m1 := rangeMode new
  let same := rangeBase old == rangeBase new && rangeBlocks old == rangeBlocks new
    && (m1 == 3 || rangeDom old == rangeDom new)
  let shape := m1 != 0 && (rangeBlocks new == 0 || rangeOverlaps s rg new
    || decide (2 ^ 21 < rangeBase new % 2 ^ 21 + rangeBlocks new))
  decide (caDev (rangeBase new * 2 ^ 28) ≠ ownPos s) || shape
  || (m0 != 0 && m1 != 0 && !same)
  || (m0 == 3 && (m1 == 1 || m1 == 2))
  || (m0 != 0 && m0 != m1 && (m1 == 0 || m1 == 3) && rangeBound s rg)

/-- A write to a range entry (R158, R159, R222). -/
def rangeWrite (rg v : Nat) (s : State) : Status × State :=
  let new := setBits v 1 0 0
  let old := s.val o5020_01 [pRG rg]
  let m0 := rangeMode old
  let m1 := rangeMode new
  if s.val o5020_02 [pRG rg] = 2 then (.busy, s)
  else if 2 ^ 64 ≤ v ∨ rangeBad s rg old new = true then (.refused, s)
  else if m0 = 0 ∧ m1 ≠ 0 then
    if 65536 < s.blocks.length + rangeBlocks new then (.refused, s)
    else (.ok, takeRecords rg (rangeBase new) (rangeBlocks new) (settleRange rg new s))
  else if m0 = m1 then (.ok, if m0 = 0 ∨ m0 = 3 then s.put o5020_01 [pRG rg] new else s)
  else if m0 = 1 ∧ m1 = 2 then (.ok, dropRange (rangeBase old) (rangeBlocks old) (settleRange rg new s))
  else if m0 = 3 then (.ok, releaseRecords rg (settleRange rg new s))
  else
    let s := if m0 = 1 then dropRange (rangeBase old) (rangeBlocks old) s else s
    (.ok, startConversion rg old new s)

/-- RANGE_ENTRY_WRITE. -/
def execRangeEntryWrite (role : Role) (rg : Fin 1024) (v : Nat) (s : State) : Host.Outcome State Fault Refusal :=
  .next (answered (managed role o5020_01 [pRG rg.val] (rangeWrite rg.val v) s))

/-- No transaction, no write and no snoop or ring message is under way on a range's lines (06 R175), but for its conversion's own. -/
def rangeQuiet (s : State) (rg base n : Nat) : Bool :=
  let inside := fun a : Nat => decide (base ≤ a / 2 ^ 28) && decide (a / 2 ^ 28 < base + n)
  let touches := fun o : SnoopOp => o.why != .convert rg &&
    ((decide (o.next < o.count) && inside o.base) || o.waits.any (fun w => inside w.addr) || o.todo.any fun t => inside t.2)
  !(s.home.lines.any fun e => inside (e.1 * 64)) && !(s.home.ring.any fun e => match e.2 with
    | some m => inside m.addr
    | none => false)
  && !(s.home.ops.any fun e => e.2.any touches) && !(s.home.wbuf.any fun e => e.2.any fun w => inside (w.line * 64))
  && !(s.home.toPoison.any fun e => e.2.any fun l => inside (l * 64))

/-- RANGE_CONVERSION_COMPLETE: every block is answered, and the range takes its new mode; one that leaves its domain waits for its
transactions and ring messages. [DEDUCED, log 59] -/
def execRangeConversionComplete (rg : Fin 1024) (s : State) : Host.Outcome State Fault Refusal :=
  .next <|
    let w := s.val o5020_01 [pRG rg.val]
    let left := (List.range 8).any fun q => (opsOf s q).any fun o => o.why == .convert rg.val && !SnoopOp.done o
    match Tbl.look none s.home.conv rg.val with
    | none => s
    | some new =>
      let leaves := rangeMode new == 0 || rangeMode new == 3
      if left = true ∨ (leaves && !rangeQuiet s rg.val (rangeBase w) (rangeBlocks w)) = true then s
      else
        let s := (List.range 8).foldl (fun s q => setOps q ((opsOf s q).filter fun o => o.why != .convert rg.val) s) s
        let s := settleRange rg.val new s
        if rangeMode new = 0 then releaseRecords rg.val s else s

/-! ### Rows of the home that may end a step 2 -/

/-- RING_NODE_PASS. -/
def execRingNodePass (k : Fin 16) (s : State) : Host.Outcome State Fault Refusal := .next (poolPoll (ringPass k.val s))

/-- BIRSP_RECEIVE: the oldest snoop response at quire `q`. -/
def execBirspReceive (q : Fin 8) (s : State) : Host.Outcome State Fault Refusal :=
  .next (if quireDark s q.val then s else poolPoll (birspReceive q.val s))

/-- BI_TIMEOUT: the next back-invalidate timer of quire `q` expires. -/
def execBiTimeout (q : Fin 8) (s : State) : Host.Outcome State Fault Refusal :=
  .next (if quireDark s q.val then s else poolPoll (biTimeout q.val s))

/-- REGION_RECALL_COMPLETE. -/
def execRegionRecallComplete (q : Fin 8) (s : State) : Host.Outcome State Fault Refusal :=
  .next (poolPoll (regionRecallComplete q.val s))

/-- EVICTION_COMPLETE. -/
def execEvictionComplete (q : Fin 8) (s : State) : Host.Outcome State Fault Refusal :=
  .next (poolPoll (evictionComplete q.val s))

/-- DEMOTION_COMPLETE. -/
def execDemotionComplete (q : Fin 8) (s : State) : Host.Outcome State Fault Refusal :=
  .next (poolPoll (demotionComplete q.val s))

/-! ### Recovery at boot (R242, R243, R592) -/

/-- A block takes the state of Table POL-5 from its last durable record; a running operation waits for its recovery action. [DEDUCED, log 65] -/
def recoverBlock (s : State) (b : Nat) (v : Block) : State :=
  match Tbl.look none s.pool.last b with
  | none => if v.state = 3 then setBlk b (some { v with run := true, waitRec := true, step := 4, scrubAt := none }) s else s
  | some r =>
    let t := s.val o5210_04 []
    let w : Block := { r.rec_ with waitRec := false, ask := 0, scrubAt := none, colourDone := none, base := v.base,
                                   range := v.range, seen := [], behind := 0 }
    let g : Block := { w with run := true, waitRec := true, step := r.step }
    let s := if w.cmd ∧ 2 ≤ r.step ∧ r.step < 7 then s.put o5220_02 [pCB b] 1 else s
    match r.step with
    | 1 =>
      let s := if w.cmd then s.put o5220_02 [pCB b] 4 else s
      setBlk b (some { w with state := 1, owner := w.owner0, run := false, cmd := false, step := 0, next := 0xFFF, slot := none,
                              forced := false }) s
    | 2 | 3 => setBlk b (some { g with step := 2, whole := true, state := 2, fenced := true }) s
    | 4 => setBlk b (some { g with state := 3, colour := t, applied := t }) s
    | 5 => setBlk b (some { g with state := 1, owner := w.next, kind := w.nkind, colour := t, applied := t }) s
    | 6 => setBlk b (some { g with state := 1, owner := w.next, kind := w.nkind }) s
    | 0 => setBlk b (some { w with state := 4, owner := 0xFFF, next := 0xFFF, colour := t, applied := t, run := false, step := 0 }) s
    | _ => setBlk b (some { w with run := false, step := 0 }) s

/-- The block table is rebuilt from checkpoint and journal: records not durable at the reset are unwritten. -/
def recoverTable (s : State) : State :=
  let s : State := { s with pool := { s.pool with wait := [], held := [], scrubs := [], seq := s.val o5240_01 [] } }
  let s := s.blocks.foldl (fun s e => match e.2 with
    | some v => recoverBlock s e.1 v
    | none => s) s
  (s.put o5200_02 [] s.blocks.length).put o5220_04 [] (opsRunning s)

/-- At configuration-ready, a block whose memory port reports no device enters QUARANTINE (R242). -/
def quarantineAbsent (s : State) : State :=
  s.blocks.foldl (fun s e => match e.2 with
    | some v => if v.state ≠ 4 ∧ ¬ blockPresent s v then quarantine e.1 s else s
    | none => s) s

/-- The recovery actions of Table POL-5, from step 9 of the boot (R510): the step of each block's operation is repeated. -/
def recoverActions (s : State) : State :=
  s.blocks.foldl (fun s e => match blk s e.1 with
    | some v =>
      if ¬ v.run ∨ v.waitRec = false then s
      else if vinWarn s then { s with pool := { s.pool with held := s.pool.held ++ [(e.1, v.step)] } }
      else startStep e.1 v.step s
    | none => s) s

/-- Conversions that a reset interrupted restart from their start, except into homed mode, where the rebuild sweep is the restart
(06 R592). -/
def restartConversions (s : State) : State :=
  s.home.conv.foldl (fun s e => match e.2 with
    | some new =>
      if rangeMode new = 1 then
        let s := settleRange e.1 (s.val o5020_01 [pRG e.1]) s
        { s with home := { s.home with reconv := s.home.reconv ++ [e.1] } }
      else startConversion e.1 (s.val o5020_01 [pRG e.1]) new s
    | none => s) s
  |> fun s => s.home.reconv.foldl (fun s rg => s.put o5020_02 [pRG rg] 2) s

end Sys2Proof.Machine
end

