-- ==== Sys2Proof/Machine/Ports.lean ====
section
/-!
DEFINITION. PCIe and CXL ports seen from their vPPBs: slot status and hot-plug (12 R370, R371), DPC (16 R462), link up and down,
the flush of a lost port (02 Table FAB-8, 04 R589), and the resets of targets and functions.
-/
namespace Sys2Proof.Machine

/-! ### Slot registers (bit numbers of PCI Express: Slot Control 0-4 and 12 enable the events of Slot Status 0, 1, 3, 4 and 8; 5 is
Hot-Plug Interrupt Enable; [7:6] and [9:8] the attention and power indicators; 10 Power Controller Control, 1 off) -/

def vppbFn (n v : Nat) : Nat := n * 1024 + 514 + v

/-- The Slot Status bits: Attention Button Pressed 0, Power Fault 1, Presence Detect Changed 3, Command Completed 4, Presence
Detect State 6, Data Link Layer State Changed 8. [PRESUMED, log 22] -/
def slotEnable (ctl b : Nat) : Bool := if b = 8 then bit ctl 12 else bit ctl b

/-- Events of a slot: their status bits, and the hot-plug interrupt where one is enabled. -/
def slotEvents (n v : Nat) (bs : List Nat) (s : State) : State :=
  let f := vppbFn n v
  let st := bs.foldl (fun m b => m ||| 2 ^ b) (cfgOf s f .slotStatus)
  let s := setCfg f .slotStatus st s
  let ctl := cfgOf s f .slotCtl
  if bit ctl 5 ∧ (bs.any fun b => slotEnable ctl b) = true then emit (.hotplug n v) s else s

/-- Presence Detect State, bit 6. -/
def slotPresence (n v : Nat) (b : Bool) (s : State) : State :=
  let f := vppbFn n v
  setCfg f .slotStatus (setBits (cfgOf s f .slotStatus) 6 6 (b2n b)) s

/-- Data Link Layer Link Active, bit 13 of Link Status. -/
def slotDl (n v : Nat) (b : Bool) (s : State) : State :=
  let f := vppbFn n v
  setCfg f .linkStatus (setBits (cfgOf s f .linkStatus) 13 13 (b2n b)) s

/-- Slot power is on: Power Controller Control is 0. -/
def slotPowered (s : State) (n v : Nat) : Bool := !bit (cfgOf s (vppbFn n v) .slotCtl) 10

/-! ### Links of PCIe and CXL ports (10 R286, R309) -/

/-- The members whose vPPBs a port or an LD of it is bound to are told whether its device is there and its link up (02 Tables FAB-3, FAB-7). -/
def tellBound (p : Nat) (there up : Bool) (s : State) : State :=
  s.forme.bound.foldl (fun s e => match e.2 with
    | some (k, n, v) => if e.1 / 32 = p then tell k (.slotView n v there up) s else s
    | none => s) s

/-- The members whose vPPBs a port or an LD of it is bound to are told of an event at its slot. -/
def tellEvent (p b : Nat) (s : State) : State :=
  s.forme.bound.foldl (fun s e => match e.2 with
    | some (k, n, v) => if e.1 / 32 = p then tell k (.slotEvent n v b) s else s
    | none => s) s

/-- A downstream port has trained to a PBR link of a switch other than a T9512, which is refused (02 R63). -/
def foreignSwitch (s : State) (p : Nat) : Bool := roleOf s p == 2 && (Tbl.look {} s.devs p).pbrSwitch

/-- The credits a port gives its partner when its link comes up (11 Table LNK-7): per enabled VC posted, non-posted and completion, and 64 for each
CXL channel that it receives, of a host or of a device. [DEDUCED, log 163] -/
def grantCredits (p : Nat) (s : State) : State :=
  let s := (List.range (s.val o2140_01 [pP p])).foldl (fun s k =>
    emit (.credit p (3 * k + 2) 32 896) (emit (.credit p (3 * k + 1) 48 128) (emit (.credit p (3 * k) 48 1024) s))) s
  if roleOf s p = 1 ∨ cxlDevice s p then
    (if roleOf s p = 1 then [0, 1, 2, 9, 10, 11] else [3, 4, 5, 6, 7, 8]).foldl (fun s c => emit (.credit p (12 + c) 64 0) s) s
  else s

/-- A PCIe or CXL port trains and reaches DL_Active; a PBR link to a foreign switch is refused at training, carries no traffic and is logged
(02 R63). A port that may not train stays as it is. What width it settles at, lane reversal and the polarity of each lane are the partner's part: free values. [DESIGN CHOICE, log 77] -/
def pcieUp (p : Nat) (s : State) : State :=
  if noTraining s p then s else
  if foreignSwitch s p then raiseFault p 0x31 (ctxPort p) (s.put o2020_02 [pP p] 0) else
  let (f, s) := freshValue s
  let w := widthOf s p
  let n := min w (2 ^ (f % 5))
  let s := s.put o3000_03 [pP p] n |>.put o3000_07 [pP p] (f / 5 % 2)
  let s := (lanesOf s p).foldl (fun s l => s.put o3014_02 [pL l] (f / 10 / 2 ^ (l - 4 * p) % 2)) s
  let s := settleRate p (s.val o3000_01 [pP p]) s
  let s := activeLanes p (s.put o2020_02 [pP p] 2)
  tellBound p true true (startScrubs <| grantCredits p <| countPort p 40 {} 1
    (setPort p { portLink s p with training := false, downSince := none, trained := n } s))

/-- What a test selects of a queue is flushed at once, but for a packet being popped; the rest of its packets is discarded as it arrives. -/
def flushBy (sel : DSort → Bool) (how : DSort → FailKind) (q : QRef) (s : State) : State :=
  let v := queueOf s q
  let out := fun (g : GEnt) => v.popping != some (pktId g.x) && sel g.x
  let gone := v.ents.filter out
  let d := v.pushing.filter fun i => gone.any fun g => pktId g.x == i
  let s := setQueue q { v with ents := v.ents.filter fun g => !out g, drop := v.drop ++ d } s
  let s := settleQueue q (gone.foldl (fun s g => discardSort q (how g.x) g.x s) s)
  if (queueOf s q).ents.isEmpty then leaveActive q s else s

/-- The flush of what a port still has to send, of what a test selects, and the end of the requests it sent (02 Table FAB-8 step 4, 04 R589):
Galley space, charges and staging come home. -/
def flushPort (p : Nat) (sel : DSort → Bool) (how : DSort → FailKind) (s : State) : State :=
  let s := s.gal.queues.foldl (fun s e => match qrefOfKey e.1 with
    | .egress x k => if x.val = p then flushBy sel how (.egress x k) s else s
    | .egressCls x c => if x.val = p then flushBy sel how (.egressCls x c) s else s
    | _ => s) s
  let s := (List.range 4).foldl (fun s vc =>
    let l := Tbl.look [] s.egr.staging (p * 4 + vc)
    let gone := l.filter sel
    let s := { s with egr := { s.egr with staging := Tbl.upd [] s.egr.staging (p * 4 + vc) (l.filter fun x => !sel x) } }
    gone.foldl (fun s x =>
      let s := (List.range x.pkt.sorts).foldl (fun s _ => returnCharge (quireOf p) x s) (unreserve x s)
      if x.pkt.op.posted then countPort p 13 (attrOf x) 1 s
      else if x.pkt.op.tracked then failRequest (if x.orig then p else x.sport) (how x) x s else s) s) s
  let gone := (tracksOf s p).filter fun t => sel t.x
  let s := setTracks p ((tracksOf s p).filter fun t => !sel t.x) s
  gone.foldl (fun s t => failRequest p (how t.x) t.x s) s

/-- The flush of a lost port, or of one LD of it. -/
def flushTarget (p : Nat) (sel : DSort → Bool) (s : State) : State := flushPort p sel (fun x => lostHow s p x.dld) s

/-- A packet whose reception was under way is no part of the model: a packet is received whole. The port's link goes down. [DESIGN CHOICE, log 160] -/
def pcieDown (p : Nat) (s : State) : State :=
  let s := abortScans p s
  let s := setLanes p 1 ((s.put o2020_02 [pP p] 0).put o3000_03 [pP p] 0)
  tellBound p (s.val o2020_03 [pP p] != 0) false (flushTarget p (fun _ => true) (setPort p { portLink s p with downSince := some s.clk.now } s))

/-! ### DPC (16 R462) -/

def dpcOf (s : State) (n v : Nat) : Bool := Tbl.look false s.host.dpcOn (128 * n + v)

/-- DPC triggers on a vPPB where it is enabled. -/
def dpcTrigger (n v : Nat) (s : State) : State :=
  if Tbl.look false s.host.dpcEn (128 * n + v) ∧ ¬ dpcOf s n v then
    { s with host := { s.host with dpcOn := Tbl.upd false s.host.dpcOn (128 * n + v) true } }
  else s

/-! ### Resets of targets (02 R49, Table FAB-7) -/

/-- A target is reset: a hot reset of a whole port, an LD reset of one LD. A target on another member is reset by that member, which is
told to. -/
def resetTarget (r : Nat) (s : State) : State :=
  if recDev r ≠ ownPos s then tell (recDev r) (.reset r) s
  else if recKind r = 1 then emit (.reset 1 (recPort r) (recLd r)) s
  else emit (.reset 0 (recPort r) 0) s

/-- The binding records of a VCS that are not UNBOUND, with their vPPBs. -/
def bindsOf (s : State) (n : Nat) : List (Nat × Nat) :=
  ((s.listed o4110_01).filter fun e => elemAt e.1 0 == n && recState e.2 != 0).map fun e => (elemAt e.1 1, e.2)

/-! ### Resets of functions (12 R364-R366) -/

/-- A table without the keys of a function. -/
def dropKeys {α : Type} (t : Tbl α) (lo hi : Nat) : Tbl α := t.filter fun e => decide (e.1 < lo) || decide (hi ≤ e.1)

/-- A function's configuration space, MSI-X table, PBA and pending events are at their reset values. -/
def resetFunction (fn : Nat) (s : State) : State :=
  let h := s.host
  let h : HostView := { h with
    cfg := dropKeys h.cfg (fn * 64) (fn * 64 + 64), aer := Tbl.upd 0 h.aer fn 0, aerHdr := Tbl.upd none h.aerHdr fn none
    msix := dropKeys h.msix (fn * 2048) (fn * 2048 + 2048), pba := dropKeys h.pba (fn * 2048) (fn * 2048 + 2048)
    events := dropKeys h.events (fn * 2048) (fn * 2048 + 2048), intx := Tbl.upd false h.intx fn false }
  { s with host := h }

/-- The VFs of a VCS are removed: their rings are squashed and their registers reset (12 R363). -/
def removeVfs (n : Nat) (s : State) : State :=
  let k := vfsOf s n
  let s := (List.range k).foldl (fun s i =>
    resetFunction (n * 1024 + i + 1) ((squashOwner (initOfFn s (n * 1024 + i + 1)) s).put o4430_01 [pVCS n, pF (i + 1)] 0)) s
  { s with host := { s.host with vfWait := Tbl.upd none s.host.vfWait n none } }

/-- The access blocks of a VCS are at their reset values. -/
def resetBlocks (n : Nat) (s : State) : State :=
  let h := s.host
  { s with host := { h with
      abCtl := dropKeys h.abCtl (n * 16) (n * 16 + 16), abPath := dropKeys h.abPath (n * 16) (n * 16 + 16)
      abData := dropKeys h.abData (n * 16) (n * 16 + 16) } }

/-- Every virtual bridge and function of a VCS is reset, and its bound targets (02 Table FAB-7, 18 R519): configuration requests
receive Retry Status for at most 100 ms (12 R364). Presence and link state of the slots show what is there. -/
def resetVcs (n : Nat) (s : State) : State :=
  let s := removeVfs n s
  let s := squashOwner n s
  let s := resetBlocks n (resetFunction (n * 1024) s)
  let s := resetFunction (n * 1024 + 512) (resetFunction (n * 1024 + 513) s)
  let s := (List.range (s.val o4100_03 [pVCS n])).foldl (fun s v =>
    let st := cfgOf s (vppbFn n v) .slotStatus
    let ls := cfgOf s (vppbFn n v) .linkStatus
    let s := resetFunction (vppbFn n v) s
    let s := setCfg (vppbFn n v) .slotStatus (bits st 6 6 * 64) (setCfg (vppbFn n v) .linkStatus (bits ls 13 13 * 2 ^ 13) s)
    { s with host := { s.host with
        dpcOn := Tbl.upd false s.host.dpcOn (128 * n + v) false, dpcEn := Tbl.upd false s.host.dpcEn (128 * n + v) false
        dpcCc := Tbl.upd false s.host.dpcCc (128 * n + v) false } }) s
  let s := (bindsOf s n).foldl (fun s b => resetTarget b.2 s) s
  let s := s.put o4430_01 [pVCS n, pF 0] 0
  { s with host := { s.host with
      crs := Tbl.upd none s.host.crs n (some (s.clk.now + ms 100)), flr := Tbl.upd none s.host.flr (n * 1024) none } }

/-! ### Which functions there are (Table HST-1) -/

/-- The highest VF number of a VCS that is enabled and that the management bridge reaches: VF 256 needs a second bus (R343). -/
def hasVf (s : State) (n k : Nat) : Bool :=
  decide (k ≤ vfsOf s n) && (k != 256 ||
    (let b := cfgOf s (n * 1024 + 513) .busNumbers
     decide (bits b 15 8 < bits b 23 16)))

/-- A function of an enabled VCS exists. -/
def hasFunc (s : State) (n : Nat) : Func → Bool
  | .vppb v => decide (v.val < s.val o4100_03 [pVCS n])
  | .vf k => hasVf s n (k.val + 1)
  | _ => true

/-- A request to a function receives Configuration Request Retry Status: the device is not ready, its VCS was reset, its FLR runs, or
its VF is not ready (R363, R364). [DESIGN CHOICE, log 91] -/
def retryStatus (s : State) (n : Nat) (f : Func) : Bool :=
  s.val oD000_03 [] == 0 || (Tbl.look none s.host.crs n).isSome
  || (match f with
    | .pf => (Tbl.look none s.host.flr (n * 1024)).isSome
    | .vf k => flrRuns s (n * 1024 + k.val + 1) || (Tbl.look none s.host.vfWait n).isSome
    | _ => false)

/-- The initiator of a function's own requests: the management function's rings are its VCS's. -/
def ownsRings (f : Func) : Bool :=
  match f with
  | .pf => true
  | .vf _ => true
  | _ => false

/-- A configuration write of a host to a function: what it does, and its completion. A function that is not there, is not ready, or whose VCS has
no link up takes nothing (R364). -/
def configWrite (n : Nat) (f : Func) (act : State → State) (s : State) : State :=
  let fn := fnKey n f
  if ¬ s.flag o4100_02 [pVCS n] ∨ s.val o4100_05 [pVCS n] ≠ 2 then s
  else if ¬ hasFunc s n f then emit (.config fn 1 0) s
  else if retryStatus s n f then emit (.config fn 2 0) s
  else emit (.config fn 0 0) (act s)

end Sys2Proof.Machine
end

