-- ==== Sys2Proof/Machine/Slots.lean ====
section
/-!
DEFINITION. Slot power channels and the slot sideband buses (17 R488-R492), and what Slot Control does (12 R371, Table HST-13).
-/
namespace Sys2Proof.Machine

/-! ### Ports, channels and vPPBs -/

/-- The vPPB that a whole port is bound to. -/
def wholeVppb (s : State) (p : Nat) : Option (Nat × Nat) :=
  match boundTo s p 0 with
  | some (n, v) => if recKind (bindRec s n v) = 0 then some (n, v) else none
  | none => none

/-- The slot channel of a port. -/
def channelOf (s : State) (p : Nat) : Option Nat :=
  if s.val o4420_02 [pP p] < 32 then some (s.val o4420_02 [pP p]) else none

/-- The port that a channel serves. -/
def chanPort (s : State) (ch : Nat) : Option Nat := (List.range 128).find? fun p => s.val o4420_02 [pP p] == ch

def chanState (s : State) (ch : Nat) : Nat := s.val oA010_01 [pSP ch]

def setChan (ch : Nat) (c : Chan) (s : State) : State :=
  { s with slots := { s.slots with chan := Tbl.upd {} s.slots.chan ch c } }

def chanOf (s : State) (ch : Nat) : Chan := Tbl.look {} s.slots.chan ch

/-! ### Sideband outputs (17 R491, R492) -/

/-- The expander of a port, as bus·128 + address, and its group. -/
def expanderOf (s : State) (p : Nat) : Option (Nat × Nat) :=
  let w := s.val oA020_01 [pP p]
  if bit w 31 then some (bits w 15 14 * 128 + bits w 13 7, bits w 2 0) else none

/-- An output group is written to the port's expander; one that does not answer takes it at a later retry. [DEDUCED, log 159] -/
def drive (p v : Nat) (s : State) : State :=
  let s := { s with slots := { s.slots with outs := Tbl.upd 0 s.slots.outs p v } }
  match expanderOf s p with
  | some (e, _) => if (Tbl.look none s.slots.bad e).isSome then s else emit (.slotbus p v) s
  | none => s

def outsOf (s : State) (p : Nat) : Nat := Tbl.look 0 s.slots.outs p

/-- PERST# of a port is deasserted or asserted. -/
def setPerst (p : Nat) (deassert : Bool) (s : State) : State :=
  drive p (setBits (outsOf s p) 0 0 (b2n deassert)) (emit (.reset (if deassert then 3 else 2) p 0) s)

/-! ### Link changes on the slot -/

/-- Every vPPB bound to a port or to its LDs shows the link state: Data Link Layer State Changed. -/
def dlChange (p : Nat) (b : Bool) (s : State) : State :=
  (vppbsOf s p).foldl (fun s x => slotEvents x.1 x.2 [8] (slotDl x.1 x.2 b s)) s

/-- A device is present at a port. -/
def present (s : State) (p : Nat) : Bool := s.val o2020_03 [pP p] != 0

/-- The link of a port is enabled: it trains where a device is there, and its slots show the link once it is up. -/
def linkEnable (p : Nat) (s : State) : State :=
  if present s p ∧ linkOf s p ≠ 2 then
    let s := pcieUp p s
    if linkOf s p = 2 then dlChange p true s else s
  else s

/-- The device at a port has no slot power, or its PERST# is asserted (17 Table PWR-5, 18 R520). -/
def inReset (s : State) (p : Nat) : Bool :=
  (match channelOf s p with
    | some ch => chanState s ch != 2
    | none => false) || ((expanderOf s p).isSome && !bit (outsOf s p) 0)

/-- Nothing at a bound port holds its link down: its slot is powered (the channel ON, or no channel and Power Controller Control on), and
its vPPB has no DPC trigger status (Table HST-13, 16 R462). The link of a multi-logical device depends on no vPPB. [DEDUCED, log 162] -/
def slotReady (s : State) (p : Nat) : Bool :=
  (match channelOf s p with
    | some ch => chanState s ch == 2
    | none => (wholeVppb s p).all fun b => slotPowered s b.1 b.2) &&
  (wholeVppb s p).all fun b => !dpcOf s b.1 b.2

/-- The link of a port goes down under command. -/
def linkDisable (p : Nat) (s : State) : State := if linkOf s p = 0 then s else dlChange p false (pcieDown p s)

/-! ### Channel states (Table PWR-5) -/

/-- A ramp begins. -/
def startRamp (ch attempts : Nat) (s : State) : State :=
  emit (.gate ch true) (setChan ch { since := s.clk.now } ((s.put oA010_01 [pSP ch] 1).put oA010_0A [pSP ch] attempts))

/-- Power Controller Control to on, or 1 in 0xA010.0B: an OFF channel ramps. -/
def channelOn (ch : Nat) (s : State) : State := if chanState s ch = 0 then startRamp ch 1 s else s

/-- Power Controller Control to off: PERST is asserted, and the gate goes off 1 ms later. -/
def channelOff (ch : Nat) (s : State) : State :=
  if chanState s ch = 0 then s
  else
    let s := match chanPort s ch with
      | some p => if chanState s ch = 2 then advance (ms 1) (setPerst p false s) else s
      | none => s
    emit (.gate ch false) (setChan ch {} ((s.put oA010_01 [pSP ch] 0).put oA010_0A [pSP ch] 0))

/-- A trip (Table PWR-5): the current that is measured is the one that trips; the gate goes off; the channel cools, or is LATCHED once its retries are spent. -/
def tripChannel (ch steady mA : Nat) (s : State) : State :=
  let a := s.val oA010_0A [pSP ch]
  let s := s.put oA010_09 [pSP ch] (s.val oA010_09 [pSP ch] / 2 ^ 16 * 2 ^ 16 + min mA 65535)
  let s := raiseFault (0x610 + ch) 0x56 (steady * 2 ^ 41 + a % 16 * 2 ^ 37 + mA / 10 % 4096 * 2 ^ 25) (emit (.gate ch false) s)
  let s := match chanPort s ch with
    | some p => linkDisable p (if steady = 1 then setPerst p false s else s)
    | none => s
  let s := setChan ch { since := s.clk.now } s
  if s.val oA010_07 [pSP ch] < a then
    let s := raiseFault (0x610 + ch) 0x57 (a % 16 * 2 ^ 38) (s.put oA010_01 [pSP ch] 4)
    match (chanPort s ch).bind (wholeVppb s) with
    | some (n, v) => slotEvents n v [1] s
    | none => match chanPort s ch with
      | some p => tellEvent p 1 s
      | none => s
  else s.put oA010_01 [pSP ch] 3

/-- 1 is written to 0xA010.0B: the channel of a port that is not bound. -/
def channelWrite (ch v : Nat) (s : State) : Status × State :=
  let bound := match chanPort s ch with
    | some p => !(vppbsOf s p).isEmpty || boundFar s p
    | none => false
  if 1 < v ∨ (v = 1 ∧ bound = true) then (.refused, s)
  else (.ok, if v = 1 then channelOn ch s else s)

/-- SLOT_CHANNEL_POWER_ON. -/
def execSlotChannelPowerOn (role : Role) (ch : Fin 32) (v : Nat) (s : State) : Host.Outcome State Fault Refusal :=
  .next (answered (managed role oA010_0B [pSP ch.val] (channelWrite ch.val v) s))

/-- SLOT_RAMP_COMPLETE: the output reaches 10.8 V, and is measured so. -/
def execSlotRampComplete (ch : Fin 32) (s : State) : Host.Outcome State Fault Refusal :=
  .next <|
    let c := chanOf s ch.val
    if chanState s ch.val = 1 ∧ c.goodAt = none then
      setChan ch.val { c with goodAt := some s.clk.now } (s.put oA010_09 [pSP ch.val] (10800 * 2 ^ 16 + s.val oA010_09 [pSP ch.val] % 2 ^ 16)) else s

/-- SLOT_RAMP_OVERCURRENT: a current above the ramp-phase limit before the output reaches 10.8 V. -/
def execSlotRampOvercurrent (ch : Fin 32) (mA : Nat) (s : State) : Host.Outcome State Fault Refusal :=
  .next <|
    if chanState s ch.val = 1 ∧ (chanOf s ch.val).goodAt = none ∧ s.val oA010_03 [pSP ch.val] < mA then
      tripChannel ch.val 0 mA s
    else s

/-- SLOT_RAMP_TIMEOUT: 1.5 × 12 V ÷ ramp rate passes below 10.8 V. -/
def execSlotRampTimeout (ch : Fin 32) (mA : Nat) (s : State) : Host.Outcome State Fault Refusal :=
  .next <|
    let c := chanOf s ch.val
    if chanState s ch.val = 1 ∧ c.goodAt = none then
      tripChannel ch.val 0 mA (advanceTo (c.since + ms 18000 / s.val oA010_02 [pSP ch.val]) s)
    else s

/-- SLOT_STEADY_TRIP: a current above the steady limit for the steady timer, or of twice the limit at once. -/
def execSlotSteadyTrip (ch : Fin 32) (mA : Nat) (s : State) : Host.Outcome State Fault Refusal :=
  .next <|
    let lim := s.val oA010_04 [pSP ch.val]
    if (chanState s ch.val = 2 ∨ (chanState s ch.val = 1 ∧ (chanOf s ch.val).goodAt ≠ none)) ∧ lim < mA then
      tripChannel ch.val 1 mA (if 2 * lim ≤ mA then s else advance (us (s.val oA010_05 [pSP ch.val])) s)
    else s

/-- SLOT_PERST_DELAY: 100 ms after the output reached 10.8 V, PERST is deasserted, the channel is ON, and the link trains. -/
def execSlotPerstDelay (ch : Fin 32) (s : State) : Host.Outcome State Fault Refusal :=
  .next <|
    match (chanOf s ch.val).goodAt with
    | none => s
    | some t =>
      if chanState s ch.val ≠ 1 then s
      else
        let s := (advanceTo (t + ms 100) s).put oA010_01 [pSP ch.val] 2
        match chanPort s ch.val with
        | some p => linkEnable p (setPerst p true s)
        | none => s

/-- SLOT_COOL_DOWN_EXPIRY: a further ramp. -/
def execSlotCoolDownExpiry (ch : Fin 32) (s : State) : Host.Outcome State Fault Refusal :=
  .next <|
    if chanState s ch.val = 3 then
      startRamp ch.val (s.val oA010_0A [pSP ch.val] + 1)
        (advanceTo ((chanOf s ch.val).since + ms (s.val oA010_06 [pSP ch.val])) s)
    else s

/-- 1 is written to 0xA010.0C: a LATCHED channel is OFF. -/
def latchClear (ch v : Nat) (s : State) : Status × State :=
  if 1 < v then (.refused, s)
  else (.ok, if v = 1 ∧ chanState s ch = 4 then (s.put oA010_01 [pSP ch] 0).put oA010_0A [pSP ch] 0 else s)

/-- SLOT_LATCH_CLEAR. -/
def execSlotLatchClear (role : Role) (ch : Fin 32) (v : Nat) (s : State) : Host.Outcome State Fault Refusal :=
  .next (answered (managed role oA010_0C [pSP ch.val] (latchClear ch.val v) s))

/-! ### Slot Control (Table HST-13) -/

/-- The slot control register of a vPPB with its power bit. -/
def setPcc (n v : Nat) (off : Bool) (s : State) : State :=
  setCfg (vppbFn n v) .slotCtl (setBits (cfgOf s (vppbFn n v) .slotCtl) 10 10 (b2n off)) s

/-- Slot power of a target goes on or off for the host it is bound to (12 Table HST-13): its channel, or its link; an LD is reset as it goes
on. A target on another member is that member's to power, which is told to. -/
def powerTarget (r : Nat) (on : Bool) (s : State) : State :=
  let p := recPort r
  if recDev r ≠ ownPos s then tell (recDev r) (.power r on) s
  else if recKind r = 1 then (if on then emit (.reset 1 p (recLd r)) s else s)
  else match channelOf s p with
    | some ch => if on then channelOn ch s else linkDisable p (channelOff ch s)
    | none => if on then linkEnable p s else linkDisable p s

/-- The host turns slot power on; Command Completed is set within 1 ms. -/
def slotPowerOn (n v : Nat) (s : State) : State :=
  let s := setPcc n v false s
  let r := bindRec s n v
  let s := if recState r = 0 then s else powerTarget r true s
  let s := if recState r ≠ 0 ∧ recDev r = ownPos s ∧ recKind r = 1 then slotDl n v (linkOf s (recPort r) == 2) s else s
  slotEvents n v [4] s

/-- The host turns slot power off. -/
def slotPowerOff (n v : Nat) (s : State) : State :=
  let s := setPcc n v true s
  let r := bindRec s n v
  let s := if recState r = 0 then s else powerTarget r false s
  let s := if recState r ≠ 0 ∧ recKind r = 1 then slotDl n v false s else s
  slotEvents n v [4] s

/-- SLOT_POWER_ON. -/
def execSlotPowerOn (n : Fin 64) (v : Fin 128) (s : State) : Host.Outcome State Fault Refusal :=
  .next (configWrite n.val (.vppb v) (slotPowerOn n.val v.val) s)

/-- SLOT_POWER_OFF. -/
def execSlotPowerOff (n : Fin 64) (v : Fin 128) (s : State) : Host.Outcome State Fault Refusal :=
  .next (configWrite n.val (.vppb v) (slotPowerOff n.val v.val) s)

/-- An indicator code (PCI Express: 1 on, 2 blink, 3 off) as its output: a blinking one starts lit. -/
def indicatorOut (c : Nat) : Nat := if c = 1 ∨ c = 2 then 1 else 0

/-- The host writes the indicator controls: [7:6] attention, [9:8] power. They are driven to the expander of a whole port with a slot
channel, and recorded otherwise. [DEDUCED, log 159] -/
def indicatorControl (n v att pow : Nat) (s : State) : State :=
  let f := vppbFn n v
  let s := setCfg f .slotCtl (setBits (setBits (cfgOf s f .slotCtl) 7 6 att) 9 8 pow) s
  let r := bindRec s n v
  let p := recPort r
  let s :=
    if recState r ≠ 0 ∧ recKind r = 0 ∧ recDev r = ownPos s ∧ (channelOf s p).isSome then
      let s := drive p (setBits (setBits (outsOf s p) 1 1 (indicatorOut att)) 2 2 (indicatorOut pow)) s
      { s with slots := { s.slots with blinkAt := Tbl.upd 0 s.slots.blinkAt p s.clk.now } }
    else s
  slotEvents n v [4] s

/-- SLOT_INDICATOR_CONTROL. -/
def execSlotIndicatorControl (n : Fin 64) (v : Fin 128) (att pow : Fin 4) (s : State) : Host.Outcome State Fault Refusal :=
  .next (configWrite n.val (.vppb v) (indicatorControl n.val v.val att.val pow.val) s)

/-- INDICATOR_BLINK: half a period of 1.5 Hz ends, and the blinking indicators of a port are written. -/
def execIndicatorBlink (p : Fin 128) (s : State) : Host.Outcome State Fault Refusal :=
  .next <|
    match wholeVppb s p.val with
    | none => s
    | some (n, v) =>
      let c := cfgOf s (vppbFn n v) .slotCtl
      let a := bits c 7 6 == 2
      let b := bits c 9 8 == 2
      if (channelOf s p.val).isNone ∨ ¬ (a || b) = true then s
      else
        let s := advanceTo (Tbl.look 0 s.slots.blinkAt p.val + us 333333) s
        let o := outsOf s p.val
        let o := if a then o ^^^ 2 else o
        let o := if b then o ^^^ 4 else o
        drive p.val o { s with slots := { s.slots with blinkAt := Tbl.upd 0 s.slots.blinkAt p.val s.clk.now } }

/-! ### Presence and buttons (02 Table FAB-7, 17 R492) -/

/-- An attention button is pressed: on the bound vPPBs' slots, or an Adsum event only. -/
def attentionButton (p : Nat) (s : State) : State :=
  if boundFar s p then tellEvent p 0 ((vppbsOf s p).foldl (fun s x => slotEvents x.1 x.2 [0] s) s)
  else if (vppbsOf s p).isEmpty then emit (.event o2020_03.code (pathKey [pP p])) s
  else (vppbsOf s p).foldl (fun s x => slotEvents x.1 x.2 [0] s) s

/-- ATTENTION_BUTTON. -/
def execAttentionButton (p : Fin 128) (s : State) : Host.Outcome State Fault Refusal :=
  .next (if roleOf s p.val = 2 then attentionButton p.val s else s)

/-- A port's inputs as read: PRSNT# [0], ATNBTN# [1], CLKREQ# [2], each active low. A change of presence is shown on the slots; a button
pressed and a clock request act as Tables FAB-7 and LAN-8 say. -/
def inputsRead (p v : Nat) (s : State) : State :=
  let old := Tbl.look 0xF s.slots.ins p
  let s := { s with slots := { s.slots with ins := Tbl.upd 0xF s.slots.ins p v } }
  let s := if bit old 0 ≠ bit v 0 then
      (vppbsOf s p).foldl (fun s x => slotEvents x.1 x.2 [3] (slotPresence x.1 x.2 (!bit v 0) s)) s
    else s
  let s := if bit old 1 = true ∧ bit v 1 = false then attentionButton p s else s
  if bit old 2 = true ∧ bit v 2 = false ∧ s.val o3000_06 [pP p] = 1 ∧ s.val o3014_01 [pL (4 * p)] = 4 then setLanes p 3 s else s

/-- The ports that an expander serves, with their groups. -/
def expanderPorts (s : State) (e : Nat) : List (Nat × Nat) :=
  (List.range 128).filterMap fun p => match expanderOf s p with
    | some (x, g) => if x = e then some (p, g) else none
    | none => none

/-- SLOTBUS_IBI: an expander's in-band interrupt; both input registers are read. `got` is what they hold, none where the expander does not
acknowledge: the third failure in a row is logged, and its inputs keep their last values. -/
def execSlotbusIbi (bus : Fin 4) (addr : Fin 128) (got : Option Nat) (s : State) : Host.Outcome State Fault Refusal :=
  .next <|
    let e := bus.val * 128 + addr.val
    match got with
    | some w =>
      let s := { s with slots := { s.slots with fails := Tbl.upd 0 s.slots.fails e 0 } }
      (expanderPorts s e).foldl (fun s x => inputsRead x.1 (bits w (4 * x.2 + 3) (4 * x.2)) s) s
    | none =>
      let n := Tbl.look 0 s.slots.fails e + 1
      let s := { s with slots := { s.slots with fails := Tbl.upd 0 s.slots.fails e (min n 3) } }
      if n = 3 then
        raiseFault (0x630 + bus.val) 0x58 (addr.val * 2 ^ 35)
          { s with slots := { s.slots with bad := Tbl.upd none s.slots.bad e (some s.clk.now) } }
      else s

/-- SLOTBUS_RETRY: 10 ms later the outputs of an expander that did not answer are tried again. -/
def execSlotbusRetry (bus : Fin 4) (addr : Fin 128) (ack : Bool) (s : State) : Host.Outcome State Fault Refusal :=
  .next <|
    let e := bus.val * 128 + addr.val
    match Tbl.look none s.slots.bad e with
    | none => s
    | some t =>
      let s := advanceTo (t + ms 10) s
      if ack then
        let s := { s with slots := { s.slots with bad := Tbl.upd none s.slots.bad e none
                                                  fails := Tbl.upd 0 s.slots.fails e 0 } }
        (expanderPorts s e).foldl (fun s x => emit (.slotbus x.1 (outsOf s x.1)) s) s
      else { s with slots := { s.slots with bad := Tbl.upd none s.slots.bad e (some s.clk.now) } }

end Sys2Proof.Machine
end

