-- ==== Sys2Proof/Machine/HostView.lean ====
section
/-!
DEFINITION. What a host does to its functions (12): configuration requests, MSI-X, FLR, Bus Master Enable, power states, VFs,
hot reset, DPC release.
-/
namespace Sys2Proof.Machine

/-! ### Interrupt registers (R361) -/

/-- A function whose vectors exist: the management function has 2,048, a VF 64. -/
def vectorsOf (f : Func) : Nat :=
  match f with
  | .pf => 2048
  | .vf _ => 64
  | _ => 0

/-- An engine's earlier stores are visible: they have left its store buffer and its cluster's merge buffer (R359). -/
def storesSeen (s : State) (e : Nat) : Bool :=
  (engOf s e).sb.isEmpty && !((Tbl.look [] s.net.merge (e / 16)).any fun l => l.engs.contains e)

/-- Host doorbells whose engine's stores are visible raise vector 3 (R359, Table HST-10). -/
def settleBells (s : State) : State :=
  let go := s.host.bells.filter fun b => storesSeen s b.1
  let s := { s with host := { s.host with bells := s.host.bells.filter fun b => !storesSeen s b.1 } }
  go.foldl (fun s b => if s.flag o4100_02 [pVCS b.2] then signal (b.2 * 1024) 3 s else s) s

/-- INTERRUPT_EVENT: an event on a vector of a function. -/
def execInterruptEvent (n : Fin 64) (f : Func) (v : Fin 2048) (s : State) : Host.Outcome State Fault Refusal :=
  .next <|
    let s := settleBells s
    if s.flag o4100_02 [pVCS n.val] ∧ hasFunc s n.val f = true ∧ v.val < vectorsOf f then signal (fnKey n.val f) v.val s else s

/-- A vector's entry takes what the host writes of its address and data, its mask bit is cleared, and its pending message is sent. -/
def msixUnmask (fn v : Nat) (e : Option (Nat × Nat)) (s : State) : State :=
  let w := match e with
    | some (a, d) => a % 2 ^ 64 + d % 2 ^ 32 * 2 ^ 64
    | none => msixEntry s fn v % 2 ^ 96
  releasePba fn (setMsixEntry fn v w s)

/-- MSIX_UNMASK: vector `v.1`, with the address and the data `v.2` where the host writes them first. -/
def execMsixUnmask (n : Fin 64) (f : Func) (v : Fin 2048 × Option (Nat × Nat)) (s : State) : Host.Outcome State Fault Refusal :=
  .next <|
    if s.flag o4100_02 [pVCS n.val] ∧ hasFunc s n.val f = true ∧ v.1.val < vectorsOf f then msixUnmask (fnKey n.val f) v.1.val v.2 s else s

/-- MSI-X Enable and Function Mask are written: a set enable first ends an asserted INTA, and what is pending is then signalled by
MSI-X. -/
def msixCtlWrite (fn : Nat) (en mask : Bool) (s : State) : State :=
  let was := msixOn s fn
  let s := settleIntx fn (setCfg fn .msixCtl (b2n en * 2 ^ 15 + b2n mask * 2 ^ 14) s)
  if en ∧ ¬ was then
    let evs := s.host.events.filter fun e => e.1 / 2048 == fn
    evs.foldl (fun s e => signal fn (e.1 % 2048) (setEvent fn (e.1 % 2048) false s)) s
  else releasePba fn s

/-- MSIX_ENABLE_WRITE. -/
def execMsixEnableWrite (n : Fin 64) (f : Func) (en mask : Bool) (s : State) : Host.Outcome State Fault Refusal :=
  .next <|
    configWrite n.val f (fun s => if vectorsOf f = 0 then s else msixCtlWrite (fnKey n.val f) en mask s) s

/-- HOST_DOORBELL_RING: engine `e` writes 0x4440.01 of a VCS. -/
def execHostDoorbellRing (e : Fin 192) (n : Fin 64) (s : State) : Host.Outcome State Fault Refusal :=
  .next <|
    let s := { s with host := { s.host with bells := s.host.bells ++ [(e.val, n.val)] } }
    settleBells s

/-! ### Bus Master Enable and power states (R367, R369) -/

/-- Bus Master Enable is cleared: the function's rings stop. A bridge only stops what passes through it (R368). -/
def bmeClear (n : Nat) (f : Func) (s : State) : State :=
  let fn := fnKey n f
  let s := setCfg fn .command (setBits (cfgOf s fn .command) 2 2 0) s
  if ownsRings f then bmeStop (initOfFn s fn) s else s

/-- Bus Master Enable is set: unless the function is in D3hot its rings go on, and its pending MSI-X are sent. -/
def bmeSet (n : Nat) (f : Func) (s : State) : State :=
  let fn := fnKey n f
  let s := setCfg fn .command (setBits (cfgOf s fn .command) 2 2 1) s
  if ownsRings f ∧ ¬ inD3 s fn then releasePba fn (bmeResume (initOfFn s fn) s) else s

/-- BME_CLEAR. -/
def execBmeClear (n : Fin 64) (f : Func) (s : State) : Host.Outcome State Fault Refusal :=
  .next (configWrite n.val f (bmeClear n.val f) s)

/-- BME_SET. -/
def execBmeSet (n : Fin 64) (f : Func) (s : State) : Host.Outcome State Fault Refusal :=
  .next (configWrite n.val f (bmeSet n.val f) s)

/-- The management function enters D3hot: it issues no request. -/
def enterD3 (n : Nat) (s : State) : State :=
  bmeStop (initOfFn s (n * 1024)) (setCfg (n * 1024) .pmcsr 3 s)

/-- D0 restores what was paused. -/
def enterD0 (n : Nat) (s : State) : State :=
  let s := setCfg (n * 1024) .pmcsr 0 s
  if bmeOf s (n * 1024) then releasePba (n * 1024) (bmeResume (initOfFn s (n * 1024)) s) else s

/-- POWER_STATE_D3HOT. -/
def execPowerStateD3hot (n : Fin 64) (s : State) : Host.Outcome State Fault Refusal :=
  .next (configWrite n.val .pf (fun s => if inD3 s (n.val * 1024) then s else enterD3 n.val s) s)

/-- POWER_STATE_D0. -/
def execPowerStateD0 (n : Fin 64) (s : State) : Host.Outcome State Fault Refusal :=
  .next (configWrite n.val .pf (fun s => if inD3 s (n.val * 1024) then enterD0 n.val s else s) s)

/-! ### FLR (R365, Table HST-11) -/

/-- Initiate Function Level Reset: the function's state reads FLR, its rings are squashed, and no message of it goes out. -/
def flrInitiate (n : Nat) (f : Func) (s : State) : State :=
  let fn := fnKey n f
  if flrRuns s fn then s else
  let s := { s with host := { s.host with flr := Tbl.upd none s.host.flr fn (some (s.clk.now + ms 10)) } }
  let s := squashOwner (initOfFn s fn) (s.put o4430_01 [pVCS n, pF (fn % 1024)] 2)
  match f with
  | .pf => (List.range (vfsOf s n)).foldl (fun s k =>
      squashOwner (initOfFn s (fn + k + 1)) (s.put o4430_01 [pVCS n, pF (k + 1)] 2)) s
  | _ => s

/-- FLR_INITIATE: an endpoint function of the VCS (bridges have none). -/
def execFlrInitiate (n : Fin 64) (f : Func) (s : State) : Host.Outcome State Fault Refusal :=
  .next (configWrite n.val f (fun s => if ownsRings f then flrInitiate n.val f s else s) s)

/-- Rings of a function are drained (steps 3 and 4). -/
def drainOwner (i : Nat) (s : State) : State := (ringsOf s i).foldl (fun s r => drainRing r s) s

/-- The FLR completes: registers, MSI-X table, PBA, access blocks and ring contexts are at their reset values. That of the management
function resets every VF and clears VF Enable. -/
def flrComplete (n : Nat) (f : Func) (s : State) : State :=
  let fn := fnKey n f
  if (Tbl.look none s.host.flr fn).isNone then s else
  let s := match f with
    | .pf =>
      let k := vfsOf s n
      let s := (List.range k).foldl (fun s j => drainOwner (initOfFn s (fn + j + 1)) s) s
      resetBlocks n (removeVfs n s)
    | _ => s
  let s := resetFunction fn (drainOwner (initOfFn s fn) s)
  let s := { s with host := { s.host with flr := Tbl.upd none s.host.flr fn none } }
  s.put o4430_01 [pVCS n, pF (fn % 1024)] 1

/-- FLR_COMPLETE. -/
def execFlrComplete (n : Fin 64) (f : Func) (s : State) : Host.Outcome State Fault Refusal :=
  .next (flrComplete n.val f s)

/-! ### SR-IOV (R362, R363) -/

/-- VF Enable is set: the VFs answer Retry Status for 10 ms. -/
def vfEnable (n : Nat) (s : State) : State :=
  let c := cfgOf s (n * 1024) .sriovCtl
  if bit c 0 then s else
  let s := setCfg (n * 1024) .sriovCtl (setBits c 0 0 1) s
  { s with host := { s.host with vfWait := Tbl.upd none s.host.vfWait n (some (s.clk.now + ms 10)) } }

/-- VF Enable is cleared: every VF is removed as if it had received FLR. -/
def vfDisable (n : Nat) (s : State) : State :=
  let k := vfsOf s n
  let s := removeVfs n s
  let s := (List.range k).foldl (fun s j => drainOwner (initOfFn s (n * 1024 + j + 1)) s) s
  setCfg (n * 1024) .sriovCtl (setBits (cfgOf s (n * 1024) .sriovCtl) 0 0 0) s

/-- VF_ENABLE. -/
def execVfEnable (n : Fin 64) (s : State) : Host.Outcome State Fault Refusal :=
  .next (configWrite n.val .pf (vfEnable n.val) s)

/-- VF_READY: 10 ms later the VFs are ready. -/
def execVfReady (n : Fin 64) (s : State) : Host.Outcome State Fault Refusal :=
  .next <|
    match Tbl.look none s.host.vfWait n.val with
    | none => s
    | some t =>
      let s := advanceTo t s
      let s := { s with host := { s.host with vfWait := Tbl.upd none s.host.vfWait n.val none } }
      (List.range (vfsOf s n.val)).foldl (fun s k => s.put o4430_01 [pVCS n.val, pF (k + 1)] 1) s

/-- VF_DISABLE. -/
def execVfDisable (n : Fin 64) (s : State) : Host.Outcome State Fault Refusal :=
  .next (configWrite n.val .pf (fun s => if bit (cfgOf s (n.val * 1024) .sriovCtl) 0 then vfDisable n.val s else s) s)

/-! ### Hot reset and readiness (R364, 18 R519) -/

/-- 1 is written to 0xD002.01. -/
def vcsReset (n v : Nat) (s : State) : Status × State :=
  if 1 < v then (.refused, s)
  else (.ok, if v = 1 ∧ s.flag o4100_02 [pVCS n] = true then resetVcs n s else s)

/-- VCS_HOT_RESET: from the host over its link, or by a write of 0xD002.01. -/
def execVcsHotReset (src : Option Role) (n : Fin 64) (v : Nat) (s : State) : Host.Outcome State Fault Refusal :=
  .next <| match src with
    | none => if s.flag o4100_02 [pVCS n.val] then resetVcs n.val s else s
    | some role => answered (managed role oD002_01 [pVCS n.val] (vcsReset n.val v) s)

/-- VCS_READY: within 100 ms of the reset the functions of the VCS answer. -/
def execVcsReady (n : Fin 64) (s : State) : Host.Outcome State Fault Refusal :=
  .next <|
    match Tbl.look none s.host.crs n.val with
    | none => s
    | some _ =>
      ({ s with host := { s.host with crs := Tbl.upd none s.host.crs n.val none } }).put o4430_01 [pVCS n.val, pF 0] 1

/-- The host clears DPC Trigger Status: the contained port trains again, the contained LD returns to service (16 Table FLT-7). -/
def dpcRelease (n v : Nat) (s : State) : State :=
  if ¬ dpcOf s n v then s else
  let s := { s with host := { s.host with dpcOn := Tbl.upd false s.host.dpcOn (128 * n + v) false } }
  let r := bindRec s n v
  if bindLive r ∧ recDev r = ownPos s ∧ recKind r = 0 then linkEnable (recPort r) s else s

/-- DPC_RELEASE. -/
def execDpcRelease (n : Fin 64) (v : Fin 128) (s : State) : Host.Outcome State Fault Refusal :=
  .next (configWrite n.val (.vppb v) (dpcRelease n.val v.val) s)

/-! ### Configuration requests (R342-R345, R364, R370, Table FAB-4) -/

/-- The device ID of a function. -/
def deviceId : Func → Nat
  | .upBridge => 0x9510
  | .vppb _ => 0x9511
  | .mgmtBridge => 0x9511
  | .pf => 0x9512
  | .vf _ => 0x9513

def isBridge : Func → Bool
  | .upBridge => true
  | .vppb _ => true
  | .mgmtBridge => true
  | _ => false

/-- The size of a BAR of the management function, log2 bytes, and its type bits; none where the BAR reads zero (Table HST-3). -/
def barOf (s : State) (n k : Nat) : Option (Nat × Nat) :=
  let z := s.val o4400_01 [pVCS n]
  if k = 0 then some (25, 0) else if k = 2 then some (24, 0)
  else if k = 4 ∧ z ≠ 0 then some (z, 0xC) else none

/-- What a BAR reads: its address bits as written above its size; the upper half of BAR4 is BAR5. -/
def barRead (s : State) (n k v5 v : Nat) : Nat :=
  match barOf s n k with
  | some (z, t) => (v + (if k = 4 then v5 * 2 ^ 32 else 0)) / 2 ^ z * 2 ^ z % 2 ^ 32 + t
  | none =>
    if k = 5 then
      match barOf s n 4 with
      | some (z, _) => (v5 * 2 ^ 32) / 2 ^ z * 2 ^ z / 2 ^ 32
      | none => 0
    else 0

/-- The port whose link a bridge shows: the upstream port of its VCS, or the local port a vPPB is bound to. -/
def linkPort (s : State) (n : Nat) (f : Func) : Option Nat :=
  match f with
  | .upBridge => upOf s n
  | .vppb v => if bindLive (bindRec s n v.val) ∧ recDev (bindRec s n v.val) = ownPos s then some (recPort (bindRec s n v.val)) else none
  | _ => none

/-- Link Capabilities of a port: the target rate and the configured width (10 Table LAN-2), in bits [3:0] and [9:4]; L0s, bit 10, only
outside flit mode (10 R282). -/
def linkCapOf (s : State) (n : Nat) (f : Func) : Nat :=
  match linkPort s n f with
  | some p => s.val o3000_01 [pP p] + 1 + widthOf s p * 16 + b2n (!(portLink s p).flit) * 1024
  | none => 0

/-- The speed and width of a link that is up, bits [3:0] and [9:4] of Link Status. -/
def linkNow (s : State) (n : Nat) (f : Func) : Nat :=
  match linkPort s n f with
  | some p => if linkOf s p = 2 then s.val o3000_02 [pP p] + 1 + s.val o3000_03 [pP p] * 16 else 0
  | none => 0

/-- The L1 PM Substates capability (10 R304), advertised where CLKREQ# is wired: L1.1 and L1.2 of both kinds, bits 0-3, the capability,
bit 4, Common_Mode_Restore_Time 10 µs in [15:8], and T_POWER_ON 30 µs, as 3 in [23:19] of the 10 µs scale in [17:16]. -/
def l1ssOf (s : State) (n : Nat) (f : Func) : Nat :=
  match linkPort s n f with
  | some p => if s.val o3000_06 [pP p] = 1 then 0x1F + 10 * 2 ^ 8 + 2 ^ 16 + 3 * 2 ^ 19 else 0
  | none => 0

/-- What a configuration register reads; of the VC capability (11 Table LNK-7) the extended VC count and the resource controls. Fields that the manual does not name read zero. [PRESUMED, log 22; DESIGN CHOICE, log 91; DEDUCED, log 92] -/
def cfgRead (s : State) (n : Nat) (f : Func) (r : CfgReg) : Nat :=
  let fn := fnKey n f
  let raw := cfgOf s fn r
  match r with
  | .ids => deviceId f * 2 ^ 16 + 0x1F2B
  | .classRev => (if isBridge f then 0x060400 else 0x088000) * 256 + 0xB1
  | .command => raw
  | .status => 0x10 + b2n (ownsRings f && anyEvent s fn && !msixOn s fn) * 8
  | .bar k => if f = .pf then barRead s n k.val (cfgOf s fn (.bar 5)) raw else 0
  | .busNumbers => if isBridge f then raw else 0
  | .devCap => if ownsRings f then 5 + 2 ^ 28 else 5
  | .devCtl => raw
  | .linkCap => match f with
    | .mgmtBridge => 2 ^ 20
    | _ => linkCapOf s n f + (match f with
      | .vppb _ => 2 ^ 20
      | _ => 0)
  | .linkCtl => raw
  | .linkStatus => match f with
    | .mgmtBridge => 2 ^ 13
    | _ => raw + linkNow s n f
  | .msixCap => match f with
    | .pf => 0x1F08000 * 2 ^ 32 + 0x1F00000
    | .vf _ => 0xF000 * 2 ^ 32 + 0xE000
    | _ => 0
  | .msixCtl => if vectorsOf f = 0 then 0 else raw + (vectorsOf f - 1)
  | .pmcsr => if f = .pf then raw + 8 else 0
  | .sriovCap =>
    if f = .pf then s.val o4400_02 [pVCS n] * 0x10001 + 2 ^ 32 + 2 ^ 48 + 2 ^ 64 else 0
  | .sriovCtl => if f = .pf then raw else 0
  | .numVfs => if f = .pf then raw else 0
  | .vfBar k => if f = .pf ∧ (k.val = 0 ∨ k.val = 2) then raw / 2 ^ 16 * 2 ^ 16 else 0
  | .slotCap => match f with
    | .vppb v => 0x5B + b2n (s.flag o4420_03 [pVCS n, pV v.val]) * 2 ^ 5 + s.val o4420_01 [pVCS n, pV v.val] * 2 ^ 19
    | _ => 0
  | .slotCtl => match f with
    | .vppb _ => raw
    | _ => 0
  | .slotStatus => match f with
    | .vppb _ => raw
    | _ => 0
  | .acsCap => match f with
    | .vppb _ => 0x807F
    | _ => 0
  | .acsCtl => match f with
    | .vppb _ => raw
    | _ => 0
  | .acsVector => match f with
    | .vppb _ => raw
    | _ => 0
  | .dpcCtl => match f with
    | .vppb v => b2n (Tbl.look false s.host.dpcEn (128 * n + v.val)) + b2n (Tbl.look false s.host.dpcCc (128 * n + v.val)) * 4
    | _ => 0
  | .dpcStatus => match f with
    | .vppb v => b2n (dpcOf s n v.val)
    | _ => 0
  | .aerStatus => Tbl.look 0 s.host.aer fn
  | .ariCap => 0
  | .l1ssCap => l1ssOf s n f
  | .vcCap => match linkPort s n f with
    | some p => s.val o2140_01 [pP p] - 1
    | none => 0
  | .vcCtl k => match linkPort s n f with
    | some p => if k.val < s.val o2140_01 [pP p] then raw else 0
    | none => 0
  | .readiness => if f = .pf then 1000 + 100 * 2 ^ 16 + 10 * 2 ^ 32 else 0
  | .header => b2n (isBridge f) + (match f with
    | .vppb _ => 2 ^ 7
    | _ => 0)
  | .pcieCaps => 2 + (match f with
    | .upBridge => 5 * 2 ^ 4
    | .vppb _ => 6 * 2 ^ 4 + 2 ^ 8
    | .mgmtBridge => 6 * 2 ^ 4
    | _ => 0)
  | .devCap2 => if ownsRings f then 2 ^ 4 + 2 ^ 16 + 2 ^ 17 else if f = .mgmtBridge then 2 ^ 5 else 0
  | .devCtl2 => raw
  | .cxlLocator => if f = .pf ∧ s.flag o4100_04 [pVCS n] = true then 0x20000 else 0
  | .aerHeader => match Tbl.look none s.host.aerHdr fn with
    | some x => Config.tlpHeader x % 2 ^ 128
    | none => 0
  | .absent => 0

/-- A Slot Control write: the events it enables, then power and indicators. -/
def slotCtlWrite (n v w : Nat) (s : State) : State :=
  let f := vppbFn n v
  let old := cfgOf s f .slotCtl
  let s := setCfg f .slotCtl (setBits (setBits old 5 0 w) 12 12 (bits w 12 12)) s
  let s := if bits w 9 6 ≠ bits old 9 6 then indicatorControl n v (bits w 7 6) (bits w 9 8) s else s
  if bit w 10 = bit old 10 then slotEvents n v [4] s
  else if bit w 10 then slotPowerOff n v s else slotPowerOn n v s

/-- The bits of Device Control and of Link Control that take a write: the enables of features that the manual does not state (extended tags,
phantom functions, auxiliary power, clock power management, bandwidth interrupts, DRS signalling) read 0 whatever is written (00 R11), and
so does the Read Completion Boundary of a bridge; a write of Retrain Link is never read back. -/
def devCtlMask : Nat := 0x78FF
def linkCtlMask (f : Func) : Nat := if ownsRings f then 0x2DB else 0x2D3

/-- A configuration write. A register that the manual makes read-only, or that the function lacks, takes nothing. [DEDUCED, log 92] -/
def cfgWrite (n : Nat) (f : Func) (r : CfgReg) (w : Nat) (s : State) : State :=
  let fn := fnKey n f
  let old := cfgOf s fn r
  match r with
  | .command =>
    let w := w &&& 0x547
    let s := settleIntx fn (setCfg fn .command (setBits w 2 2 (bits old 2 2)) s)
    if bit w 2 = bit old 2 then s else if bit w 2 then bmeSet n f s else bmeClear n f s
  | .bar k => if f = .pf then setCfg fn (.bar k) (w % 2 ^ 32) s else s
  | .busNumbers => if isBridge f then setCfg fn .busNumbers (w % 2 ^ 24) s else s
  | .devCtl =>
    let s := setCfg fn .devCtl (w &&& devCtlMask) s
    if bit w 15 ∧ ownsRings f = true then flrInitiate n f s else s
  | .linkCtl => setCfg fn .linkCtl (w &&& linkCtlMask f) s
  | .msixCtl => if vectorsOf f = 0 then s else msixCtlWrite fn (bit w 15) (bit w 14) s
  | .pmcsr =>
    if f ≠ .pf then s
    else if bits w 1 0 = 3 then (if inD3 s fn then s else enterD3 n s)
    else if bits w 1 0 = 0 ∧ inD3 s fn = true then enterD0 n s else s
  | .sriovCtl => if f ≠ .pf then s else if bit w 0 then vfEnable n s else if bit old 0 then vfDisable n s else s
  | .numVfs => if f = .pf ∧ ¬ bit (cfgOf s fn .sriovCtl) 0 ∧ w ≤ s.val o4400_02 [pVCS n] then setCfg fn .numVfs w s else s
  | .vfBar k => if f = .pf then setCfg fn (.vfBar k) (w % 2 ^ 32) s else s
  | .slotCtl => match f with
    | .vppb v => slotCtlWrite n v.val w s
    | _ => s
  | .slotStatus => match f with
    | .vppb _ => setCfg fn .slotStatus (old - (old &&& w &&& 0x11F)) s
    | _ => s
  | .acsCtl => match f with
    | .vppb _ => setCfg fn .acsCtl (w % 2 ^ 7) s
    | _ => s
  | .acsVector => match f with
    | .vppb _ => setCfg fn .acsVector (w % 2 ^ 128) s
    | _ => s
  | .dpcCtl => match f with
    | .vppb v =>
      let k := 128 * n + v.val
      { s with host := { s.host with dpcEn := Tbl.upd false s.host.dpcEn k (bits w 1 0 != 0)
                                     dpcCc := Tbl.upd false s.host.dpcCc k (bit w 2) } }
    | _ => s
  | .dpcStatus => match f with
    | .vppb v => if bit w 0 then dpcRelease n v.val s else s
    | _ => s
  | .aerStatus =>
    let a := Tbl.look 0 s.host.aer fn
    let a := a - (a &&& w)
    { s with host := { s.host with aer := Tbl.upd 0 s.host.aer fn a
                                   aerHdr := if a = 0 then Tbl.upd none s.host.aerHdr fn none else s.host.aerHdr } }
  | .ids | .status | .classRev | .devCap | .linkCap | .linkStatus | .msixCap | .sriovCap | .slotCap | .acsCap | .ariCap
  | .readiness | .absent | .l1ssCap | .vcCap | .header | .pcieCaps | .devCap2 | .cxlLocator | .aerHeader => s
  | .devCtl2 => setCfg fn .devCtl2 (w &&& (if ownsRings f then 0x1010 else if f = .mgmtBridge then 0x20 else 0)) s
  | .vcCtl k => match linkPort s n f with
    | some p =>
      if s.val o2140_01 [pP p] ≤ k.val then s
      else if k = 0 then setCfg fn (.vcCtl k) (0x80000001 + (w &&& 0xFE)) s
      else setCfg fn (.vcCtl k) (w &&& 0x870000FE) s
    | none => s

/-- A configuration request to a function of a VCS, read or write, and its completion. -/
def configRequest (n : Nat) (f : Func) (r : CfgReg) (w : Option Nat) (s : State) : State :=
  let fn := fnKey n f
  match w with
  | some w => configWrite n f (cfgWrite n f r w) s
  | none =>
    if ¬ s.flag o4100_02 [pVCS n] ∨ s.val o4100_05 [pVCS n] ≠ 2 then s
    else if ¬ hasFunc s n f then emit (.config fn 1 0) s
    else if retryStatus s n f then emit (.config fn 2 0) s
    else emit (.config fn 0 (cfgRead s n f r)) s

/-- CONFIG_REQUEST. -/
def execConfigRequest (n : Fin 64) (f : Func) (r : CfgReg) (w : Option Nat) (s : State) : Host.Outcome State Fault Refusal :=
  .next (configRequest n.val f r w s)

end Sys2Proof.Machine
end

