-- ==== Sys2Proof/Machine/Fabric.lean ====
section
/-!
DEFINITION. The fabric model (02): lane-group commits, virtual switches, bindings, presence, and the forme's lead.
-/
namespace Sys2Proof.Machine

/-! ### Lane groups (R29-R37) -/

/-- A slot byte in effect: the width of a disabled slot is ignored (R33). -/
def slotEff (w p : Nat) : Nat := if slotRole (slotByte w p) = 0 then 0 else slotByte w p

/-- The ports of a group whose slot differs between two words. -/
def slotsChanged (g a b : Nat) : List Nat := ((List.range 4).map (4 * g + ·)).filter fun p => slotEff a p != slotEff b p

/-- A word breaks R30, R31 or R32. [DEDUCED, log 110] -/
def groupFaulty (w : Nat) : Bool :=
  (List.range 4).any fun j =>
    let b := slotByte w j
    let c := bits b 5 3
    slotRole b != 0 && (decide (4 < c) || (c == 4 && j != 0) || (c == 3 && j % 2 != 0) || (slotRole b == 3 && decide (c < 2))
      || (List.range 4).any fun k => decide (j < k) && decide (4 * k < 4 * j + 2 ^ c) && slotRole (slotByte w k) != 0)

/-- The word that a group has, or will have once its commit has taken effect. -/
def groupWord (s : State) (g : Nat) : Nat := (Tbl.look none s.lane.commits g).getD (s.val o2010_02 [pG g])

/-- Upstream ports that a word gives a group. -/
def upstreams (w : Nat) : Nat := ((List.range 4).filter fun j => slotRole (slotByte w j) == 1).length

/-- 1 is written to the commit object of a group: the shadow word is checked whole and accepted, or refused (R34). [DESIGN CHOICE, log 17] -/
def laneCommit (g v : Nat) (s : State) : Status × State :=
  let w := s.val o2010_01 [pG g]
  if (Tbl.look none s.lane.commits g).isSome then (.busy, s)
  else if v ≠ 1 ∨ groupFaulty w = true
    ∨ 64 < upstreams w + (((List.range 32).filter (· != g)).map fun h => upstreams (groupWord s h)).sum
    ∨ ((slotsChanged g (s.val o2010_02 [pG g]) w).any fun p => !quiesced s p) = true then (if v = 0 then .ok else .refused, s)
  else (.ok, { s with lane := { s.lane with commits := Tbl.upd none s.lane.commits g (some w) } })

/-- LANE_GROUP_COMMIT. -/
def execLaneGroupCommit (role : Role) (g : Fin 32) (v : Nat) (s : State) : Host.Outcome State Fault Refusal :=
  .next (answered (managed role o2011_00 [pG g.val] (laneCommit g.val v) s))

/-- A port takes its slot of a new word: what it had is gone; an enabled port begins to train (R36). -/
def takeSlotWord (w : Nat) (s : State) (p : Nat) : State :=
  let s := abortScans p s
  let s := setLanes p 1 ((s.put o2020_02 [pP p] 0).put o3000_03 [pP p] 0 |>.put o3030_06 [pP p] 0)
  let s := if roleOf s p = 1 ∨ roleOf s p = 2 then flushTarget p (fun _ => true) s else s
  let s := setFolio p {} (setPort p {} s)
  let r := slotRole (slotByte w p)
  let s := s.put o2020_01 [pP p] r
  if r = 0 then s.put o2020_03 [pP p] 0 else setPort p { training := true, since := s.clk.now, downSince := some s.clk.now } s

/-- Training of a changed port begins: a Folio port waits for its PLL; a downstream port with a device that is powered and not in reset
reaches DL_Active. -/
def startTraining (s : State) (p : Nat) : State :=
  match roleOf s p with
  | 0 => s
  | 3 => enterState p 1 s
  | r =>
    let s := setLanes p 2 (s.put o2020_02 [pP p] 1)
    if r = 2 ∧ present s p = true ∧ inReset s p = false then pcieUp p s else s

/-- A committed word takes effect (R36); the rest of the group, and every other group, is untouched (R37). -/
def groupApply (g w : Nat) (s : State) : State :=
  let ps := slotsChanged g (s.val o2010_02 [pG g]) w
  let s := ps.foldl (takeSlotWord w) s
  let s := { (s.put o2010_02 [pG g] w) with lane := { s.lane with commits := Tbl.upd none s.lane.commits g none } }
  ps.foldl startTraining s

/-- LANE_GROUP_CHANGE_APPLIED: within 1 ms of the commit. -/
def execLaneGroupChangeApplied (g : Fin 32) (s : State) : Host.Outcome State Fault Refusal :=
  .next <| match Tbl.look none s.lane.commits g.val with
    | none => s
    | some w => groupApply g.val w s

/-! ### PBR IDs (R59) -/

/-- A VCS, or the target of its vPPB `v`, has its ID. The other members are told the ID of a VCS. -/
def setId (n : Nat) (v : Option Nat) (k : Nat) (s : State) : State :=
  match v with
  | some v => s.put o4110_05 [pVCS n, pV v] k
  | none => tellAll (.vcs n (s.val o4100_05 [pVCS n]) k) { s with vcsPbr := Tbl.upd 0xFFF s.vcsPbr n k }

/-- A VCS, or the target of its vPPB `v`, takes an ID: the lead assigns one, and another member asks the lead for it. The target is its
member, port and LD. -/
def takeId (n : Nat) (v : Option Nat) (t : Nat × Nat × Nat) (s : State) : State :=
  if leads s then setId n v (assignPbr t s).1 (assignPbr t s).2 else tell (s.val o4200_07 []) (.askId n v t) s

/-! ### Virtual switches (R38-R40) -/

/-- vPPBs of the enabled VCSs. -/
def vppbTotal (s : State) : Nat :=
  ((List.range 64).map fun n => if s.flag o4100_02 [pVCS n] then s.val o4100_03 [pVCS n] else 0).sum

/-- The state of a VCS: the home views of its slots follow, here and, told of it, on the other members. -/
def hostState (n st : Nat) (s : State) : State :=
  tellAll (.vcs n st (Tbl.look 0xFFF s.vcsPbr n)) (viewsOnVcs (st == 2) (ownPos s) n (s.put o4100_05 [pVCS n] st))

/-- The VCS enable is written: an enable checks the upstream port and the vPPB total. [DESIGN CHOICE, log 19] -/
def vcsEnable (n v : Nat) (s : State) : Status × State :=
  let p := s.val o4100_01 [pVCS n]
  let on := s.flag o4100_02 [pVCS n]
  if 1 < v then (.refused, s)
  else if (v = 1) = on then (.ok, s)
  else if v = 0 then
    let s := dropPbr (Tbl.look 0xFFF s.vcsPbr n) { (hostState n 0 s) with vcsPbr := Tbl.upd 0xFFF s.vcsPbr n 0xFFF }
    let s := squashOwner n (removeVfs n s)
    let s := resetBlocks n (resetFunction (n * 1024) s)
    let s := s.put o4430_01 [pVCS n, pF 0] 0
    (.ok, ownerLost (ownPos s) n (s.put o4100_02 [pVCS n] 0))
  else if 128 ≤ p ∨ roleOf s p ≠ 1 ∨ (vcsOfUp s p).isSome ∨ 2048 < vppbTotal s + s.val o4100_03 [pVCS n] then (.refused, s)
  else
    let s := takeId n none (ownPos s, p, 0) (s.put o4100_02 [pVCS n] 1)
    let s := hostState n (if linkOf s p = 2 then 2 else 1) s
    (.ok, s.put o4430_01 [pVCS n, pF 0] 1)

/-- VCS_ENABLE. -/
def execVcsEnable (role : Role) (n : Fin 64) (v : Nat) (s : State) : Host.Outcome State Fault Refusal :=
  .next (answered (managed role o4100_02 [pVCS n.val] (vcsEnable n.val v) s))

/-! ### Bindings (R41-R50, Table FAB-3) -/

def bindKey (n v : Nat) : Nat := 128 * n + v

def bindUntil (s : State) (n v : Nat) : Nat := (Tbl.look none s.forme.bindAt (bindKey n v)).getD s.clk.now

def setBind (n v st : Nat) (deadline : Option Nat) (s : State) : State :=
  let s := s.put o4110_01 [pVCS n, pV v] (setBits (bindRec s n v) 31 30 st)
  { s with forme := { s.forme with bindAt := Tbl.upd none s.forme.bindAt (bindKey n v) deadline } }

/-- A background operation starts or ends (R75); its end raises vector 1 where a VCS owns the mailbox (12 Table HST-10). -/
def bgStart (unbind : Bool) (n v : Nat) (s : State) : State :=
  { s with forme := { s.forme with bgOp := some (unbind, bindKey n v, 0) } }

def bgEnd (unbind : Bool) (n v st : Nat) (s : State) : State :=
  let s := { s with forme := { s.forme with bgOp := some (unbind, bindKey n v, st) } }
  (List.range 64).foldl (fun s m => if s.flag o4100_02 [pVCS m] ∧ s.flag o4100_04 [pVCS m] = true then signal (m * 1024) 1 s else s) s

/-- Two targets of one port overlap: a whole port with anything of it, or one LD with itself. [DESIGN CHOICE, log 20] -/
def sameTarget (a b : Nat) : Bool :=
  recDev a == recDev b && recPort a == recPort b && (recKind a == 0 || recKind b == 0 || recLd a == recLd b)

/-- A capacity block lies on the target (R42: memory held for pooling). -/
def targetPooled (s : State) (r : Nat) : Bool :=
  s.blocks.any fun e => match e.2 with
    | some b => blockPort b == recPort r && (recKind r == 0 || caLd (b.base * 2 ^ 28) == recLd r)
    | none => false

/-- A local target that a bind must not take (R42, R48, R50). [DESIGN CHOICE, log 20] -/
def targetFaulty (s : State) (n r : Nat) : Bool :=
  let p := recPort r
  let d := Tbl.look {} s.devs p
  roleOf s p != 2 || (Tbl.look none s.lane.commits (groupOf p)).isSome || targetPooled s r
  || (d.cxl11 && ((vppbsOf s p).any (fun b => b.1 != n) || boundFar s p))
  || (if recKind r = 1 then (farBound s p (recLd r)).isSome else boundFar s p)
  || (present s p && (if recKind r = 1 then decide (d.lds.val ≤ recLd r) else d.lds.val != 0))

/-- A bind or an unbind still runs on a target (R74). -/
def targetBusy (s : State) (r : Nat) : Bool :=
  (s.listed o4110_01).any fun e => (recState e.2 == 1 || recState e.2 == 3) && sameTarget e.2 r

/-- The target of a bind command, in binding-record layout without STATE. -/
def bindTarget (w : Nat) : Nat :=
  let r := w % 2 ^ 30 / 2 ^ 13 * 2 ^ 13
  if recKind r = 0 then setBits r 16 13 0 else r

/-- A bind command: the target in binding-record layout. `far` says that the member which holds a remote target has found no ground of
R42 against it, and whether a device is there; `pbr` is the ID that a lead on another member has assigned. A target that no route reaches
is refused (06 R184). [DESIGN CHOICE, log 19] -/
def bindCommand (n v w : Nat) (far : Option Bool) (pbr : Option Nat) (s : State) : Status × State :=
  let r := bindTarget w
  let st := recState (bindRec s n v)
  let here := decide (recDev r = ownPos s)
  if st = 1 ∨ st = 3 ∨ targetBusy s r = true then (.busy, s)
  else if st ≠ 0 ∨ s.val o4100_03 [pVCS n] ≤ v ∨ 2 ≤ recKind r ∨ (16 ≤ s.val o4200_01 [] ∧ recDev r ≠ 0)
    ∨ presents s n v = true ∨ (s.listed o4110_01).any (fun e => recState e.2 != 0 && sameTarget e.2 r) = true
    ∨ (if here then targetFaulty s n r else far.isNone || (firstHops s (ownPos s) (recDev r)).isEmpty) = true then (.refused, s)
  else
    let p := recPort r
    let there := if here then present s p else far.getD false
    let s := s.put o4110_01 [pVCS n, pV v] r
    let s := match pbr with
      | some k => setId n (some v) k s
      | none => takeId n (some v) (recDev r, p, recLd r) s
    let s := if here then s else tell (recDev r) (.target r n v true) s
    if there then
      let s := setBind n v 1 (some (s.clk.now + ms 100)) (resetTarget r s)
      let s := if here ∧ recKind r = 0 then setLanes p 2 (s.put o2020_02 [pP p] 1) else s
      (.ok, bgStart false n v s)
    else
      let s := setBind n v 2 none (slotPresence n v false s)
      (.ok, imprintChange n (bgEnd false n v 1 s))

/-- A pending bind ends in BOUND: the slot shows presence; a whole device is the host's. -/
def bindDone (n v : Nat) (up : Bool) (s : State) : State :=
  let r := bindRec s n v
  let s := if recKind r = 0 ∧ recDev r = ownPos s then s.put o2020_03 [pP (recPort r)] 1 else s
  let s := setBind n v 2 none s
  let s := slotEvents n v (if up then [3, 8] else [3]) (slotDl n v up (slotPresence n v true s))
  imprintChange n (bgEnd false n v 1 s)

/-- BIND_TARGET_READY: the target's link reaches DL_Active, or its LD reset completes; a link that may not train leaves the bind pending. [DESIGN CHOICE, log 6] -/
def execBindTargetReady (n : Fin 64) (v : Fin 128) (s : State) : Host.Outcome State Fault Refusal :=
  .next <|
    let r := bindRec s n.val v.val
    if recState r ≠ 1 then s else
    let whole := decide (recKind r = 0 ∧ recDev r = ownPos s)
    let s := if whole ∧ linkOf s (recPort r) ≠ 2 then pcieUp (recPort r) s else s
    if whole ∧ linkOf s (recPort r) ≠ 2 then s else bindDone n.val v.val true s

/-- BIND_PENDING_TIMEOUT: 100 ms without DL_Active. -/
def execBindPendingTimeout (n : Fin 64) (v : Fin 128) (s : State) : Host.Outcome State Fault Refusal :=
  .next <|
    let r := bindRec s n.val v.val
    if recState r ≠ 1 then s else
    let s := advanceTo (bindUntil s n.val v.val) s
    bindDone n.val v.val (recDev r == ownPos s && linkOf s (recPort r) == 2) s

/-- The slot shows that its target has gone. [DEDUCED, log 21; DEDUCED, log 159] -/
def slotEmpty (n v : Nat) (s : State) : State := slotEvents n v [3, 8] (slotDl n v false (slotPresence n v false s))

/-- A target is released: what is queued between it and the VCS is flushed, its ID is free, an LD is reset (R49), a device that is
still there is the fabric manager's, and the vPPB is UNBOUND. [DEDUCED, log 21] -/
def releaseBind (n v : Nat) (s : State) : State :=
  let r := bindRec s n v
  let p := recPort r
  let here := decide (recDev r = ownPos s)
  let s := if here then flushTarget p (fun x => recKind r == 0 || x.dld == recLd r) s else s
  let s := if here then (if recKind r = 1 then resetTarget r s else s) else tell (recDev r) (.target r n v false) s
  let s := dropPbr (s.val o4110_05 [pVCS n, pV v]) s
  let s := (s.put o4110_05 [pVCS n, pV v] 0xFFF).put o4110_01 [pVCS n, pV v] 0
  let s := if here ∧ present s p = true then s.put o2020_03 [pP p] 2 else s
  { s with forme := { s.forme with bindAt := Tbl.upd none s.forme.bindAt (bindKey n v) none } }
  |> imprintChange n

/-- An unbind command (R44, R45). [DESIGN CHOICE, log 20] -/
def unbindCommand (n v mode : Nat) (s : State) : Status × State :=
  let st := recState (bindRec s n v)
  if 2 < mode ∨ st = 0 then (.refused, s)
  else if st = 1 ∨ (st = 3 ∧ mode ≠ 2) then (.busy, s)
  else if mode = 2 then
    let s := dpcTrigger n v (slotEmpty n v s)
    (.ok, bgEnd true n v 1 (releaseBind n v s))
  else
    let s := setBind n v 3 (some (s.clk.now + ms (s.val o4110_03 [pVCS n, pV v]))) s
    let s := if mode = 1 then slotEvents n v [0] s else s
    (.ok, bgStart true n v s)

/-- What ends the wait of an unbind (R44): slot power off, the target's link down, the target gone. Of a target on another member the
event itself tells. [DEDUCED, log 21] -/
def unbindReady (s : State) (n v : Nat) : Bool :=
  let r := bindRec s n v
  !slotPowered s n v || recDev r != ownPos s || linkOf s (recPort r) == 0 || !present s (recPort r)

/-- UNBIND_COMPLETE. -/
def execUnbindComplete (n : Fin 64) (v : Fin 128) (s : State) : Host.Outcome State Fault Refusal :=
  .next <|
    if recState (bindRec s n.val v.val) = 3 ∧ unbindReady s n.val v.val = true then
      bgEnd true n.val v.val 1 (releaseBind n.val v.val (slotEvents n.val v.val [3]
        (slotDl n.val v.val false (slotPresence n.val v.val false s))))
    else s

/-- UNBIND_WAIT_EXPIRY: the command completes with failure, the binding stays. -/
def execUnbindWaitExpiry (n : Fin 64) (v : Fin 128) (s : State) : Host.Outcome State Fault Refusal :=
  .next <|
    if recState (bindRec s n.val v.val) ≠ 3 then s
    else bgEnd true n.val v.val 2 (setBind n.val v.val 2 none (advanceTo (bindUntil s n.val v.val) s))

/-! ### Presence (R76, R77, Tables FAB-7 and FAB-8) -/

/-- A port, or an LD of it, is bound to a vPPB here or on another member. -/
def portBound (s : State) (p : Nat) : Bool := !(vppbsOf s p).isEmpty || boundFar s p

/-- INSERTION_UNBOUND_PORT: the link trains and the fabric manager enumerates the device. -/
def execInsertionUnboundPort (p : Fin 128) (d : DevInfo) (s : State) : Host.Outcome State Fault Refusal :=
  .next <|
    if roleOf s p.val ≠ 2 ∨ portBound s p.val = true then s else
    let s := { (s.put o2020_03 [pP p.val] 2) with devs := Tbl.upd {} s.devs p.val d }
    if linkOf s p.val = 2 then s else pcieUp p.val s

/-- The vPPBs that see a device inserted at their port: all that are bound to it, or, of a device in CXL 1.1 mode, which has one host (R12),
those of the VCS with the lowest number. [DESIGN CHOICE, log 171] -/
def seeInserted (s : State) (p : Nat) (d : DevInfo) : List (Nat × Nat) :=
  let l := vppbsOf s p
  if d.cxl11 then l.filter fun b => b.1 == l.foldl (fun n b => min n b.1) 64 else l

/-- INSERTION_BOUND_PORT: the slots of the bound vPPBs show presence; the host powers and enables them. Where the slot is powered and
enabled already, the link trains. [DEDUCED, log 162] -/
def execInsertionBoundPort (p : Fin 128) (d : DevInfo) (s : State) : Host.Outcome State Fault Refusal :=
  .next <|
    if roleOf s p.val ≠ 2 ∨ portBound s p.val = false then s else
    let s := { (s.put o2020_03 [pP p.val] 1) with devs := Tbl.upd {} s.devs p.val d }
    let s := (seeInserted s p.val d).foldl (fun s b => slotEvents b.1 b.2 [3] (slotPresence b.1 b.2 true s)) s
    let s := tellBound p.val true (linkOf s p.val == 2) s
    if slotReady s p.val then linkEnable p.val s else s

/-- A downstream port loses its link (Table FAB-8): DPC on each bound vPPB where enabled, the flush, slot status; with the device gone
its memory is lost, and a pending bind or unbind of it ends (Table FAB-3 gives the unbind its own event). -/
def lostPort (p : Nat) (gone : Bool) (s : State) : State :=
  let vs := vppbsOf s p
  let s := vs.foldl (fun s b => dpcTrigger b.1 b.2 s) s
  let s := pcieDown p s
  let s := if gone then
      tellBound p false false (memoryRemoved p { (s.put o2020_03 [pP p] 0) with devs := Tbl.upd {} s.devs p {} })
    else s
  vs.foldl (fun s b =>
    let s := slotDl b.1 b.2 false s
    if gone then
      let s := slotEvents b.1 b.2 [3, 8] (slotPresence b.1 b.2 false s)
      if recState (bindRec s b.1 b.2) = 1 then imprintChange b.1 (bgEnd false b.1 b.2 1 (setBind b.1 b.2 2 none s)) else s
    else slotEvents b.1 b.2 [8] s) s

/-- SURPRISE_REMOVAL: the device of a downstream port is removed. -/
def execSurpriseRemoval (p : Fin 128) (s : State) : Host.Outcome State Fault Refusal :=
  .next (if roleOf s p.val = 2 ∧ present s p.val = true then lostPort p.val true s else s)

/-- An upstream port loses its link: its VCS is host-absent, with its bindings kept. -/
def hostLost (p : Nat) (s : State) : State :=
  match vcsOfUp s p with
  | none => pcieDown p s
  | some n => ownerLost (ownPos s) n (hostState n 1 (pcieDown p s))

/-- UPSTREAM_LINK_DOWN. -/
def execUpstreamLinkDown (p : Fin 128) (s : State) : Host.Outcome State Fault Refusal :=
  .next (if roleOf s p.val = 1 ∧ linkOf s p.val ≠ 0 then hostLost p.val s else s)

/-- An upstream link returns: every bridge of its VCS and each bound target is reset, and viral ends (16 R465). -/
def hostReturn (p : Nat) (s : State) : State :=
  if noTraining s p then s else
  let s := pcieUp p s
  match vcsOfUp s p with
  | none => s
  | some n => hostState n 2 ((resetVcs n s).put o9030_02 [pVCS n] 0)

/-- UPSTREAM_LINK_RETURN. -/
def execUpstreamLinkReturn (p : Fin 128) (s : State) : Host.Outcome State Fault Refusal :=
  .next (if roleOf s p.val = 1 ∧ linkOf s p.val ≠ 2 then hostReturn p.val s else s)

/-! ### The forme's lead (R66-R72) -/

/-- What a vPPB shows whose target is on a lost member (R71): surprise removal, with everything queued toward the target flushed (Table
FAB-8), a pending bind that ends with presence clear, and a pending unbind that has its end (Table FAB-3). -/
def targetLost (n v : Nat) (s : State) : State :=
  let r := bindRec s n v
  let k := s.val o4110_05 [pVCS n, pV v]
  let how := fun (_ : DSort) => if Tbl.look false s.host.dpcCc (128 * n + v) then FailKind.unsupported else FailKind.completerAbort
  let s := slotEmpty n v (dpcTrigger n v s)
  let s := ((List.range 128).filter fun p => roleOf s p == 3).foldl (fun s p => flushPort p (fun x => x.dpbr == k && k != 0xFFF) how s) s
  if recState r = 1 then imprintChange n (bgEnd false n v 1 (setBind n v 2 none s))
  else if recState r = 3 then bgEnd true n v 1 (releaseBind n v s)
  else s

/-- After a member is lost the part looks at its lead (R68, R69, R71, R72): a lost lead leaves it without one until the standby takes over, or
for good where there is none; a lost standby is followed by the next eligible member; the lead rewrites the routes. -/
def settleLoss (k : Nat) (s : State) : State :=
  let standby := s.val o4200_09 []
  let held := !hasMajority s
  if k = s.val o4200_07 [] then
    { s.put o4200_07 [] 0xFF with forme := { s.forme with
        leadLost := if standby = 0xFF then none else some s.clk.now, noAuthority := s.forme.noAuthority || standby == 0xFF || held } }
  else
    let s := { s with forme := { s.forme with noAuthority := s.forme.noAuthority || held } }
    if s.forme.leadLost.isSome then
      if k ≠ standby then s
      else
        let next := (eligibleMembers s).getD 0 0xFF
        { s.put o4200_09 [] next with forme := { s.forme with
            leadLost := if next = 0xFF then none else s.forme.leadLost, noAuthority := s.forme.noAuthority || next == 0xFF } }
    else if s.forme.noAuthority then s.put o4200_09 [] ((eligibleMembers s).getD 1 0xFF)
    else rewriteRoutes (formeSettle s)

/-- A member is declared lost (R69, R71, R72): every vPPB bound to a target on it shows surprise removal, its VCSs are active no more, and
the other members are told. -/
def memberLost (k : Nat) (s : State) : State :=
  let s := unjoin k s
  let s := (s.listed o4110_01).foldl (fun s e =>
    if recState e.2 != 0 ∧ recDev e.2 = k then targetLost (elemAt e.1 0) (elemAt e.1 1) s else s) s
  let s := ((List.range 64).filter fun n => Tbl.look 0 s.forme.vcsState (64 * k + n) != 0).foldl (fun s n =>
    viewsOnVcs false k n { s with forme := { s.forme with vcsState := Tbl.upd 0 s.forme.vcsState (64 * k + n) 0 } }) s
  settleLoss k (tellAll (sayMember s k) s)

/-- When every Folio link to a member has been down; none while one is up. A link withdrawn from the forme, or of a port that is no Folio
port any more, counts no longer. -/
def memberDown (s : State) (k : Nat) : Option Nat :=
  s.forme.peer.foldl (fun t e =>
    if e.2 ≠ some k ∨ ¬ portJoined s e.1 then t
    else match t, (portLink s e.1).downSince with
      | some a, some b => some (max a b)
      | _, _ => none) (some 0)

/-- A Folio port is withdrawn from the forme, or given back to it (R35, R78): a withdrawn port carries no traffic, and a member that no other
way reaches leaves the forme with it; a port given back trains anew, and joins when it has aligned. -/
def withdrawWrite (p v : Nat) (s : State) : Status × State :=
  if 1 < v then (.refused, s)
  else if v = s.val o4200_06 [pP p] then (.ok, s)
  else
    let s := s.put o4200_06 [pP p] v
    if v = 0 then (.ok, retrain p s)
    else
      let s := setPort p { portLink s p with joined := false } s
      (.ok, match Tbl.look none s.forme.peer p with
        | some k =>
          let s := { s with forme := { s.forme with peer := Tbl.upd none s.forme.peer p none } }
          if joinedAt s k ∧ firstHops s (ownPos s) k = [] then settleLoss k (unjoin k s)
          else tellAll (sayMember s (ownPos s)) (rewriteRoutes s)
        | none => s)

/-- The item of a request for an object. -/
def codeItem (code : Nat) (p : Path) (w : Option Nat) : AdsItem :=
  { idx := Fin.ofNat 65536 (code / 256), sub := Fin.ofNat 256 code, path := p, len := (w.map byteLen).getD 0, data := w.getD 0 }

/-- FORME_REQUEST_FORWARD: the request of role `who.1` for an object that the lead answers, or for member `who.2` by the path, goes to that member over Folio,
and its answer `st`, `v` comes back (R28, 15 R424). Without a lead it is answered FORME_BUSY. [DESIGN CHOICE, log 15] -/
def execFormeRequestForward (who : Role × Option (Fin 16)) (o : Path × Nat) (w : Option Nat) (st : Fin 11) (v : Option Nat) (s : State) :
    Host.Outcome State Fault Refusal :=
  .next <|
    let k := who.2
    let d := match k with
      | some k => k.val
      | none => s.val o4200_07 []
    if k.isNone ∧ (formeHolds s).isSome then answer .formeBusy none s
    else if 16 ≤ d ∨ d = ownPos s ∨ ¬ joinedAt s d then (if k.isSome then answer .notFound none s else s)
    else if (portToward s d).isNone then s
    else answer (match st.val with
      | 0 => .ok | 1 => .notFound | 2 => .notInView | 3 => .refused | 4 => .busy | 5 => .typeLen | 6 => .formeBusy | 7 => .auth
      | 8 => .resource | 9 => .notDone | _ => .mixed) v (emit (.forward d who.1 (if w.isSome then .set else .get) (codeItem o.2 o.1 w)) s)

/-- FORWARD_TIMEOUT: the named member cannot be reached within 1 ms. -/
def execForwardTimeout (k : Fin 16) (s : State) : Host.Outcome State Fault Refusal :=
  .next (if joinedAt s k.val ∧ k.val ≠ ownPos s ∧ (portToward s k.val).isNone then answer .busy none (advance (ms 1) s) else s)

end Sys2Proof.Machine
end

