-- ==== Sys2Proof/Machine/Forme.lean ====
section
/-!
DEFINITION. Forme-level changes (02 R67, R68, R70, R74): what the lead has recorded by its standby before it carries a change out and
acknowledges it; and what members of a forme tell one another (R42, R59-R61, R65, R66, R71, R76).
-/
namespace Sys2Proof.Machine

/-! ### Carrying a change out -/

/-- The vPPB or the domain slot that a change names. -/
def changeKey : FChange → Nat × Nat × Nat
  | .bind k n v .. => (k, n, v)
  | .unbind k n v _ => (k, n, v)
  | .slot d n _ => (16, d, n)

/-- Two changes name the same vPPB, target or domain slot (R74). -/
def sameChange (a b : FChange) : Bool :=
  changeKey a == changeKey b || (match a, b with
    | .bind _ _ _ w _, .bind _ _ _ x _ => sameTarget (bindTarget w) (bindTarget x)
    | _, _ => false)

/-- The persistent value that a change writes here: the object and the instance (R68). -/
def changeObject : FChange → Nat × Nat
  | .bind _ n v .. => (o4110_01.code, pathKey [pVCS n, pV v])
  | .unbind _ n v _ => (o4110_01.code, pathKey [pVCS n, pV v])
  | .slot d n _ => (o5010_01.code, pathKey (slotPath d n))

/-- A change's value is durable in this device's persistent store (15 R428). -/
def changeDurable (s : State) (c : FChange) : Bool :=
  !s.store.pq.any fun e => (e.code, e.key) == changeObject c

/-- A change is carried out. On a vPPB of another member that member carries it out, told by the lead, which gives a bind its PBR ID; the
lead tells every member of a domain slot. -/
def carryOut (c : FChange) (pbr : Option Nat) (s : State) : Status × State :=
  match c with
  | .bind dev n v w far =>
    if dev = ownPos s then bindCommand n v w far pbr s
    else
      let r := bindTarget w
      let (k, s) := assignPbr (recDev r, recPort r, recLd r) s
      (.ok, tell dev (.carry c k) s)
  | .unbind dev n v mode => if dev = ownPos s then unbindCommand n v mode s else (.ok, tell dev (.carry c 0xFFF) s)
  | .slot d n w =>
    let r := slotWrite d n w s
    (r.1, if r.1 = .ok ∧ formed s = true ∧ leads s = true then tellAll (.carry c 0xFFF) r.2 else r.2)

/-- A forme-level change is commanded. Outside a forme, and on a member that carries out what the lead commands, it is carried out at once.
The lead refuses what cannot be done; it has the standby record what it accepts, and carries it out and acknowledges it then (R67); without a
standby it carries it out, and acknowledges it when it is durable (R68). [DESIGN CHOICE, log 170] -/
def formeChange (who : ChangeFor) (c : FChange) (s : State) : Status × State :=
  if ¬ formed s ∨ s.val o4200_07 [] ≠ ownPos s then carryOut c none s
  else if s.forme.waits.any fun w => !w.done && sameChange w.c c then (.busy, s)
  else
    let r := carryOut c none s
    let id := s.forme.nextChange
    let wait := fun (done : Bool) (t : State) =>
      { t with forme := { t.forme with waits := t.forme.waits ++ [⟨id, c, who, done⟩], nextChange := id + 1 } }
    if r.1 ≠ .ok then r
    else if s.val o4200_09 [] ≠ 0xFF then (.held, tell (s.val o4200_09 []) (.record id c) (wait false s))
    else if changeDurable r.2 c then r
    else (.held, wait true r.2)

/-- The answer to a command, where there is one yet. -/
def answeredYet (r : Status × State) : State := if r.1 = .held then r.2 else answered r

/-- BIND. -/
def execBind (role : Role) (n : Fin 64) (v : Fin 128) (w : Nat) (far : Option Bool) (s : State) : Host.Outcome State Fault Refusal :=
  .next (answeredYet (managed role o4110_02 [pVCS n.val, pV v.val] (formeChange .command (.bind (ownPos s) n.val v.val w far)) s))

/-- UNBIND_MODE0. -/
def execUnbindMode0 (role : Role) (n : Fin 64) (v : Fin 128) (s : State) : Host.Outcome State Fault Refusal :=
  .next (answeredYet (managed role o4110_04 [pVCS n.val, pV v.val] (formeChange .command (.unbind (ownPos s) n.val v.val 0)) s))

/-- UNBIND_MODE1. -/
def execUnbindMode1 (role : Role) (n : Fin 64) (v : Fin 128) (s : State) : Host.Outcome State Fault Refusal :=
  .next (answeredYet (managed role o4110_04 [pVCS n.val, pV v.val] (formeChange .command (.unbind (ownPos s) n.val v.val 1)) s))

/-- UNBIND_MODE2. -/
def execUnbindMode2 (role : Role) (n : Fin 64) (v : Fin 128) (s : State) : Host.Outcome State Fault Refusal :=
  .next (answeredYet (managed role o4110_04 [pVCS n.val, pV v.val] (formeChange .command (.unbind (ownPos s) n.val v.val 2)) s))

/-- DOMAIN_SLOT_ASSIGN. -/
def execDomainSlotAssign (role : Role) (d : Fin 16) (n : Fin 64) (v : Nat) (s : State) : Host.Outcome State Fault Refusal :=
  .next (answeredYet (managed role o5010_01 (slotPath d.val n.val) (formeChange .command (.slot d.val n.val v)) s))

/-- DOMAIN_SLOT_REMOVE. -/
def execDomainSlotRemove (role : Role) (d : Fin 16) (n : Fin 64) (s : State) : Host.Outcome State Fault Refusal :=
  .next (answeredYet (managed role o5010_01 (slotPath d.val n.val) (formeChange .command (.slot d.val n.val 0xFFFF)) s))

/-! ### Acknowledging -/

/-- The code of an answer to an FM API command: a bind or an unbind that runs on has started. [DESIGN CHOICE, log 125] -/
def fmCode : Status → Nat
  | .ok => 0 | .busy => 3 | .formeBusy => 5 | _ => 4

/-- A bind or an unbind runs on in the background (R75). -/
def runsOn (s : State) (c : FChange) : Bool :=
  match c with
  | .bind _ n v .. | .unbind _ n v _ => recState (bindRec s n v) == 1 || recState (bindRec s n v) == 3
  | .slot .. => false

/-- An item of a response that waits for a change takes its status. -/
def itemDone (id : Nat) (st : Status) (d : Defer) : Defer :=
  match d.changes.find? fun e => e.1 == id with
  | none => d
  | some e => { d with
      changes := d.changes.filter fun f => f.1 != id
      resp := { d.resp with
        st := if st = .ok then d.resp.st else st
        items := d.resp.items.mapIdx fun i a => if i = e.2 then { a with st := st, aux := 0 } else a } }

/-- A change is acknowledged to its sender. -/
def acknowledge (w : FPend) (st : Status) (s : State) : State :=
  let s := { s with forme := { s.forme with waits := s.forme.waits.filter fun v => v.id != w.id } }
  match w.who with
  | .command => answer st none s
  | .fm via => emit (.fm via (if st = .ok ∧ runsOn s w.c = true then 1 else fmCode st) []) s
  | .item => { s with ads := { s.ads with defer := s.ads.defer.map (itemDone w.id st) } }

/-- A change that the standby has recorded is carried out and acknowledged, and the standby is told. -/
def recordedChange (k id : Nat) (s : State) : State :=
  match s.forme.waits.find? fun w => w.id == id && !w.done with
  | none => s
  | some w =>
    let r := carryOut w.c none s
    acknowledge w r.1 (tell k (.finished id) r.2)

/-- A change that waits: one carried out is acknowledged when it is durable; with the standby lost and no other, the lead carries it out
itself; a device that leads no more answers none of them but with FORME_BUSY. -/
def settleWait (s : State) (w : FPend) : State :=
  if ¬ formed s ∨ ¬ leads s then acknowledge w .formeBusy s
  else if w.done then (if changeDurable s w.c then acknowledge w .ok s else s)
  else if s.val o4200_09 [] ≠ 0xFF then s
  else
    let r := carryOut w.c none s
    if r.1 ≠ .ok ∨ changeDurable r.2 w.c = true then acknowledge w r.1 r.2
    else { r.2 with forme := { r.2.forme with waits := r.2.forme.waits.map fun v => if v.id = w.id then { v with done := true } else v } }

/-! ### What members say -/

/-- A target here is bound to a vPPB of another member: as for a bind here (Table FAB-3), it is reset and trains. -/
def targetTaken (k r n v : Nat) (s : State) : State :=
  let p := recPort r
  let key := p * 32 + (if recKind r = 1 then 16 + recLd r else 0)
  let s := { s with forme := { s.forme with bound := Tbl.upd none s.forme.bound key (some (k, n, v)) } }
  if ¬ present s p then s else
  let s := resetTarget r s
  if recKind r = 1 then tell k (.slotView n v true (linkOf s p == 2)) s
  else linkEnable p (setLanes p 2 ((s.put o2020_02 [pP p] 1).put o2020_03 [pP p] 1))

/-- It is released: what is queued for it is flushed, an LD is reset, and a device that is there is the fabric manager's. -/
def targetLeft (k r : Nat) (s : State) : State :=
  let p := recPort r
  let key := p * 32 + (if recKind r = 1 then 16 + recLd r else 0)
  match Tbl.look none s.forme.bound key with
  | none => s
  | some b =>
    if b.1 ≠ k then s else
    let s := flushTarget p (fun x => recKind r == 0 || x.dld == recLd r) s
    let s := if recKind r = 1 then resetTarget r s else s
    let s := { s with forme := { s.forme with bound := Tbl.upd none s.forme.bound key none } }
    if present s p then s.put o2020_03 [pP p] 2 else s

/-- What the member with a vPPB's target says of it: a pending bind or unbind ends as Table FAB-3 has it, and the slot shows device and link
(Table FAB-8 where the link is lost). -/
def slotSeen (n v : Nat) (there up : Bool) (s : State) : State :=
  let f := vppbFn n v
  let hadLink := bit (cfgOf s f .linkStatus) 13
  let had := bit (cfgOf s f .slotStatus) 6
  match recState (bindRec s n v) with
  | 1 => if up then bindDone n v true s
         else if there then s else imprintChange n (bgEnd false n v 1 (setBind n v 2 none (slotPresence n v false s)))
  | 0 => s
  | st =>
    let s := if hadLink && !up then dpcTrigger n v s else s
    let s := slotEvents n v ((if had = there then [] else [3]) ++ (if hadLink = up then [] else [8]))
      (slotDl n v up (slotPresence n v there s))
    if st = 3 ∧ up = false then bgEnd true n v 1 (releaseBind n v s) else s

/-- A message of member `k` is taken. [DESIGN CHOICE, log 170] -/
def takeFormeMsg (s : State) (e : Nat × FMsg) : State :=
  let k := e.1
  let fromLead := s.val o4200_07 [] == k
  if ¬ joinedAt s k then s else
  match e.2 with
  | .record id c => if fromLead then tell k (.recorded id) { s with forme := { s.forme with record := s.forme.record ++ [(id, c)] } } else s
  | .recorded id => if leads s ∧ k = s.val o4200_09 [] then recordedChange k id s else s
  | .finished id => { s with forme := { s.forme with record := s.forme.record.filter fun r => r.1 != id } }
  | .carry c pbr => if fromLead then (carryOut c (some pbr) s).2 else s
  | .slots l =>
    if fromLead then l.foldl (fun s x =>
      (s.put o5010_01 (slotPath x.1 x.2.1) x.2.2).put o5010_02 (slotPath x.1 x.2.1) (if x.2.2 = 0xFFFF then 0 else 1)) s
    else s
  | .member pos ident eligible joined links =>
    if joined then
      if posTaken s pos.val ident then s
      else
        let s := noteMember pos.val ident eligible (if joinedAt s pos.val then s else tellColours pos.val s)
        formeChanged { s with forme := { s.forme with links := Tbl.upd [] s.forme.links pos.val links } }
    else if joinedAt s pos.val ∧ pos.val ≠ ownPos s ∧ (portToward s pos.val).isNone then memberLost pos.val s
    else s
  | .route id w t =>
    if fromLead then
      { s.put o4180_01 [pPBR id] w with forme := { s.forme with targets := Tbl.upd none s.forme.targets id t } }
    else s
  | .askId n v t =>
    if leads s then
      let (id, s) := assignPbr t s
      tell k (.giveId n v id) s
    else s
  | .giveId n v id => if fromLead then setId n v id s else s
  | .dropId id => if leads s then dropPbr id s else s
  | .target r n v on => if recDev r ≠ ownPos s then s else if on then targetTaken k r n v s else targetLeft k r s
  | .slotView n v there up => if recDev (bindRec s n v) = k then slotSeen n v there up s else s
  | .slotEvent n v b => if recDev (bindRec s n v) = k then slotEvents n v [b] s else s
  | .reset r => if recDev r = ownPos s ∧ boundFar s (recPort r) = true then resetTarget r s else s
  | .viral r => if recDev r = ownPos s ∧ boundFar s (recPort r) = true ∧ cxlDevice s (recPort r) = true then emit (.viral (recPort r)) s else s
  | .power r on => if recDev r = ownPos s ∧ boundFar s (recPort r) = true then
      let s := powerTarget r on s
      match recKind r, Tbl.look none s.forme.bound (recPort r * 32 + 16 + recLd r) with
      | 1, some b => if on then tell b.1 (.slotView b.2.1 b.2.2 true (linkOf s (recPort r) == 2)) s else s
      | _, _ => s
    else s
  | .vcs n st pbr =>
    let s := { s with forme := { s.forme with
        vcsIds := Tbl.upd 0xFFF s.forme.vcsIds (64 * k + n) pbr, vcsState := Tbl.upd 0 s.forme.vcsState (64 * k + n) st } }
    viewsOnVcs (st == 2) k n (if st = 2 then s else ownerLost k n s)
  | .capacity n what b slot =>
    emit (.capacity n what b slot) (if what = 1 then s else { s with forme := { s.forme with asked := s.forme.asked ++ [(k, b, n, what)] } })
  | .colours l =>
    let s := { s with frisk := { s.frisk with copies := l.foldl (fun t e => Tbl.upd none t e.1 (some e.2)) s.frisk.copies } }
    l.foldl (fun s e => tell k (.coloured e.1 e.2) s) s
  | .coloured base c => memberColoured k base c s
  | .capacityAnswer n what b ok => if what = 0 then releaseAnswer b k n ok s else addAnswer b k n ok s

/-- What flits have brought is taken, and the changes that wait are looked at. -/
def settleForme (s : State) : State :=
  let l := s.forme.inbox
  let s := l.foldl takeFormeMsg { s with forme := { s.forme with inbox := [] } }
  s.forme.waits.foldl settleWait s

/-- The standby becomes the lead (R69): it carries out what it has recorded (R67), a new standby is chosen, and the routes are rewritten (R71). -/
def takeover (s : State) : State :=
  let s := { s with forme := { s.forme with leadLost := none, noAuthority := s.forme.noAuthority && !hasMajority s } }
  let s := formeSettle s
  if ¬ leads s then s else
  let l := s.forme.record
  let s := l.foldl (fun s e => (carryOut e.2 none s).2) { s with forme := { s.forme with record := [] } }
  rewriteRoutes s

/-- FOLIO_FLIT_RECEIVE: a flit arrives; what it brings from members is taken with it. -/
def execFolioFlitReceive (p : Fin 128) (fl : Flit) (s : State) : Host.Outcome State Fault Refusal :=
  .next (settleForme (folioReceive p.val fl s))

/-- FORME_LOSS_TIMEOUT: every way to member `k` has been down for the forme loss timeout. -/
def execFormeLossTimeout (k : Fin 16) (s : State) : Host.Outcome State Fault Refusal :=
  .next <|
    if ¬ joinedAt s k.val ∨ k.val = ownPos s ∨ (portToward s k.val).isSome = true then s
    else match memberDown s k.val with
      | none => s
      | some t => settleForme (memberLost k.val (advanceTo (t + ms (s.val o4200_05 [])) s))

/-- STANDBY_TAKEOVER: within 20 ms of the declaration the standby is the lead. [DESIGN CHOICE, log 27] -/
def execStandbyTakeover (s : State) : Host.Outcome State Fault Refusal :=
  .next (if s.forme.leadLost.isSome then settleForme (takeover s) else s)

end Sys2Proof.Machine
end

