-- ==== Sys2Proof/Machine/Compositor.lean ====
section
/-!
DEFINITION. Compositor engines and the on-chip network (14), as far as no engine access is performed: network targets, interrupts,
trays, domains, service programs and run control.
-/
namespace Sys2Proof.Machine

/-! ### Network targets (R414) -/

/-- 1 is written to return a target to service. -/
def targetReturn (t v : Nat) (s : State) : Status × State :=
  if v ≠ 1 then (if v = 0 then .ok else .refused, s)
  else if targetState s t = 0 then (.refused, s)
  else (.ok, s.put o7030_01 [pNT t] 0)

/-- NET_TARGET_RETURN. -/
def execNetTargetReturn (role : Role) (t : Fin 256) (v : Nat) (s : State) : Host.Outcome State Fault Refusal :=
  .next (answered (managed role o7030_02 [pNT t.val] (targetReturn t.val v) s))

/-- Reservations on the memory of a target are broken (R410). -/
def breakTarget (t : Nat) (s : State) : State :=
  let l : Tbl Engine := s.net.eng.foldl (fun m e =>
    match e.2.resv with
    | some g => if (placeOf (g * 128)).map targetOf = some t then Tbl.upd {} m e.1 { e.2 with resv := none } else m
    | none => m) s.net.eng
  { s with net := { s.net with eng := l } }

/-! ### What has gone out to a target -/

/-- The cause of an access that is refused at decode: of a load or an LR, or of a store, an SC or an AMO. -/
def faultCause : EKind → Nat
  | .load | .lr => 5
  | _ => 7

/-- The accesses of engines that have gone out to a target: engine, and when. -/
def outTo (s : State) (t : Nat) : List (Nat × Nat) :=
  s.net.eng.filterMap fun e => match e.2.wait with
    | some w =>
      let a := globalAddr e.1 w.acc.addr
      if ¬ w.imp ∧ (placeOf a).map targetOf = some t then w.out.map fun n => (e.1, n) else none
    | none => none

/-- The accesses that are out to a target are answered with error (R414). -/
def answerOut (t : Nat) (s : State) : State :=
  (outTo s t).foldl (fun s c => match (engOf s c.1).wait with
    | some w => trap c.1 (faultCause w.acc.kind) w.acc.addr (answeredError t s)
    | none => s) s

/-- A target is OFFLINE: reservations on its memory are broken, and what is out to it is answered with error. -/
def targetOffline (t : Nat) (s : State) : State := answerOut t (breakTarget t (s.put o7030_01 [pNT t] 2))

/-! ### Store failures and interrupts (R397, R412, R415) -/

/-- SFINFO VALID is cleared: SFINFO, SFADDR and mip[16] with it. -/
def storeFaultClear (c : Nat) (s : State) : State := setEng c { engOf s c with sfinfo := 0, sfaddr := 0 } s

/-- STORE_FAULT_CLEAR. -/
def execStoreFaultClear (c : Fin 192) (s : State) : Host.Outcome State Fault Refusal := .next (storeFaultClear c.val s)

/-- NET_INTERRUPT_MESSAGE: to an engine, or to cluster `k`, for the engine that takes its interrupts. A control block whose target is out
of service takes none. -/
def execNetInterruptMessage (e : Option (Fin 192)) (k : Fin 12) (v : Fin 2048) (s : State) : Host.Outcome State Fault Refusal :=
  .next <|
    let c := match e with
      | some e => e.val
      | none => clusterEngine s k.val
    raiseVec c v.val s

/-- The lowest enabled pending vector of an engine is claimed: its bit is cleared; none gives all ones (R412). -/
def claim (c : Nat) (s : State) : Nat × State :=
  let e := engOf s c
  match lowestBit (e.pend &&& e.enab) 2048 with
  | some v => (v, setEng c { e with pend := setBits e.pend v v 0 } s)
  | none => (0xFFFFFFFF, s)

/-- A load of a control block whose target is out of service traps (R414, R398). -/
def atControl (c k a : Nat) (f : State → State) (s : State) : State :=
  if engState s c ≠ 1 then s
  else if targetState s (204 + k) ≠ 0 then trap c 5 a (answeredError (204 + k) s)
  else f s

/-- The global address of an offset in a cluster's control block. -/
def ctlAddr (k off : Nat) : Nat := 0x21000000000 + 0x10000 * k + off

/-- INTERRUPT_CLAIM: engine `c` loads its claim word. -/
def execInterruptClaim (c : Fin 192) (s : State) : Host.Outcome State Fault Refusal :=
  .next (atControl c.val (c.val / 16) (ctlAddr (c.val / 16) (0x1200 + 0x800 * (c.val % 16)))
    (fun s => emit (.engine c.val (some (claim c.val s).1)) (claim c.val s).2) s)

/-- A store to a control block; one whose target is out of service answers with error (R414). -/
def toControl (k : Nat) (f : State → State) (s : State) : State :=
  if targetState s (204 + k) ≠ 0 then answeredError (204 + k) s else f s

/-- The MSIP word of an engine is written. -/
def msipWrite (c v : Nat) (s : State) : State := setEng c { engOf s c with msip := bit v 0 } s

/-- SOFTWARE_INTERRUPT. -/
def execSoftwareInterrupt (c : Fin 192) (v : Nat) (s : State) : Host.Outcome State Fault Refusal :=
  .next (toControl (c.val / 16) (msipWrite c.val v) s)

/-- TIMER_INTERRUPT: mtime reaches the engine's mtimecmp, and mip[7] reads 1. -/
def execTimerInterrupt (c : Fin 192) (s : State) : Host.Outcome State Fault Refusal :=
  .next (advanceToTb (((engOf s c.val).mtimecmp + 7) / 8 * 8) s)

/-! ### Trays (R402) -/

/-- TRAY_PUSH. -/
def execTrayPush (k : Fin 12) (n : Fin 32) (v : Nat) (s : State) : Host.Outcome State Fault Refusal :=
  .next (toControl k.val (trayPush k.val n.val v) s)

/-- TRAY_POP: engine `c` loads the pop word. -/
def execTrayPop (c : Fin 192) (k : Fin 12) (n : Fin 32) (s : State) : Host.Outcome State Fault Refusal :=
  .next (atControl c.val k.val (ctlAddr k.val (0x9008 + 0x80 * n.val))
    (fun s => emit (.engine c.val (some (trayPop k.val n.val s).1)) (trayPop k.val n.val s).2) s)

/-- The control word of a tray is written; bit 17 asks for a flush. A word with LOW not below HIGH is refused: the tray keeps its own (04 R109). -/
def trayControl (k n v : Nat) (s : State) : State :=
  let t := trayOf s k n
  if bits v 6 0 ≤ bits v 14 8 then s else
  let s := setTray k n { t with ctl := bits v 6 0 + bits v 14 8 * 2 ^ 8 + bits v 16 16 * 2 ^ 16 + bits v 23 20 * 2 ^ 20
                                  + bits v 42 32 * 2 ^ 32 } s
  if bit v 17 then trayFlush k n s else s

/-- TRAY_FLUSH: 1 is written to bit 17 of a tray's control word, the rest as it stands. -/
def execTrayFlush (k : Fin 12) (n : Fin 32) (s : State) : Host.Outcome State Fault Refusal :=
  .next (toControl k.val (trayFlush k.val n.val) s)

/-! ### Halting an engine (R410, R419) -/

/-- No store of an engine is on its way and it waits for nothing. -/
def engineDrained (s : State) (c : Nat) : Bool := storesSeen s c && (engOf s c).wait.isNone

/-- A halting engine whose stores have drained reads HALTED. -/
def settleHalt (c : Nat) (s : State) : State :=
  let e := engOf s c
  if e.halting ∧ engineDrained s c = true then (setEng c { e with halting := false } s).put o7000_01 [pC c] 0 else s

/-- An engine is halted at an instruction boundary: its reservation breaks, and an access that has not gone out is abandoned. -/
def haltEngine (c : Nat) (s : State) : State :=
  if engState s c ≠ 1 then s else
  let e := engOf s c
  let wait := match e.wait with
    | some w => if w.out.isSome ∨ w.imp = true then some w else none
    | none => none
  settleHalt c (setEng c { e with resv := none, halting := true, wait := wait } s)

/-- An engine starts. Before the region tables are locked every engine but Rirath's is held HALTED (R403), and so is one whose last self-test
failed (21 R577). -/
def startEngine (c : Nat) (s : State) : State :=
  if engState s c ≠ 0 ∨ (c < 128 ∧ ¬ s.flag o7010_02 []) ∨ testStatus s [pC c] = 4 then s
  else (setEng c { engOf s c with halting := false } (abortTest [pC c] s)).put o7000_01 [pC c] 1

/-- 1 is written to halt a service program. -/
def programHalt (c v : Nat) (s : State) : Status × State :=
  if 1 < v then (.refused, s)
  else (.ok, if v = 1 ∧ engState s c = 1 then haltEngine c (s.put o7050_07 [pC c] 0) else s)

/-- PROGRAM_HALT. -/
def execProgramHalt (role : Role) (c : Fin 128) (v : Nat) (s : State) : Host.Outcome State Fault Refusal :=
  .next (answered (managed role o7050_08 [pC c.val] (programHalt c.val v) s))

/-- Run control of an engine of K8-K11. -/
def runControl (c v : Nat) (s : State) : Status × State :=
  if 1 < v ∨ c < 128 ∨ (v = 1 ∧ testStatus s [pC c] = 4) then (.refused, s)
  else
    let s := s.put o7000_02 [pC c] v
    (.ok, if v = 1 then startEngine c s else haltEngine c s)

/-- ENGINE_RUN_CONTROL. -/
def execEngineRunControl (role : Role) (c : Fin 192) (v : Nat) (s : State) : Host.Outcome State Fault Refusal :=
  .next (answered (managed role o7000_02 [pC c.val] (runControl c.val v) s))

/-! ### The region lock (R403) -/

def regionBase (w : Nat) : Nat := bits w 63 28 * 4096
def regionSize (w : Nat) : Nat := 2 ^ bits w 27 22
def regionType (w : Nat) : Nat := bits w 21 20
def regionValid (w : Nat) : Bool := bit w 19

/-- Some valid entry breaks R403. -/
def regionsFaulty (s : State) : Bool :=
  let l := s.listed o7010_01
  l.any fun e => regionValid e.2
    && (decide (bits e.2 27 22 < 12) || decide (47 < bits e.2 27 22) || regionBase e.2 % regionSize e.2 != 0
      || decide (2 ^ 48 < regionBase e.2 + regionSize e.2)
      || l.any fun f => regionValid f.2 && f.1 != e.1 && elemAt f.1 0 == elemAt e.1 0
          && decide (regionBase e.2 < regionBase f.2 + regionSize f.2) && decide (regionBase f.2 < regionBase e.2 + regionSize e.2))

/-- The lock is written by boot code. -/
def regionLock (v : Nat) (s : State) : Status × State :=
  if v ≠ 1 then (if v = 0 ∧ ¬ s.flag o7010_02 [] then .ok else .refused, s)
  else if regionsFaulty s then (.refused, s) else (.ok, s.put o7010_02 [] 1)

/-- A region entry is written by boot code while the lock is clear; type 3 is reserved. -/
def regionWrite (p : Path) (v : Nat) (s : State) : Status × State :=
  if s.flag o7010_02 [] ∨ bits v 21 20 = 3 then (.refused, s) else (.ok, s.put o7010_01 p (v / 2 ^ 19 % 2 ^ 45 * 2 ^ 19))

/-! ### Domains (R417, Table CMP-10). A domain is a quire 0-7 or 8 + k for cluster k. -/

def domPath (d : Nat) : Path := if d < 8 then [pQ d] else [pK (d - 8)]
def domState (s : State) (d : Nat) : Nat := s.val o7040_02 (domPath d)

/-- The cluster of a domain. -/
def domCluster (d : Nat) : Nat := if d < 8 then d else d - 8

def domEngines (d : Nat) : List Nat := (List.range 16).map (16 * domCluster d + ·)

/-- The network targets of a domain: engines, shared memory and control block of its cluster; of a quire also its configuration space,
doorbells and Imposition path. -/
def domTargets (d : Nat) : List Nat :=
  let k := domCluster d
  domEngines d ++ [192 + k, 204 + k] ++ (if d < 8 then [216 + d, 224 + d, 232 + d] else [])

/-- Nothing of a domain is on its way (step 3). -/
def domDrained (s : State) (d : Nat) : Bool :=
  (Tbl.look [] s.net.merge (domCluster d)).isEmpty && (domEngines d).all fun c => engineDrained s c

/-- A cluster is powered down: its engines are OFF, and it is OFFLINE (18 Table BOT-8). -/
def powerDown (k : Nat) (s : State) : State :=
  let s := (List.range 16).foldl (fun s e =>
    let c := 16 * k + e
    (setEng c { undet := true } s).put o7000_01 [pC c] 3) s
  s.put oD060_02 [pK k] 2

/-- Steps 5 and 6: the targets are OFFLINE, their reservations broken, and the domain is FENCED; a cluster that is being taken offline is then
powered down. -/
def fenceDomain (d : Nat) (s : State) : State :=
  let s := (domEngines d).foldl (fun s c => settleHalt c s) s
  let s := (domTargets d).foldl (fun s t => targetOffline t s) s
  let n : Net := { s.net with drainAt := Tbl.upd none s.net.drainAt d none }
  let s := { s with net := n }.put o7040_02 (domPath d) 2
  if 8 ≤ d ∧ s.val oD060_02 [pK (d - 8)] = 1 then powerDown (d - 8) s else s

/-- A draining domain with nothing left is fenced. -/
def settleDomains (s : State) : State :=
  s.net.drainAt.foldl (fun s e => if e.2.isSome ∧ domDrained s e.1 = true then fenceDomain e.1 s else s) s

/-- The drain of a domain begins: its engines halt, their reservations break, and the youngest line of its cluster closes (R405). -/
def startDrain (d : Nat) (s : State) : State :=
  let s := (domEngines d).foldl (fun s c => haltEngine c s) s
  let k := domCluster d
  let l := (Tbl.look [] s.net.merge k).map fun x => { x with closed := true }
  let n : Net := { s.net with drainAt := Tbl.upd none s.net.drainAt d (some s.clk.now), merge := Tbl.upd [] s.net.merge k l }
  settleDomains ({ s with net := n }.put o7040_02 (domPath d) 1)

/-- A FENCED domain is reopened: its targets are in service, its engines HALTED with their local memory undetermined. -/
def reopenDomain (d : Nat) (s : State) : State :=
  let s := (domTargets d).foldl (fun s t => s.put o7030_01 [pNT t] 0) s
  let s := (domEngines d).foldl (fun s c =>
    (setEng c { undet := true, pend := (engOf s c).pend, enab := (engOf s c).enab } s).put o7000_01 [pC c] 0) s
  s.put o7040_02 (domPath d) 0

/-- 0x7040.01 is written: 1 drains an OPEN domain, 2 reopens a FENCED one. -/
def domainWrite (d v : Nat) (s : State) : Status × State :=
  if v = 1 ∧ domState s d = 0 then (.ok, startDrain d s)
  else if v = 2 ∧ domState s d = 2 then (.ok, reopenDomain d s)
  else (.refused, s)

/-- DOMAIN_DRAIN. -/
def execDomainDrain (role : Role) (d : Fin 20) (s : State) : Host.Outcome State Fault Refusal :=
  .next (answered (managed role o7040_01 (domPath d.val) (domainWrite d.val 1) s))

/-- DOMAIN_REOPEN. -/
def execDomainReopen (role : Role) (d : Fin 20) (s : State) : Host.Outcome State Fault Refusal :=
  .next (answered (managed role o7040_01 (domPath d.val) (domainWrite d.val 2) s))

/-- DRAIN_FORCE_TIMEOUT: 20 µs after the write what is left is discarded, each engine with cause 5, and the domain fences (step 4). -/
def drainForce (d : Nat) (s : State) : State :=
  match Tbl.look none s.net.drainAt d with
  | none => s
  | some t =>
    let s := advanceTo (t + us 20) s
    let k := domCluster d
    let lines := Tbl.look [] s.net.merge k
    let s := lines.foldl (fun s l => l.engs.foldl (fun s c =>
      storeFail c 5 l.target (match l.own with
        | some x => x.addr
        | none => 64 * l.line) s) s) s
    let s := (domEngines d).foldl (fun s c =>
      let s := (engOf s c).sb.foldl (fun s x =>
        storeFail c 5 ((placeOf (globalAddr c x.addr)).map targetOf |>.getD 0) x.addr s) s
      setEng c { engOf s c with sb := [], wait := none } s) s
    let imp := s.net.imp.filter fun e => match e.2 with
      | some w => (match w.who with
        | .line j => j != k
        | .load c => c / 16 != k
        | .host _ _ | .debug => true)
      | none => false
    let n : Net := { s.net with merge := Tbl.upd [] s.net.merge k [], imp := imp }
    fenceDomain d (raiseFault (0x2F0 + k) 0x42
      ((if d < 8 then 0 else 2 ^ 41) + (if d < 8 then d else k) * 2 ^ 37) { s with net := n })

def execDrainForceTimeout (d : Fin 20) (s : State) : Host.Outcome State Fault Refusal := .next (drainForce d.val s)

/-! ### Service programs (R418, R419, Table CMP-11) -/

/-- The staged image's header: its fields. -/
def hdrKeyslot (h : Nat) : Nat := bits h 463 462
def hdrPid (h : Nat) : Nat := bits h 447 416
def hdrPver (h : Nat) : Nat := bits h 415 384
def hdrEntry (h : Nat) : Nat := bits h 383 352
def hdrLsize (h : Nat) : Nat := bits h 351 320
def hdrSoff (h : Nat) : Nat := bits h 319 288
def hdrSsize (h : Nat) : Nat := bits h 287 256
def hdrNeng (h : Nat) : Nat := bits h 255 240

/-- A header field is out of range, or does not fit the load command. -/
def headerFaulty (h mask : Nat) : Bool :=
  bits h 511 480 != 0x53565047 || bits h 479 464 != 1 || hdrLsize h == 0 || decide (98304 < hdrLsize h)
  || decide (98304 ≤ hdrEntry h) || hdrSoff h % 4096 != 0 || decide (524288 < hdrSoff h + hdrSsize h)
  || hdrNeng h == 0 || decide (16 < hdrNeng h)
  || ((List.range 16).filter (bit mask ·)).length != hdrNeng h

/-- The engines of a load command. -/
def cmdEngines (v : Nat) : List Nat := ((List.range 16).filter (bit v ·)).map (16 * bits v 31 28 + ·)

/-- The load status that refuses the staged program, none where it is accepted. [DESIGN CHOICE, log 14] -/
def loadFault (v : Nat) (sigOk : Bool) (s : State) : Option Nat :=
  let h := s.val o7050_04 [] % 2 ^ 512
  if ¬ sigOk then some 3
  else if s.val o7050_01 [pOK (hdrKeyslot h)] = 0 then some 4
  else if hdrPver h < s.val o7050_03 [pOK (hdrKeyslot h)] then some 5
  else if headerFaulty h (v % 2 ^ 16) then some 6
  else if (cmdEngines v).any fun c => engState s c != 0 then some 7 else none

/-- The shared image is written by a Platen ring of the first engine, so Frisket checks it under that engine's keys (R419): 4 KB pieces. [DEDUCED, log 107] -/
def writeShared (c base : Nat) : Nat → Nat → Nat → State → State
  | 0, _, _, s => s
  | fuel + 1, len, data, s =>
    if len = 0 then s else
    let n := min len 4096
    let (v, s) := friskAsk (ckUnit (4 * (c / 16 % 8))) (0x1840 + c) none 1 base n false s
    let s := match v with
      | .allow => spaceWrite base n (data % 256 ^ n) s
      | .refuse r pl => friskRefused (ckUnit (4 * (c / 16 % 8))) (0x2D0 + 4 * (c / 16 % 8)) 3 (0x1840 + c) 1 base n r pl true s
    writeShared c (base + n) fuel (len - n) (data / 256 ^ n) s

/-- The staged program starts on the named engines, which are at network level 0 (R413). -/
def startProgram (v : Nat) (s : State) : State :=
  let img := s.val o7050_04 []
  let h := img % 2 ^ 512
  let loc := img / 2 ^ 512 % 256 ^ hdrLsize h
  let sh := img / 2 ^ 512 / 256 ^ hdrLsize h % 256 ^ hdrSsize h
  let es := cmdEngines v
  let s := es.foldl (fun s c => spaceWrite (0x10000000000 + 0x20000 * c) (hdrLsize h) loc s) s
  let s := writeShared (es.headD 0) (0x20000000000 + 0x100000 * bits v 31 28 + hdrSoff h) 128 (hdrSsize h) sh s
  es.foldl (fun s c => startEngine c ((s.put o7050_07 [pC c] (hdrPid h * 2 ^ 32 + hdrPver h)).put o7000_04 [pC c] 0)) (s.put o7050_06 [] 2)

/-- The load command is written; `sigOk` says whether the staged image's signature verifies under the key of its slot. [DEDUCED, log 107] -/
def programLoad (v : Nat) (sigOk : Bool) (s : State) : Status × State :=
  if 2 ^ 32 ≤ v ∨ 7 < bits v 31 28 then (.refused, s)
  else match loadFault v sigOk s with
    | some st =>
      let c := (cmdEngines v).headD (16 * bits v 31 28)
      (.refused, raiseFault (0x300 + c) 0x43 (c * 2 ^ 34 + st * 2 ^ 30) (s.put o7050_06 [] st))
    | none => (.ok, startProgram v s)

/-- PROGRAM_LOAD. -/
def execProgramLoad (role : Role) (v : Nat) (sigOk : Bool) (s : State) : Host.Outcome State Fault Refusal :=
  .next (answered (managed role o7050_05 [] (programLoad v sigOk) s))

/-- An owner key slot is written while the slots are not locked; the lock is never cleared; the minimum version never falls. -/
def ownerKey (p : Path) (v : Nat) (s : State) : Status × State :=
  if s.flag o7050_02 [] ∨ 256 ^ 97 ≤ v then (.refused, s) else (.ok, s.put o7050_01 p v)

def ownerKeyLock (v : Nat) (s : State) : Status × State :=
  if 1 < v ∨ (v = 0 ∧ s.flag o7050_02 [] = true) then (.refused, s) else (.ok, s.put o7050_02 [] v)

def minVersion (p : Path) (v : Nat) (s : State) : Status × State :=
  if 2 ^ 32 ≤ v ∨ v < s.val o7050_03 p then (.refused, s) else (.ok, s.put o7050_03 p v)

/-- The network level of an engine (R413): 1 is refused for one that runs a service program. -/
def netLevel (c v : Nat) (s : State) : Status × State :=
  if 1 < v ∨ (v = 1 ∧ c < 128 ∧ s.val o7050_07 [pC c] ≠ 0) then (.refused, s) else (.ok, s.put o7000_04 [pC c] v)

/-! ### Resets (18 R519) -/

/-- An engine is reset: halted first, its rings squashed, its local memory undetermined; the region table stays. -/
def engineReset (c : Nat) (s : State) : State :=
  let s := haltEngine c s
  let s := squashOwner (0x1840 + c) s
  let e := engOf s c
  (setEng c { sb := e.sb, undet := true, halting := e.halting } s).put o7000_01 [pC c] (if e.halting then 1 else 0)
  |> (if c < 128 then State.put o7050_07 [pC c] 0 else id)

/-- 1 is written to 0xD002.04. -/
def engineResetWrite (c v : Nat) (s : State) : Status × State :=
  if 1 < v then (.refused, s) else (.ok, if v = 1 then engineReset c s else s)

/-- A cluster is reset: engines HALTED with undetermined local memory, shared memory zero, its control block at reset. -/
def clusterReset (k : Nat) (s : State) : State :=
  let s := (List.range 16).foldl (fun s e =>
    let c := 16 * k + e
    let s := (setEng c { undet := true } (squashOwner (0x1840 + c) s)).put o7000_01 [pC c] 0
    if c < 128 then s.put o7050_07 [pC c] 0 else s) s
  let lo := 0x20000000000 + 0x100000 * k
  let n : Net := { s.net with
    tray := s.net.tray.filter (fun t => t.1 / 32 != k), merge := Tbl.upd [] s.net.merge k []
    holds := s.net.holds.filter fun h => decide (h.1 < granule lo) || decide (granule (lo + 0x80000) ≤ h.1) }
  { s with net := n, mem := s.mem.filter fun m => decide (m.1 < lo) || decide (lo + 0x80000 ≤ m.1) }

/-- 1 is written to 0xD002.03: only while the cluster's domain is FENCED. -/
def clusterResetWrite (k v : Nat) (s : State) : Status × State :=
  if 1 < v ∨ (v = 1 ∧ domState s (8 + k) ≠ 2) then (.refused, s) else (.ok, if v = 1 then clusterReset k s else s)

end Sys2Proof.Machine
end

