-- ==== Sys2Proof/Machine/Reset.lean ====
section
/-!
DEFINITION. Resets of the device and its boot (18 R506-R521): what each reset keeps, the datapath divider, images and slot selection, the
boot sequence up to step 8, and proof mode.
-/
namespace Sys2Proof.Machine

def setPwr (p : Power) (s : State) : State := { s with pwr := p }
def setBoot (b : Boot) (s : State) : State := { s with boot := b }

/-! ### The datapath divider (17 R494) and power good -/

/-- The divider is /3 while a droop, the input warning or the spine's throttle asks for it, and /2 otherwise. -/
def settleDivider (s : State) : State :=
  s.put oB000_04 [] (if s.pwr.droop || s.flag oA004_01 [] || s.flag oB014_01 [pSPINE] then 3 else 2)

/-- Power is good: the condition of R481. -/
def powerGood (s : State) : Bool := s.flag oA002_03 []

/-- A boot is under way. -/
def booting (s : State) : Bool := s.boot.startAt.isSome && s.val oD000_03 [] == 0

/-! ### What a reset keeps (18 Table BOT-7, R518, 00 R8) -/

/-- Volatile objects that show what the management die senses or holds, which no reset of the other dies touches: feeds, power good, the
warnings, clocks and sensors, lifecycle, the flash, the test access port, devices present. A count since the last read and a captured time are no
such thing, and return to their defaults (00 R8). [DEDUCED, log 144] -/
def sensed : List Nat :=
  [0xA00001, 0xA00002, 0xA00003, 0xA00006, 0xA00201, 0xA00202, 0xA00203, 0xA00401, 0xB00002, 0xB00004,
   0xB01001, 0xB01002, 0xB01003, 0xB01004, 0xB01005, 0xB01006, 0xB01007, 0xB01008, 0xB01101, 0xB01401, 0xB01601, 0xB01602,
   0x110002, 0xD05001, 0xD01002, 0xD01003, 0xD01004, 0xD01005, 0xE00001, 0xE00002, 0xE01003, 0xE02002, 0x202003]

/-- Sticky objects that the management die keeps on VSB over a cold reset: the boot-failure count and the stop-press record. -/
def onVsb : List Nat := [0xD03001, 0x904001]

/-- An object keeps its values over a reset. [DEDUCED, log 144] -/
def keeps (warm : Bool) (o : Obj) : Bool :=
  o.pers == .p || o.code ∈ sensed || o.code ∈ onVsb || (warm && (o.pers == .s || o.code == 0xA01009 || o.code == 0xA0100A))

/-- Trace records between the pointers (19 R544). [DEDUCED, log 146] -/
def traceLeft (s : State) : Nat := (s.val oC050_07 [] + 4096 - s.val oC050_06 []) % 4096

/-- Every die but the management die is reset. What is kept: P objects, S objects over a warm reset, what the management die senses and holds,
values not yet durable, durable journal records, and over a warm reset the timebase and the slot channels. A trace record between the pointers
reads all zero. Counters are cleared, and over a warm reset the epoch rises (19 R534), while a cold one returns it to its default (00 R8); each
LFSR takes its seed (19 R541). [DESIGN CHOICE, log 2; DEDUCED, log 144; DEDUCED, log 145] -/
def dieReset (warm : Bool) (s : State) : State :=
  let st : Store := { objs := s.store.objs.filter fun e => dictionary.any fun o => o.code == e.1 && keeps warm o
                      pq := s.store.pq }
  let clk : Clk := if warm then { s.clk with done1 := false, done2 := false }
    else { now := s.clk.now, slotAt := s.clk.now, tickAt := s.clk.now }
  let slots : Slots := if warm then s.slots else { s.slots with chan := [] }
  let pwr : Power := { s.pwr with stepped := false, lockAt := none, syncAt := none }
  let boot : Boot := { s.boot with startAt := none, failed := none, hbAt := none, roll := none, phase := [], phaseAt := [], moveUntil := 0
                                   running := none }
  let home : Home := { conv := s.home.conv, reconv := s.home.reconv }
  let lfsr := (List.range 8).foldl (fun t q => Tbl.upd 1 t q (s.val oC050_04 [pQ q])) []
  let r : State := { store := st, clk := clk, slots := slots, pwr := pwr, boot := boot, home := home, lfsr := lfsr
                     blocks := s.blocks, pool := s.pool, devs := s.devs, vcsPbr := s.vcsPbr, tap := { s.tap with tests := [] }
                     out := s.out, freeCtr := s.freeCtr, pending := s.pending }
  if warm then (r.put oC050_08 [] (traceLeft s)).put oC000_03 [] (min (s.val oC000_03 [] + 1) 0xFFFFFFFF) else r

/-- The wipe of R518 zeroes what the reset did not: its keys and sessions end with the reset, and memory the block holds reads zero after it. [DESIGN CHOICE, log 2] -/
def lifecycleStep (s : State) : State :=
  let l := s.val oD050_01 []
  let n := if l = 2 then 1 else if l = 1 ∧ s.boot.unlock = true then 2 else l
  let s := setBoot { s.boot with unlock := false } s
  let (f, s) := freshValue s
  let s := s.put oD050_02 [] (f % 2 ^ 384)
  if n = l then s else raiseFault 0x706 0x68 (n * 2 ^ 40) (s.put oD050_01 [] n)

/-- Every lane of a port goes to electrical idle with a reset; PERST# is asserted on its slot (R520). -/
def perstAll (s : State) : State :=
  (List.range 128).foldl (fun s p => if (expanderOf s p).isSome then setPerst p false s else s) s

/-- A warm reset, with its cause (0xD000.05). -/
def warmReset (cause : Nat) (s : State) : State :=
  lifecycleStep ((dieReset true (perstAll (abortTests s))).put oD000_05 [] cause)

/-- Every slot channel that is not OFF has its gate driven off (Tables BOT-7 and BOT-10). -/
def gatesOff (s : State) : State :=
  (List.range 32).foldl (fun s ch => if chanState s ch = 0 then s else emit (.gate ch false) s) s

/-- A cold reset: slot channels go OFF. -/
def coldReset (cause : Nat) (s : State) : State :=
  lifecycleStep ((dieReset false (perstAll (gatesOff s))).put oD000_05 [] cause)

/-- With power not good every die other than the management die is held in reset (17 R483), and the slot channels go OFF. -/
def holdDies (s : State) : State := dieReset false (perstAll (gatesOff s))

/-- The converters turn off: every die other than the management die loses its power, and the slot channels go OFF. -/
def losePower (s : State) : State :=
  holdDies (setPwr { s.pwr with conv := none } (s.put oA002_03 [] 0))

/-! ### Images (R507-R509) -/

def imgMagic (h : Nat) : Nat := bits h 511 480
def imgFmt (h : Nat) : Nat := bits h 479 464
def imgKind (h : Nat) : Nat := bits h 463 460
def imgKey (h : Nat) : Nat := bits h 459 458
def imgSvn (h : Nat) : Nat := bits h 447 432
def imgVersion (h : Nat) : Nat := bits h 431 400
def imgSize (h : Nat) : Nat := bits h 399 368

def imgLimit (kind : Nat) : Nat := if kind = 1 then 524128 else if kind = 2 then 16777056 else 458592

/-- Why an image is not valid for a place (Table BOT-13): 1 format, 2 size, 3 signature, 4 SVN, 5 key revoked. A boot configuration is
signed under an owner key, and needs its slot filled. [DESIGN CHOICE, log 14; DEDUCED, log 147] -/
def imageFault (s : State) (kind : Nat) (i : Image) : Option Nat :=
  let h := i.body % 2 ^ 512
  if imgMagic h ≠ 0x52494541 ∨ imgFmt h ≠ 1 ∨ imgKind h ≠ kind then some 1
  else if imgLimit kind < imgSize h then some 2
  else if ¬ i.sig ∨ (kind = 3 ∧ s.val o7050_01 [pOK (imgKey h)] = 0) then some 3
  else if kind < 3 ∧ imgSvn h < s.val oD010_07 [] then some 4
  else if kind < 3 ∧ bit (s.val oD010_09 []) (imgKey h) = true then some 5
  else none

def flashOf (s : State) (k : Nat) : FlashSlot := Tbl.look {} s.boot.flash k

/-- An image that is there and not valid is logged. [DEDUCED, log 129] -/
def noteImage (slot kind : Nat) (i : Option Image) (s : State) : State :=
  match i with
  | none => s
  | some i => match imageFault s kind i with
    | some r => raiseFault (if kind = 1 then 0x700 else 0x701) 0x60 (slot * 2 ^ 41 + kind * 2 ^ 37 + r * 2 ^ 33) s
    | none => s

def imageOk (s : State) (kind : Nat) (i : Option Image) : Bool :=
  match i with
  | some i => (imageFault s kind i).isNone
  | none => false

/-- The loader and the runtime of a slot are valid. -/
def slotOk (s : State) (k : Nat) : Bool := imageOk s 1 (flashOf s k).loader && imageOk s 2 (flashOf s k).runtime

def headerOf (i : Option Image) : Nat :=
  match i with
  | some i => i.body % 2 ^ 512
  | none => 0

/-- The objects that show a slot: its headers, and 0 empty, 1 valid, 2 invalid. -/
def showSlot (s : State) (k : Nat) : State :=
  let f := flashOf s k
  let v := if f.loader.isNone ∧ f.runtime.isNone then 0 else if slotOk s k then 1 else 2
  let h := headerOf f.loader + headerOf f.runtime * 2 ^ 512 + headerOf f.config * 2 ^ 1024
  if k = 0 then (s.put oD010_02 [] h).put oD010_04 [] v else (s.put oD010_03 [] h).put oD010_05 [] v

/-- The boot configuration used: of two copies the valid one with the higher VERSION. -/
def bootConfig (s : State) : Option Image :=
  let l := [(flashOf s 0).config, (flashOf s 1).config].filterMap fun i => if imageOk s 3 i then i else none
  l.foldl (fun b i => match b with
    | none => some i
    | some j => if imgVersion (j.body % 2 ^ 512) < imgVersion (i.body % 2 ^ 512) then some i else b) none

/-! ### Proof mode (R514, R516) -/

/-- Proof mode, with its reason: every port but the recovery port is disabled, and that one trains as an x4 upstream port. -/
def proofMode (reason : Nat) (s : State) : State :=
  let s := ((s.put oD000_03 [] 2).put oD040_01 [] reason).put oD010_06 [] 2
  let s := setBoot { s.boot with startAt := none, proofNext := false, proof := reason, proofFree := false } s
  let s := (List.range 128).foldl (fun s p => s.put o2020_01 [pP p] 0) s
  let p := s.val oD040_02 []
  let s := s.put o2010_02 [pG (p / 4)] (0x50 * 256 ^ (p % 4))
  let s := setPort p { training := true, since := s.clk.now, downSince := some s.clk.now } (s.put o2020_01 [pP p] 1)
  raiseFault 0x700 0x62 (reason * 2 ^ 38) (startTraining s p)

/-! ### The boot sequence (R510, R511) -/

/-- What a measurement is the digest of: here the numbers that stand for it. [DESIGN CHOICE, log 14] -/
def measure (k v : Nat) (s : State) : State :=
  setBoot { s.boot with meas := Tbl.upd 0 s.boot.meas k (Config.sha384 v) } s

/-- A number for a list of objects' values. -/
def listNumber (t : Tbl Nat) : Nat := t.foldl (fun n e => (n * 2 ^ 64 + e.1) * 2 ^ 192 + e.2) 0

/-- A BOOT object is written by boot code. -/
def bootWrite (s : State) (e : Nat × Path × Nat) : State :=
  if e.1 = 0x600001 then (plateWrite (pathNum 26 e.2.1) (pathNum 25 e.2.1) e.2.2 s).2
  else if e.1 = 0x701001 then (regionWrite e.2.1 e.2.2 s).2
  else if e.1 = 0x521004 then (transitWrite e.2.2 s).2
  else match dictionary.find? fun o => o.code == e.1 with
    | some o => if o.acc = .boot ∨ o.code = 0x113001 ∨ o.code = 0x113002 then s.put o e.2.1 (e.2.2 &&& o.mask) else s
    | none => s

/-- Steps 6 and 7: the boot configuration's objects are written, and the plates and the regions locked; without one they are locked empty
(R509). -/
def configure (s : State) : State :=
  let s := match bootConfig s with
    | some i => measure 4 i.body (i.vals.foldl bootWrite s)
    | none => raiseFault 0x701 0x65 0 (measure 4 0 s)
  let s := (regionLock 1 (plateLock 1 1 (plateLock 0 1 s).2).2).2
  measure 5 (listNumber (s.listed o6000_01) * 2 ^ 64 + listNumber (s.listed o7010_01)) s

/-- The shadow of each port's keying mode and key map is loaded from those in effect (05 R140). -/
def loadShadow (s : State) : State :=
  let s := (s.listed o4040_08).foldl (fun s e => s.put o4040_01 [pP (elemAt e.1 0)] e.2) s
  (s.listed o4040_09).foldl (fun s e => s.put o4040_02 [pP (elemAt e.1 0), pKEY (elemAt e.1 1)] e.2) s

/-- Steps 3 to 8 from a slot. The lane-group configurations are applied (step 4), links train (step 5), the runtime starts Rirath's engines, and
the others are HALTED. The times of Table BOT-3 are bounds, and no time passes here. [DESIGN CHOICE, log 143] -/
def bootFrom (k : Nat) (s : State) : State :=
  let f := flashOf s k
  let s := setBoot { s.boot with running := f.runtime, wdAt := s.clk.now } (s.put oD010_06 [] k)
  let s := measure 2 ((f.loader.map (·.body)).getD 0) (measure 3 ((f.runtime.map (·.body)).getD 0) s)
  let s := (List.range 32).foldl (fun s g =>
    let w := s.val o2010_01 [pG g]
    if groupFaulty w then s else groupApply g w s) s
  let s := configure (recoverTable (loadShadow s))
  (List.range 64).foldl (fun s e => (s.put o7000_02 [pC (128 + e)] 1).put o7000_01 [pC (128 + e)] 1) s

/-- FAULT_N follows the status words, and is asserted in stop-press (R456). -/
def settleFaultN (s : State) : State :=
  let thr := s.val o9010_01 []
  s.put o9010_02 [] (b2n (inStopPress s || (s.listed o9000_01).any fun e => bit e.2 63 && decide (thr ≤ bits e.2 62 61)))

/-- FAULT_N and ALERT_N as the kept status words and the kept alarm summary have them (R596). -/
def drivePins (s : State) : State := settleFaultN (s.put o9012_04 [] (b2n (s.val o9012_03 [] != 0)))

/-- The sideband outputs are driven: the device is powered and in no warm or cold reset; else they are high-impedance (18 R526). -/
def outputsDriven (s : State) : Bool := !s.boot.resetN && powerGood s

/-- Every directory slice starts in OUT, for the reason of a device reset, with FALLBACK in every homed range (07 R593). -/
def slicesOut (s : State) : State :=
  setFallback true ((List.range 8).foldl (fun s q => (s.put o5100_01 [pQ q] 2).put o5100_04 [pQ q] 3) s)

/-- The boot starts: the release of RESET_N with power good, or an internal release. Slot selection is Table BOT-4's; a boot in which
neither slot is valid is a failed boot, and enters proof mode at once (R512, R513). Proof mode lasts until R515 ends it. FAULT_N and ALERT_N are driven from step 1 (R596). [DESIGN CHOICE, log 4; DEDUCED, log 147] -/
def bootStart (s : State) : State :=
  let s := slicesOut <| drivePins (setBoot { s.boot with startAt := some s.clk.now, failed := none } (s.put oD000_03 [] 0))
  let s := showSlot (showSlot s 0) 1
  let s := measure 1 (s.val oD050_01 []) (measure 6 (s.val oD010_07 [] * 256 + s.val oD010_09 []) s)
  let c := s.val oD030_01 []
  if s.val oD050_01 [] = 3 then proofMode 4 s
  else if s.boot.proof ≠ 0 then proofMode s.boot.proof s
  else if s.boot.proofNext then proofMode 3 s
  else if 3 ≤ c then proofMode 1 s
  else
    let k := if c = 0 then s.val oD010_01 [] % 2 else (s.boot.lastSlot + 1) % 2
    let o := 1 - k
    let s := noteImage k 2 (flashOf s k).runtime (noteImage k 1 (flashOf s k).loader s)
    if slotOk s k then bootFrom k s
    else
      let s := noteImage o 2 (flashOf s o).runtime (noteImage o 1 (flashOf s o).loader s)
      if slotOk s o then bootFrom o s
      else proofMode 2 (s.bump oD030_01 [] 1)

/-- An internal reset: the management die releases it 1 ms later (Table BOT-11), and the boot starts where power is good and RESET_N is not
asserted. [DEDUCED, log 151] -/
def internalReset (cause : Nat) (s : State) : State :=
  let s := advance (ms 1) (warmReset cause s)
  if s.boot.resetN ∨ ¬ powerGood s then s else bootStart s

end Sys2Proof.Machine
end

