-- ==== Sys2Proof/Machine/Faults.lean ====
section
/-!
DEFINITION. The Proofreader (16): the fault path, capture, the log, alarms, the containment ladder and stop-press.
-/
namespace Sys2Proof.Machine

/-! ### The path of a word (R446, R447) -/

/-- FAULT_RAISE: a source raises a fault of a kind. With log-lost the log entry of its context reads all zero but for that word
(R455); with counter-failed the counter of its context is 0 with INVALID set (19 R535). [DEDUCED, log 132] -/
def execFaultRaise (m : FaultMsg) (s : State) : Host.Outcome State Fault Refusal :=
  .next <|
    let s := if m.kind % 256 = 0xF0 then
        let w : FWord := { source := 0xFFF, kind := 0xF0, ctx := m.ctx % 2 ^ 42 / 2 ^ 30 * 2 ^ 30, time := 0 }
        s.put o9020_01 [pLG (m.ctx % 2 ^ 42 / 2 ^ 30)] (w.word * 2 ^ 64)
      else s
    let s := if m.kind % 256 = 0x71 then
        { s with counts := Tbl.upd 0 s.counts (m.ctx % 2 ^ 42 / 2 ^ 28) (2 ^ 48) } else s
    raiseFault (m.source % 4096) (m.kind % 256) (m.ctx % 2 ^ 42) s

/-- FAULT_ACK_RECEIVE: the source's word is acknowledged; its waiting word goes out with MISSED (R446). -/
def execFaultAckReceive (src : Fin 4096) (s : State) : Host.Outcome State Fault Refusal :=
  .next <|
    match takeFirst (fun k : Nat => k == src.val) s.prf.acks with
    | none => s
    | some (_, r) =>
      let s := { s with prf := { s.prf with acks := r } }
      let f : FSource := Tbl.look {} s.fsrc src.val
      match f.waiting with
      | none =>
        let o : FSource := { f with outstanding := false }
        { s with fsrc := Tbl.upd {} s.fsrc src.val o }
      | some w =>
        let o : FSource := { outstanding := true }
        { s with
          fsrc := Tbl.upd {} s.fsrc src.val o
          fnet := s.fnet ++ [{ w with missed := f.missed }] }

/-! ### Attribution (R459) -/

/-- A port is the upstream port of a VCS, or its port or an LD of it is bound to a vPPB of the VCS. -/
def portOfVcs (s : State) (p n : Nat) : Bool := upOf s n == some p || (vppbsOf s p).any fun b => b.1 == n

/-- An initiator index is of a VCS or of one of its VFs. -/
def initOfVcs (s : State) (i n : Nat) : Bool :=
  i == n || (decide (0x840 ≤ i) && decide (i < 0x1840) && (fnOfInit s i).map (· / 1024) == some n)

/-- A local VCS holds a domain slot. -/
def slotOfVcs (s : State) (d k n : Nat) : Bool :=
  slotState s d k != 0 && slotWord s d k == ownPos s * 256 + n

/-- The domain of the line that a LINE context names. -/
def ctxDomain (s : State) (ctx : Nat) : Option Nat :=
  match Tbl.look none s.blocks (bits ctx 34 19) with
  | some b => (rangeAt s (b.base * 2 ^ 28)).map fun r => rangeDom r.2
  | none => none

/-- A word is attributed to VCS `n`. -/
def attributed (s : State) (w : FWord) (n : Nat) : Bool :=
  let c := w.ctx
  (decide (w.source < 0x80) && portOfVcs s w.source n) || w.source == 0x3C0 + n
  || (if w.kind ∈ [0x30, 0x31, 0x32, 0x33, 0x34, 0x35, 0x36, 0x37, 0x39, 0xF1] then portOfVcs s (bits c 41 35) n
    else if w.kind = 0x38 ∨ w.kind = 0xF2 then bits c 41 36 == n
    else if w.kind = 0x13 then slotOfVcs s (bits c 35 32) (bits c 41 36) n
    else if w.kind = 0x10 then bits c 41 36 == n
    else if w.kind = 0x11 ∨ w.kind = 0x12 then
      bit c 35 && (match ctxDomain s c with
        | some d => slotOfVcs s d (bits c 41 36) n
        | none => false)
    else if w.kind ∈ [0x20, 0x21, 0x26, 0x27, 0x40] then initOfVcs s (bits c 41 29) n
    else false)

/-! ### Alarms (R458) -/

/-- The VCSs to which a word is attributed. -/
def vcssOf (s : State) (w : FWord) : List Nat := (List.range 64).filter fun n => s.flag o4100_02 [pVCS n] && attributed s w n

/-- An alarm of a source is raised, of words attributed to VCSs. The vector at the engine is not stated: a free value. [DESIGN CHOICE, log 130] -/
def raiseAlarm (src : Nat) (vs : List Nat) (s : State) : State :=
  let s := s.put o9012_03 [] (s.val o9012_03 [] ||| 2 ^ src) |>.put o9012_04 [] 1
  let s := emit (.event o9000_01.code (pathKey [pFS src])) s
  let (f, s) := freshValue s
  let s := raiseVec (clusterEngine s 8) (f % 2048) s
  let s := { s with prf := { s.prf with alarmAt := Tbl.upd none s.prf.alarmAt src (some s.clk.now) } }
  vs.foldl (fun s n => signal (n * 1024) 2 s) s

/-- A word that qualifies raises an alarm, or is held, with the VCSs to which it is attributed, for the end of the source's interval. [DEDUCED, log 131] -/
def alarmFor (w : FWord) (s : State) : State :=
  if kindSev w.kind < s.val o9012_01 [] ∨ ¬ s.flag o9000_03 [pFS w.source] then s
  else match Tbl.look none s.prf.alarmAt w.source with
    | some t =>
      if s.clk.now < t + us (s.val o9012_02 []) then
        let vs := (Tbl.look none s.prf.held w.source).getD []
        { s with prf := { s.prf with held := Tbl.upd none s.prf.held w.source (some (vs ++ (vcssOf s w).filter fun n => !vs.contains n)) } }
      else raiseAlarm w.source (vcssOf s w) s
    | none => raiseAlarm w.source (vcssOf s w) s

/-- ALARM_INTERVAL_EXPIRY: the minimum interval of a source ends; one alarm is raised where a word qualified in it. [DEDUCED, log 131] -/
def execAlarmIntervalExpiry (src : Fin 4096) (s : State) : Host.Outcome State Fault Refusal :=
  .next <|
    match Tbl.look none s.prf.alarmAt src.val with
    | none => s
    | some t =>
      let s := advanceTo (t + us (s.val o9012_02 [])) s
      if frozen s then s else
      let h := Tbl.look none s.prf.held src.val
      let p : Proof := { s.prf with alarmAt := Tbl.upd none s.prf.alarmAt src.val none
                                    held := Tbl.upd none s.prf.held src.val none }
      let s := { s with prf := p }
      match h with
      | some vs => raiseAlarm src.val vs s
      | none => s

/-- ALARM_SUMMARY_READ: a read in a MANAGER or OWNER role clears the summary, and ALERT_N is deasserted (R460). -/
def execAlarmSummaryRead (role : Role) (s : State) : Host.Outcome State Fault Refusal :=
  .next <|
    let v := s.val o9012_03 []
    let s := if (role = .manager ∨ role = .owner) ∧ ¬ frozen s then (s.put o9012_03 [] 0).put o9012_04 [] 0 else s
    answer .ok (some v) s

/-! ### Capture and the log (R451-R457) -/

/-- A word is written to the ring, or dropped where 4,096 are unread. [DEDUCED, log 132] -/
def logWord (w : FWord) (s : State) : State :=
  if 4096 ≤ s.val o9020_05 [] then { (s.bump o9020_04 [] 1) with prf := { s.prf with gap := true } }
  else
    let p := s.val o9020_03 []
    let e := w.word * 2 ^ 64 + w.time % 2 ^ 48 * 2 ^ 16 + b2n s.prf.gap * 2 ^ 15 + w.missed % 2 ^ 15
    let s := (s.put o9020_01 [pLG p] e).put o9020_03 [] ((p + 1) % 4096) |>.put o9020_05 [] (s.val o9020_05 [] + 1)
    { s with prf := { s.prf with gap := false } }

/-- A word is captured: count, STICKY and SEVMAX, the log, the alarm. -/
def capture (w : FWord) (s : State) : State :=
  let p := [pFS w.source]
  let old := s.val o9000_01 p
  let sev := if bit old 63 then max (bits old 62 61) (kindSev w.kind) else kindSev w.kind
  let s := (s.bump o9000_02 p (1 + w.missed)).put o9000_01 p (2 ^ 63 + sev * 2 ^ 61)
  alarmFor w (settleFaultN (logWord w s))

/-- A word of the Proofreader's own (R461): logged as it starts an action. -/
def ownWord (kind ctx : Nat) (s : State) : State :=
  capture { source := 0xFFF, kind := kind, ctx := ctx, time := tbNs s } s

/-- LOG_READ_POINTER_WRITE: the reader frees entries (R453). [DEDUCED, log 132] -/
def logRead (v : Nat) (s : State) : Status × State :=
  let r := s.val o9020_02 []
  let unread := s.val o9020_05 []
  let n := if v = r ∧ unread = 4096 then 4096 else (v + 4096 - r) % 4096
  if 4095 < v ∨ unread < n then (.refused, s) else (.ok, (s.put o9020_02 [] v).put o9020_05 [] (unread - n))

def execLogReadPointerWrite (role : Role) (v : Nat) (s : State) : Host.Outcome State Fault Refusal :=
  .next (answered (managed role o9020_02 [] (logRead v) s))

/-- 1 is written to STICKY of a source: STICKY and SEVMAX are cleared. -/
def statusClear (src v : Nat) (s : State) : Status × State :=
  (.ok, if bit v 63 then settleFaultN (s.put o9000_01 [pFS src] 0) else s)

/-- SOURCE_STATUS_CLEAR. -/
def execSourceStatusClear (role : Role) (src : Fin 4096) (v : Nat) (s : State) : Host.Outcome State Fault Refusal :=
  .next (answered (managed role o9000_01 [pFS src.val] (statusClear src.val v) s))

/-! ### Stop-press (R466-R469) -/

/-- Home transactions complete with error or poison (step 4). [DEDUCED, log 135] -/
def failHomes (s : State) : State :=
  let s := s.home.lines.foldl (fun s e => e.2.reqs.foldl (fun s r => refuseHome e.2.q r.x s) s) s
  { s with home := { s.home with lines := [], ops := [] } }

/-- Tracker entries complete with error (step 4). [DEDUCED, log 135] -/
def failTracks (s : State) : State :=
  s.lnk.track.foldl (fun s e => e.2.foldl (fun s t => failRequest e.1 (lostHow s e.1 t.x.dld) t.x s) (setTracks e.1 [] s)) s

/-- The device enters stop-press for a reason: the intakes close, no descriptor starts, the engines of K0-K7 halt, notices go out on
every Folio link and the heartbeat stops; what is owed is answered. [DEDUCED, log 135] -/
def stopPress (reason word : Nat) (s : State) : State :=
  if inStopPress s then s else
  let s := { s with prf := { s.prf with spReason := reason, spWord := word, spAt := s.clk.now, spTb := tbNs s, spDone := false } }
  let s := abortTests (settleFaultN ((s.put o9040_02 [] 1).put oD000_03 [] 3))
  let s := (List.range 128).foldl (fun s c => haltEngine c s) s
  let s := (List.range 128).foldl (fun s p => if roleOf s p = 3 ∧ linkOf s p = 2 then emit (.stopNotice p) s else s) s
  failTracks (failHomes s)

/-- STOP_PRESS_ENTRY: the collector finds an error in itself, reason 1; its word is not logged (R461). Reasons 2 and 3 come with the
word that the collector accepts. -/
def execStopPressEntry (s : State) : Host.Outcome State Fault Refusal :=
  .next (stopPress 1 (FWord.word { source := 0xFFF, kind := 0xF4, ctx := 2 ^ 40, time := 0 }) s)

/-- Every sort in the device: admitted ones, packets in intakes and originated ones that wait, sorts in replay buffers. -/
def sortCount (s : State) : Nat :=
  (allSorts s).length + (s.gal.orig.map fun e => (e.2.map (·.pkt.sorts)).sum).sum
  + (s.gal.intake.map fun e => (e.2.map fun r => r.pkt.sorts).sum).sum
  + (s.lnk.folio.map fun e => (e.2.held.map fun h => (h.slots.filter (·.valid)).length).sum).sum

/-- Every queue, buffer and frame is empty; links go down. -/
def discardAll (s : State) : State :=
  let g : Galley := { s.gal with queues := [], swept := [], intake := [], orig := [] }
  let st : Stage := { s.stg with frames := [], closed := [], expQ := [], expWait := [], unitBad := [], bulkQ := [], toEgress := [], toHome := [], coll := [], toUnit := [] }
  let e : Egress := { s.egr with staging := [], resH := [], resB := [], active := [], visiting := [], rest := [] }
  let l : Link := { s.lnk with folio := s.lnk.folio.map fun f => (f.1, { f.2 with held := [], part := [], occ := [] }), track := [] }
  { s with gal := g, stg := st, egr := e, lnk := l }

/-- A port's link goes to electrical idle; with that of an upstream port its VCS's host is absent. -/
def idleLink (s : State) (p : Nat) : State :=
  if roleOf s p = 0 then s else
  let s := setLanes p 1 ((s.put o2020_02 [pP p] 0).put o3000_03 [pP p] 0)
  if roleOf s p = 3 then s.put o3030_06 [pP p] 0
  else match if roleOf s p = 1 then vcsOfUp s p else none with
    | some n => if s.flag o4100_02 [pVCS n] then s.put o4100_05 [pVCS n] 1 else s
    | none => s

/-- STOP_PRESS_DISCARD: 100 µs after entry. [DEDUCED, log 135] -/
def execStopPressDiscard (s : State) : Host.Outcome State Fault Refusal :=
  .next <|
    if ¬ inStopPress s ∨ s.prf.spDone = true then s else
    let s := advanceTo (s.prf.spAt + us 100) s
    let s := s.put o9040_03 [] (min (sortCount s) 0xFFFFFFFF)
    let s := (List.range 128).foldl idleLink (discardAll s)
    { s with prf := { s.prf with spDone := true } }

/-- A thermal shutdown turns the converters off 1 ms after stop-press began, its record written (17 R502). -/
def shutDown (s : State) : State :=
  if ¬ s.pwr.hot then s else
  let s := losePower (advanceTo (s.prf.spAt + ms 1) s)
  setPwr { s.pwr with hot := false, offAt := some s.clk.now, cause := 6 } s

/-- STOP_PRESS_RECORD_WRITE: the management die writes Table FLT-12. -/
def execStopPressRecordWrite (s : State) : Host.Outcome State Fault Refusal :=
  .next <|
    if ¬ inStopPress s ∨ ¬ s.prf.spDone then s else
    shutDown <| s.put o9040_01 [] (2 ^ 255 + s.prf.spReason * 2 ^ 253 + b2n (s.prf.spReason == 1) * 2 ^ 252 + s.prf.spWord * 2 ^ 160
      + s.prf.spTb % 2 ^ 64 * 2 ^ 96 + s.val o9040_03 [] * 2 ^ 64)

/-- STOP_PRESS_NOTICE_RECEIVE: a member of the forme has entered stop-press (R469). -/
def execStopPressNoticeReceive (k : Fin 16) (s : State) : Host.Outcome State Fault Refusal :=
  .next (if joinedAt s k.val ∧ k.val ≠ ownPos s then memberLost k.val s else s)

/-! ### The ladder (R461-R465) -/

/-- A VCS becomes viral where it may: viral is signalled on its upstream link and on the CXL links bound to it, here and on other members. [DEDUCED, log 134] -/
def makeViral (n : Nat) (s : State) : State :=
  if ¬ s.flag o9030_01 [pVCS n] ∨ s.flag o9030_02 [pVCS n] = true then s else
  let s := s.put o9030_02 [pVCS n] 1
  let s := match upOf s n with
    | some p => emit (.viral p) s
    | none => s
  (bindsOf s n).foldl (fun s b => 
    if recDev b.2 ≠ ownPos s then tell (recDev b.2) (.viral b.2) s
    else if cxlDevice s (recPort b.2) then emit (.viral (recPort b.2)) s else s) s

/-- A Folio link goes down with its traffic held (11 R335). -/
def folioDown (p : Nat) (s : State) : State :=
  if folioState s p = 0 then s else
  let s := setPort p { portLink s p with downSince := some s.clk.now, bound := none } s
  let s := enterState p 1 (abortScans p s)
  setFolio p { folioOf s p with inited := false } s

/-- The port rung: DPC where a bound vPPB has it enabled, else the link goes down. [DEDUCED, log 133] -/
def containPort (p : Nat) (s : State) : State :=
  let s := ownWord 0xF1 (ctxPort p) s
  match roleOf s p with
  | 2 => lostPort p false s
  | 1 => hostLost p s
  | 3 => folioDown p s
  | _ => s

/-- The VCS rung: its upstream link is held in electrical idle for 10 ms; the VCS passes through host-absent. -/
def containVcs (n : Nat) (s : State) : State :=
  let s := ownWord 0xF2 (ctxVcs n) s
  match upOf s n with
  | none => s
  | some p =>
    let s := hostLost p (makeViral n s)
    { s with prf := { s.prf with retrain := Tbl.upd none s.prf.retrain n (some (s.clk.now + ms 10)) } }

/-- VCS_RETRAIN_TIMER: 10 ms later the upstream link retrains. -/
def execVcsRetrainTimer (n : Fin 64) (s : State) : Host.Outcome State Fault Refusal :=
  .next <|
    match Tbl.look none s.prf.retrain n.val with
    | none => s
    | some t =>
      let s := advanceTo t s
      let s := { s with prf := { s.prf with retrain := Tbl.upd none s.prf.retrain n.val none } }
      match upOf s n.val with
      | some p => if linkOf s p = 0 then hostReturn p s else s
      | none => s

/-- The bulk sorts that have left collation at a quire. -/
def outSorts (s : State) (q : Nat) : List DSort :=
  (s.gal.queues.flatMap fun e => if (qrefOfKey e.1).quire = q then (match qrefOfKey e.1 with
    | .egress _ _ | .egressCls _ _ => e.2.ents.map (·.x)
    | _ => []) else [])
  ++ (s.gal.swept.flatMap fun w => if w.queue.quire = q then (match w.queue with
    | .egress _ _ | .egressCls _ _ => w.ents.map (·.x)
    | _ => []) else [])
  ++ (s.egr.staging.flatMap fun e => if e.1 / 64 = q then e.2.flatMap fun x => List.replicate x.pkt.sorts x else [])

/-- The sorts in a quire are lost. The charges of bulk sorts that had left collation come home. [DEDUCED, log 137] -/
def clearQuire (q : Nat) (s : State) : State :=
  let s := ((outSorts s q).filter (4 ≤ ·.cls)).foldl (fun s x => returnCharge q x s) s
  let mine := fun (f : Frame) => (f.sorts.head?.map (·.srcq)) == some q
  let st : Stage := { s.stg with
    frames := s.stg.frames.filter fun f => !mine f.2
    closed := s.stg.closed.filter fun e => e.1 / 8 != q
    expQ := s.stg.expQ.filter fun e => e.1 / 32 != q
    expWait := s.stg.expWait.filter fun e => e.1 / 32 != q
    bulkQ := s.stg.bulkQ.filter fun e => e.1 / 64 != q
    toEgress := Tbl.upd [] s.stg.toEgress q []
    coll := Tbl.upd [] s.stg.coll q []
    toUnit := s.stg.toUnit.filter fun t => t.x.srcq != q }
  let g : Galley := { s.gal with
    queues := s.gal.queues.filter fun e => (qrefOfKey e.1).quire != q
    swept := s.gal.swept.filter fun w => w.queue.quire != q
    intake := s.gal.intake.filter fun e => e.1 / 64 / 16 != q
    orig := Tbl.upd [] s.gal.orig q [] }
  let e : Egress := { s.egr with
    staging := s.egr.staging.filter fun x => x.1 / 4 / 16 != q
    resH := s.egr.resH.filter fun x => x.1 / 32 / 16 != q
    resB := s.egr.resB.filter fun x => x.1 / 32 / 16 != q
    active := s.egr.active.filter fun x => x.1 / 16 != q
    visiting := s.egr.visiting.filter fun x => x.1 / 16 != q }
  { s with stg := st, gal := g, egr := e }

/-- Sorts in other quires' launch queues for `q`: bulk ones move to the substitute's queue, express ones are discarded and counted. [DEDUCED, log 137] -/
def moveLaunch (q : Nat) (s : State) : State :=
  let sub := (q + 4) % 8
  (List.range 8).foldl (fun s i =>
    if i = q then s else
    let s := (List.range 8).foldl (fun s e =>
      let l := Tbl.look [] s.stg.bulkQ (64 * i + 8 * q + e)
      if l.isEmpty then s else
      let b := Tbl.mod [] (Tbl.upd [] s.stg.bulkQ (64 * i + 8 * q + e) []) (64 * i + 8 * sub + e)
        (· ++ l.map fun k => { k with x := { k.x with midq := sub } })
      { s with stg := { s.stg with bulkQ := b } }) s
    (List.range 4).foldl (fun s c =>
      let l := Tbl.look [] s.stg.expQ (creditKey i q c) ++ Tbl.look [] s.stg.expWait (creditKey i q c)
      if l.isEmpty then s
      else { s with stg := { s.stg with
          expQ := Tbl.upd [] s.stg.expQ (creditKey i q c) [], expWait := Tbl.upd [] s.stg.expWait (creditKey i q c) [] } }.bump o9050_03 [pQ i] l.length) s) s

/-- The cluster of a quire is OFF and the quire's targets are OFFLINE. -/
def clusterOff (q : Nat) (s : State) : State :=
  let s := (domEngines q).foldl (fun s c => (setEng c { undet := true } s).put o7000_01 [pC c] 3) s
  let s := (domTargets q).foldl (fun s t => targetOffline t s) s
  let n : Net := { s.net with
    merge := Tbl.upd [] s.net.merge q [], tray := s.net.tray.filter (fun t => t.1 / 32 != q)
    drainAt := Tbl.upd none s.net.drainAt q none }
  { s with net := n }.put o7040_02 [pQ q] 2

/-- A quire is contained (R463, R464); a second one enters the device rung. [DEDUCED, log 136] -/
def containQuire (q word : Nat) (s : State) : State :=
  if s.val o9050_01 [pQ q] = 1 then s
  else if (List.range 8).any fun m => s.val o9050_01 [pQ m] == 1 then
    if inStopPress s then s else stopPress 3 word (ownWord 0xF4 (3 * 2 ^ 40) s)
  else
    let s := ownWord 0xF3 (ctxQuire q) s
    let s := moveLaunch q (clearQuire q ((s.put o9050_01 [pQ q] 1).put oD060_02 [pQ q] 4))
    let s := homeLost q (emptySlice q (setFallback true s))
    let s := (List.range 16).foldl (fun s j =>
      let p := 16 * q + j
      match roleOf s p with
      | 2 => lostPort p false s
      | 1 => match vcsOfUp s p with
        | some n => hostLost p (makeViral n s)
        | none => hostLost p s
      | 3 => folioDown p s
      | _ => s) s
    let s := clusterOff q (clearQuire q s)
    s.plat.ring.foldl (fun s e => if e.1 / 8192 = q ∧ ringValid (ringWord s e.1) = true then ringError e.1 s else s) s

/-- The quire that a rung-Quire word names: the CROSS context, or the source's block. -/
def wordQuire (w : FWord) : Nat := if w.kind = 0x05 then bits w.ctx 41 39 else (w.source - 0x2A0) % 8

/-- The rung of a word and its action (Tables FLT-3, FLT-7, PWR-7). -/
def contain (w : FWord) (s : State) : State :=
  if w.kind = 0x05 ∨ w.kind = 0x0C then containQuire (wordQuire w) w.word s
  else if w.kind ∈ [0x0A, 0x0B, 0x5B, 0x5E] then
    if inStopPress s then s else stopPress 2 w.word (ownWord 0xF4 (2 * 2 ^ 40) s)
  else if w.kind = 0x36 ∨ w.kind = 0x37 then containPort (bits w.ctx 41 35) s
  else if w.kind = 0x38 then containVcs (bits w.ctx 41 36) s
  else if w.kind = 0x39 then
    let p := bits w.ctx 41 35
    (List.range 64).foldl (fun s n =>
      if s.flag o4100_02 [pVCS n] ∧ portOfVcs s p n = true then containVcs n (makeViral n s) else s) s
  else s

/-- FAULT_WORD_ACCEPT: the collector accepts the oldest word on the network, acknowledges it, captures it and takes its action. A
collector frozen by reason 1 drops it; the management die counts (R468). -/
def execFaultWordAccept (s : State) : Host.Outcome State Fault Refusal :=
  .next <|
    match s.fnet with
    | [] => s
    | w :: r =>
      let s := { s with fnet := r }
      if inStopPress s ∧ s.prf.spReason = 1 then s.bump o9040_04 [] 1
      else
        let s := emit (.faultAck w.source) { s with prf := { s.prf with acks := s.prf.acks ++ [w.source] } }
        contain w (capture w s)

end Sys2Proof.Machine
end

