-- ==== Sys2Proof/Machine/Power.lean ====
section
/-!
DEFINITION. Power entry, clocks, the timebase and thermal (17 R473-R503, 20 R556-R565). A voltage or a current that a command names is the one
measured when the event occurs.
-/
namespace Sys2Proof.Machine

/-! ### Feed paths (Tables PWR-1, PWR-2) -/

def feedOf (s : State) (f : Nat) : Feed := Tbl.look {} s.pwr.feed f

def setFeed (f : Nat) (v : Feed) (s : State) : State := setPwr { s.pwr with feed := Tbl.upd {} s.pwr.feed f v } s

/-- The state of a path (0xA000.01): 0 OFF, 1 CHECK, 2 PRECHARGE, 3 ON, 4 BLOCKED, 5 FAULT, 6 DAMAGED. -/
def feedState (s : State) (f : Nat) : Nat := s.val oA000_01 [pFEED f]

def vinOf (s : State) (f : Nat) : Nat := s.val oA000_02 [pFEED f]
def noteVin (f mV : Nat) (s : State) : State := s.put oA000_02 [pFEED f] (min mV 0xFFFFFFFF)
def noteBulk (mV : Nat) (s : State) : State := s.put oA002_01 [] (min mV 0xFFFFFFFF)

/-- A 12-bit voltage field in 0.1 V. -/
def deciVolt (mV : Nat) : Nat := mV / 100 % 4096

/-- The reading of a fault timer: it accumulates while the path limits, and drains at 1/16 otherwise (R476). -/
def timerAt (v : Feed) (t : Nat) : Nat := if v.limiting then v.acc + (t - v.accAt) else v.acc - (t - v.accAt) / 16

/-- A path enters a state: it no longer limits, and its timer drains on. -/
def enterFeed (f st : Nat) (s : State) : State :=
  let v := feedOf s f
  setFeed f { since := s.clk.now, acc := timerAt v s.clk.now, accAt := s.clk.now, overV := v.overV } (s.put oA000_01 [pFEED f] st)

/-- When a timer that drains is idle. -/
def idleAt (v : Feed) : Nat := v.accAt + 16 * v.acc

/-- The reading shown in 0xA000.06, µs. -/
def showTimer (f : Nat) (s : State) : State := s.put oA000_06 [pFEED f] (timerAt (feedOf s f) s.clk.now / 4000)

/-- A path reaches ON: the converters are enabled if they do not run (R478). -/
def feedOn (f : Nat) (s : State) : State :=
  let s := enterFeed f 3 s
  if s.pwr.conv.isSome ∨ s.pwr.offAt.isSome = true then s else setPwr { s.pwr with conv := some s.clk.now } s

/-- FEED_QUALIFIED: the feed has been at 38 V or more for 10 ms; after an overvoltage, at 60 V or less (Table PWR-1). -/
def execFeedQualified (f : Fin 2) (mV : Nat) (s : State) : Host.Outcome State Fault Refusal :=
  .next <|
    let f := f.val
    let s := noteVin f mV s
    if s.pwr.vsb ∧ feedState s f = 0 ∧ s.flag oA000_05 [pFEED f] = true ∧ 38000 ≤ mV
        ∧ mV ≤ (if (feedOf s f).overV then 60000 else 62000) then
      enterFeed f 1 (setFeed f { feedOf s f with overV := false } s)
    else s

/-- FEED_DAMAGE_TEST_END: 1 ms after the test began. `rose` says that the bulk rose above 5 V in it. -/
def execFeedDamageTestEnd (f : Fin 2) (bulk : Nat) (rose : Bool) (s : State) : Host.Outcome State Fault Refusal :=
  .next <|
    let f := f.val
    if feedState s f ≠ 1 then s else
    let s := noteBulk bulk (advanceTo ((feedOf s f).since + ms 1) s)
    if rose ∧ feedState s (1 - f) ≠ 3 then raiseFault (0x600 + f) 0x52 0 (enterFeed f 6 s)
    else if vinOf s f ≤ bulk + 2000 then feedOn f s
    else enterFeed f 2 s

/-- PRECHARGE_COMPLETE: the bulk is within 2 V of the feed. -/
def execPrechargeComplete (f : Fin 2) (bulk : Nat) (s : State) : Host.Outcome State Fault Refusal :=
  .next <|
    if feedState s f.val = 2 ∧ vinOf s f.val ≤ bulk + 2000 then feedOn f.val (noteBulk bulk s) else s

/-- PRECHARGE_TIMEOUT: 100 ms of pre-charge (R477). -/
def execPrechargeTimeout (f : Fin 2) (s : State) : Host.Outcome State Fault Refusal :=
  .next <|
    let f := f.val
    if feedState s f ≠ 2 then s else
    let s := advanceTo ((feedOf s f).since + ms 100) s
    raiseFault (0x600 + f) 0x50 (deciVolt (vinOf s f) * 2 ^ 30) (enterFeed f 5 s)

/-! ### Failing input (R484-R487, Table PWR-4) -/

/-- The active feed: the ON path of higher voltage (R479). [DEDUCED, log 138] -/
def activeFeed (s : State) : Nat :=
  if feedState s 0 = 3 ∧ (feedState s 1 ≠ 3 ∨ vinOf s 1 ≤ vinOf s 0) then 0 else if feedState s 1 = 3 then 1 else 0

/-- Steps 2 to 4: VIN_WARN_N is asserted, the divider goes to /3, and the power-loss message goes out on every downstream and Folio port that
sends it. [DEDUCED, log 129; DEDUCED, log 138] -/
def warnSequence (s : State) : State :=
  let s := settleDivider (s.put oA004_01 [] 1)
  (List.range 128).foldl (fun s p =>
    if (roleOf s p = 2 ∨ roleOf s p = 3) ∧ s.flag oA004_02 [pP p] = true then
      originate (quireOf p) 0x15 p 0 5 0xFFF powerLoss s
    else s) s

/-- VIN_WARN_ASSERT: the active feed is below 42 V, or it falls faster than 6 V/ms. -/
def execVinWarnAssert (rate : Bool) (mV : Nat) (s : State) : Host.Outcome State Fault Refusal :=
  .next <|
    if s.flag oA004_01 [] ∨ ¬ (rate ∨ mV < 42000) then s else
    let f := activeFeed s
    let s := raiseFault (0x600 + f) 0x55 (b2n rate * 2 ^ 41 + deciVolt mV * 2 ^ 29) (noteVin f mV s)
    warnSequence s

/-- VIN_WARN_DEASSERT: the active feed has been at 44 V or more, and not falling fast, for 1 ms; operations resume (R245, R487). -/
def execVinWarnDeassert (mV : Nat) (s : State) : Host.Outcome State Fault Refusal :=
  .next <|
    if ¬ s.flag oA004_01 [] ∨ mV < 44000 then s else
    resumePool (settleDivider ((noteVin (activeFeed s) mV s).put oA004_01 [] 0))

/-- CONVERTER_UNDERVOLTAGE_LOCKOUT: the bulk is below 22 V. -/
def execConverterUndervoltageLockout (mV : Nat) (s : State) : Host.Outcome State Fault Refusal :=
  .next <|
    let s := noteBulk mV s
    if mV < 22000 ∧ s.pwr.conv.isSome = true then losePower s else s

/-! ### Overcurrent, reverse current, overvoltage -/

/-- Power good drops: Table PWR-4 runs from its step 2, with the fault already logged (R482), and the dies are held in reset (R483). [DEDUCED, log 138] -/
def dropPwrgd (s : State) : State := if powerGood s then holdDies (warnSequence (s.put oA002_03 [] 0)) else s

/-- Both FETs of an ON path go off. The load moves to the other path where that is ON with its timer idle (R482). -/
def tripFeed (f fast : Nat) (s : State) : State :=
  let v := feedOf s f
  let s := raiseFault (0x600 + f) 0x51 (fast * 2 ^ 41 + v.peak / 100 % 4096 * 2 ^ 29) (enterFeed f 5 s)
  let s := showTimer f s
  let o := feedOf s (1 - f)
  if feedState s (1 - f) = 3 ∧ timerAt o s.clk.now = 0 then s else dropPwrgd s

/-- FEED_OVERCURRENT: the current of an ON path goes above 20 A, where the path limits it, or comes back from there. -/
def execFeedOvercurrent (f : Fin 2) (mA : Nat) (s : State) : Host.Outcome State Fault Refusal :=
  .next <|
    let f := f.val
    if feedState s f ≠ 3 then s else
    let v := feedOf s f
    let s := s.put oA000_03 [pFEED f] (min mA 20000)
    let v' : Feed := { v with acc := timerAt v s.clk.now, accAt := s.clk.now, limiting := decide (20000 < mA), peak := max v.peak mA }
    showTimer f (setFeed f v' s)

/-- FEED_FAULT_TIMER_EXPIRY: 2 ms accumulated. -/
def execFeedFaultTimerExpiry (f : Fin 2) (s : State) : Host.Outcome State Fault Refusal :=
  .next <|
    let f := f.val
    let v := feedOf s f
    if feedState s f = 3 ∧ v.limiting = true then tripFeed f 0 (advanceTo (v.accAt + (ms 2 - v.acc)) s) else s

/-- FEED_FAST_TRIP: 40 A or more. -/
def execFeedFastTrip (f : Fin 2) (mA : Nat) (s : State) : Host.Outcome State Fault Refusal :=
  .next <|
    let f := f.val
    if feedState s f = 3 ∧ 40000 ≤ mA then tripFeed f 1 (setFeed f { feedOf s f with peak := max (feedOf s f).peak mA } s) else s

/-- FEED_REVERSE. -/
def execFeedReverse (f : Fin 2) (s : State) : Host.Outcome State Fault Refusal :=
  .next <|
    let f := f.val
    if feedState s f ≠ 3 then s else raiseFault (0x600 + f) 0x53 (deciVolt (vinOf s f) * 2 ^ 30) (enterFeed f 4 s)

/-- FEED_REVERSE_CLEAR: the feed exceeds the bulk by 0.1 V. -/
def execFeedReverseClear (f : Fin 2) (mV : Nat) (s : State) : Host.Outcome State Fault Refusal :=
  .next <|
    if feedState s f.val = 4 ∧ s.val oA002_01 [] + 100 ≤ mV then feedOn f.val (noteVin f.val mV s) else s

/-- FEED_REVERSE_PERSIST: reverse current 10 µs after the FET turned off. -/
def execFeedReversePersist (f : Fin 2) (s : State) : Host.Outcome State Fault Refusal :=
  .next <|
    let f := f.val
    if feedState s f ≠ 4 then s else
    raiseFault (0x600 + f) 0x52 (2 ^ 41) (enterFeed f 6 (advanceTo ((feedOf s f).since + us 10) s))

/-- FEED_OVERVOLTAGE: a feed above 62 V turns its path OFF. A DAMAGED path stays so, since it is never enabled again (R478). [DEDUCED, log 138] -/
def execFeedOvervoltage (f : Fin 2) (mV : Nat) (s : State) : Host.Outcome State Fault Refusal :=
  .next <|
    let f := f.val
    if mV ≤ 62000 ∨ s.pwr.vsb = false then s else
    let s := raiseFault (0x600 + f) 0x54 (deciVolt mV * 2 ^ 30) (noteVin f mV s)
    let s := if feedState s f = 6 ∨ feedState s f = 0 then s else enterFeed f 0 s
    setFeed f { feedOf s f with overV := true } s

/-- 0xA000.04: a FAULT path returns to OFF. -/
def feedClear (f v : Nat) (s : State) : Status × State :=
  if 1 < v then (.refused, s) else (.ok, if v = 1 ∧ feedState s f = 5 then enterFeed f 0 s else s)

/-- FEED_FAULT_CLEAR: a write of 0xA000.04, or, where no value is given, the feed below 10 V for 100 ms. -/
def execFeedFaultClear (role : Role) (f : Fin 2) (v : Option Nat) (s : State) : Host.Outcome State Fault Refusal :=
  .next <|
    match v with
    | some v => answered (managed role oA000_04 [pFEED f.val] (feedClear f.val v) s)
    | none => (feedClear f.val 1 s).2

/-! ### Standby supply and power good -/

/-- An instance path from its number. -/
def keyPath : Nat → Nat → Path
  | 0, _ => []
  | n + 1, k => if k = 0 then [] else (k % 16777216 / 65536 - 1, k % 65536) :: keyPath n (k / 16777216)

/-- Values that are not durable revert to their last durable value (15 R428). [DEDUCED, log 158] -/
def revertValues (s : State) : State :=
  let s' := s.store.pq.reverse.foldl (fun s e =>
    match dictionary.find? fun o => o.code == e.code with
    | some o => s.put o (keyPath 4 e.key) e.was
    | none => s) s
  { s' with store := { s'.store with pq := [] } }

/-- VSB_LOSS: both paths turn off, DAMAGED ones too; the values not durable revert; what VSB holds is lost: the boot-failure count, the
stop-press record, proof mode, soft repairs and the test access port (21 R569, R576). [DEDUCED, log 158] -/
def execVsbLoss (s : State) : Host.Outcome State Fault Refusal :=
  .next <|
    if ¬ s.pwr.vsb then s else
    let s := losePower (revertValues s)
    let s := ((s.put oD030_01 [] 0).put o9040_01 [] 0).put o1110_02 [pI3C 0] 0 |>.put o1110_02 [pI3C 1] 0
    let s := (s.put oA000_01 [pFEED 0] 0).put oA000_01 [pFEED 1] 0 |>.put oA004_01 [] 0
    let s := ((s.listed oE010_03).foldl (fun s e => s.put oE010_03 (keyPath 4 e.1) (objDefault oE010_03 (keyPath 4 e.1))) s).put oE000_01 [] 1
    let s := { (s.put oE020_02 [] 0).put o1100_02 [pMGMT 0] 0 |>.put o1100_02 [pMGMT 1] 0 with tap := {} }
    setPwr { vsb := false } (setBoot { s.boot with proof := 0, proofFree := false, proofNext := false, lastSlot := 0 } (s.put oB000_04 [] 2))

/-- VSB_PRESENT: VSB enters its range: the straps are sampled (20 R556), and the management die starts. -/
def execVsbPresent (straps : Fin 4) (s : State) : Host.Outcome State Fault Refusal :=
  .next (if s.pwr.vsb then s else setPwr { vsb := true, straps := straps.val } s)

/-- The root PLL locks to the reference of its mode, or to the other where that is lost and the mode fails over (R493). -/
def lockRef (s : State) : State :=
  let m := s.val oB000_01 []
  let r := if m < 2 ∧ bit s.pwr.refLost (m % 2) = true ∧ bit s.pwr.refLost (1 - m % 2) = false then 1 - m % 2 else m % 2
  setPwr { s.pwr with ref := r, holdAt := s.clk.now } (s.put oB000_02 [] (b2n (bit s.pwr.refLost r)))

/-- PWRGD_QUALIFY: every rail has been in its window for 1 ms, with the fault timer of every ON path idle throughout (R481). Power good ends
a cold reset, and the boot starts where RESET_N is released (20 R563). -/
def execPwrgdQualify (s : State) : Host.Outcome State Fault Refusal :=
  .next <|
    match s.pwr.conv with
    | none => s
    | some t =>
      let on := (List.range 2).filter fun f => feedState s f == 3
      if powerGood s ∨ on = [] ∨ on.any (fun f => (feedOf s f).limiting) = true then s else
      let t := on.foldl (fun t f => max t (idleAt (feedOf s f))) t
      let s := lockRef (coldReset s.pwr.cause (advanceTo (t + ms 1) s))
      let s := setPwr { s.pwr with cause := 0 } (s.put oA002_03 [] 1)
      if s.boot.resetN then s else bootStart s

/-- MGMT_CLK_LOSS: MGMT0, MGMT1 and both I3C ports stop (20 R562). -/
def execMgmtClkLoss (s : State) : Host.Outcome State Fault Refusal :=
  .next <|
    setPwr { s.pwr with mgmtLost := true } ((s.put o1100_02 [pMGMT 0] 0).put o1100_02 [pMGMT 1] 0)

/-! ### Root clock (R493) -/

/-- A link of the port goes down as its clock or its partner is lost. -/
def linkLost (p : Nat) (s : State) : State :=
  match roleOf s p with
  | 1 => hostLost p s
  | 2 => lostPort p false s
  | 3 => folioDown p s
  | _ => s

/-- REFCLK_LOSS: a reference shows no edge for 1 µs: the links of its half go down; where it is the one in use the PLL holds over, and fails over
in modes 0 and 1. -/
def execRefclkLoss (r : Fin 2) (s : State) : Host.Outcome State Fault Refusal :=
  .next <|
    let r := r.val
    if bit s.pwr.refLost r then s else
    let s := setPwr { s.pwr with refLost := s.pwr.refLost + 2 ^ r } s
    let s := (List.range 64).foldl (fun s j => linkLost (64 * r + j) s) s
    if s.pwr.ref ≠ r then (if s.val oB000_02 [] = 2 then s.put oB000_02 [] 1 else s) else
    let s := setPwr { s.pwr with holdAt := s.clk.now } s
    if s.val oB000_01 [] < 2 ∧ bit s.pwr.refLost (1 - r) = false then
      raiseFault 0x640 0x5D (r * 2 ^ 41) (s.put oB000_02 [] 2)
    else s.put oB000_02 [] 1

/-- REFCLK_RELOCK: the PLL relocks to a reference that its mode allows; one that was lost has edges again. -/
def execRefclkRelock (r : Fin 2) (s : State) : Host.Outcome State Fault Refusal :=
  .next <|
    let m := s.val oB000_01 []
    let s := setPwr { s.pwr with refLost := setBits s.pwr.refLost r.val r.val 0 } s
    if s.val oB000_02 [] = 0 ∨ (2 ≤ m ∧ m ≠ 2 + r.val) then s else
    setPwr { s.pwr with ref := r.val } (s.put oB000_02 [] 0)

/-- The reference mode is written: where it selects the other reference the PLL relocks to that one, or holds over while it is lost. [DEDUCED, log 193] -/
def refModeWrite (v : Nat) (s : State) : Status × State :=
  let r := plainWrite oB000_01 [] v s
  let s' := r.2
  if r.1 ≠ .ok ∨ s'.pwr.ref = v % 2 ∨ (v < 2 ∧ bit s'.pwr.refLost (v % 2) = true) then r
  else (.ok, setPwr { s'.pwr with holdAt := s'.clk.now } (s'.put oB000_02 [] (if bit s'.pwr.refLost (v % 2) then 1 else 2)))

/-- REFCLK_HOLDOVER_EXPIRY: 10 ms of holdover with no good reference: clock-lost. -/
def execRefclkHoldoverExpiry (s : State) : Host.Outcome State Fault Refusal :=
  .next <|
    if s.val oB000_02 [] ≠ 1 then s else raiseFault 0x640 0x5E 0 (advanceTo (s.pwr.holdAt + ms 10) s)

/-! ### Supply droop (R496) -/

/-- DROOP_DETECT: a sensor (Q0-Q7, spine, management die) reads its rail more than 4 % low. [DEDUCED, log 139] -/
def execDroopDetect (die : Fin 10) (mV : Nat) (s : State) : Host.Outcome State Fault Refusal :=
  .next <|
    let s := (setPwr { s.pwr with droop := true } s).bump oB002_01 [] 1
    let log := match s.pwr.droopAt with
      | some t => decide (t + ms 1 ≤ s.clk.now)
      | none => true
    let s := if log then raiseFault (0x648 + die.val) 0x59 (mV % 1024 * 2 ^ 32) (setPwr { s.pwr with droopAt := some s.clk.now } s) else s
    settleDivider s

/-- DROOP_CLEAR: every sensor has read within 2 % for 1 µs. -/
def execDroopClear (s : State) : Host.Outcome State Fault Refusal :=
  .next (settleDivider (setPwr { s.pwr with droop := false } s))

/-! ### Timebase (R497-R499) -/

/-- Signed 32-bit values as the objects hold them, and back. -/
def i32Of (z : Int) : Nat := (z % 2 ^ 32).toNat
def ofI32 (n : Nat) : Int := if n < 2 ^ 31 then n else (n : Int) - 2 ^ 32

/-- The timebase moves by a step: timers at timebase instants take their next instant from the new value. -/
def stepTimebase (d : Int) (s : State) : State :=
  let tb := ((s.clk.tb : Int) + d * 4294967296).toNat
  let i := s.clk.inst.map fun e => (e.1, min e.2 (tb / 4294967296))
  { s with clk := { s.clk with tb := tb, inst := i.filter fun e => e.2 != 0 } }

/-- PTP_SYNC_RECEIVE: a Sync with the offset from the master, ns (R498). A slave within 1 µs for 10 s is locked, and the timebase steps once to the
master's time at the first lock after a reset; the servo's increment within 500 ppm is a free value. [DESIGN CHOICE, log 140] -/
def execPtpSyncReceive (off : Int) (s : State) : Host.Outcome State Fault Refusal :=
  .next <|
    if s.val oB020_03 [] ≠ 1 ∨ s.pwr.mgmtLost = true then s else
    let small := decide (-1000 ≤ off) && decide (off ≤ 1000)
    let since := if small then (match s.pwr.lockAt with
      | some t => some t
      | none => some s.clk.now) else none
    let locked := match since with
      | some t => decide (t + sec 10 ≤ s.clk.now)
      | none => false
    let s := setPwr { s.pwr with syncAt := some s.clk.now, lockAt := since } (s.put oB020_06 [] (i32Of off))
    let s := s.put oB020_07 [] (b2n locked)
    let (f, s) := freshValue s
    let nominal := 8 * 4294967296
    let s : State := { s with clk := { s.clk with inc := nominal - nominal / 2000 + f % (nominal / 1000 + 1) } }
    if locked ∧ s.pwr.stepped = false then setPwr { s.pwr with stepped := true } (stepTimebase (-off) s) else s

/-- PTP_SYNC_LOSS: no Sync for 3 s: the servo holds its increment. [DESIGN CHOICE, log 140] -/
def execPtpSyncLoss (s : State) : Host.Outcome State Fault Refusal :=
  .next <|
    if s.val oB020_03 [] ≠ 1 ∨ s.val oB020_07 [] = 2 then s else
    let s := advanceTo ((s.pwr.syncAt.getD s.clk.now) + sec 3) s
    raiseFault 0x670 0x5F 0 (setPwr { s.pwr with lockAt := none } (s.put oB020_07 [] 2))

/-- The modes of TSYNC_IN and of the 1588 clock, and the period and width of TSYNC_OUT, bound each other (R499, Table PWR-8); a clock that is no slave is not locked. [DEDUCED, log 142] -/
def clockWrite (o : Obj) (v : Nat) (s : State) : Status × State :=
  let get := fun (x : Obj) => if x.code = o.code then v else s.val x []
  if (get oB022_02 = 2 ∧ get oB020_03 ≠ 0) ∨ (get oB022_03 ≠ 0 ∧ get oB022_03 * 500 < get oB022_04) then (.refused, s)
  else
    let r := plainWrite o [] v s
    if o.code = 0xB02003 ∧ r.1 = .ok ∧ v ≠ 1 then (.ok, setPwr { r.2.pwr with lockAt := none } (r.2.put oB020_07 [] 0)) else r

/-- TSYNC_IN_EDGE: a rising edge on TSYNC_IN. -/
def execTsyncInEdge (s : State) : Host.Outcome State Fault Refusal :=
  .next <|
    let m := s.val oB022_02 []
    if m = 0 then s else
    let n := tbNs s
    let s := s.put oB022_01 [] (n % 2 ^ 64)
    if m = 2 ∧ s.val oB020_03 [] = 0 then
      stepTimebase (((n + 500000000) / 1000000000 * 1000000000 : Nat) - (n : Int)) s
    else s

/-- TSYNC_OUT_PULSE: the next multiple of the period; the output is off in a reset (20 R553). -/
def execTsyncOutPulse (s : State) : Host.Outcome State Fault Refusal :=
  .next <|
    let p := s.val oB022_03 []
    if p = 0 ∨ outputsDriven s = false then s else
    let s := toInstant 34 (1000 * p) s
    emit (.pulse 1 (Tbl.look 0 s.clk.inst 34) (s.val oB022_04 [])) s

/-! ### Thermal (R500-R502) -/

/-- The sensor objects of a die. -/
def sensorObj : Nat → Obj
  | 0 => oB010_01 | 1 => oB010_02 | 2 => oB010_03 | 3 => oB010_04 | 4 => oB010_05 | 5 => oB010_06 | 6 => oB010_07 | _ => oB010_08

def diePath (d : Nat) : Path := if d < 8 then [pQ d] else [pSPINE]

/-- The sensors of a die: 0-7 the quires, 8 the spine, 9 the management die. -/
def sensorsOf (s : State) (d : Nat) : List Int :=
  if d = 9 then [ofI32 (s.val oB011_01 [])] else (List.range 8).map fun k => ofI32 (s.val (sensorObj k) (diePath d))

def hottest (s : State) (d : Nat) : Int :=
  match sensorsOf s d with
  | [] => 0
  | t :: r => r.foldl max t

/-- A temperature field in 0.1 °C. -/
def deciDeg (t : Int) : Nat := (t / 100 % 4096).toNat

/-- The throttle of a die: entered at 100 °C, ended below 97 °C (R501). Between the two the formula of k gives less than 1: k stays 1. [DEDUCED, log 141] -/
def throttle (s : State) (d : Nat) : State :=
  let t := hottest s d
  let old := s.val oB014_01 (diePath d)
  let k : Nat := if d = 8 then 1 else min 4 (1 + ((t - 100000) / 1000)).toNat
  let new : Nat := if 100000 ≤ t then k else if old ≠ 0 ∧ 97000 ≤ t then 1 else 0
  let s := if old = 0 ∧ new ≠ 0 then raiseFault (0x658 + d) 0x5A (deciDeg t * 2 ^ 30) s else s
  s.put oB014_01 (diePath d) new

/-- A sensor reads 115 °C or more: thermal-shutdown, which enters stop-press (R502). -/
def tooHot (s : State) (d : Nat) : State :=
  let t := hottest s d
  if t < 115000 ∨ s.pwr.hot = true then s else
  raiseFault (0x658 + d) 0x5B (deciDeg t * 2 ^ 30 + d * 2 ^ 26) (setPwr { s.pwr with hot := true, therm := true } s)

/-- The readings of a sensor read are written: sensor k of die d is the entry 8·d + k, the management die's the entry 72. -/
def noteTemps : Nat → List Int → State → State
  | _, [], s => s
  | n, t :: r, s => noteTemps (n + 1) r (if n = 72 then s.put oB011_01 [] (i32Of t)
      else if n < 72 then s.put (sensorObj (n % 8)) (diePath (n / 8)) (i32Of t) else s)

/-- THERMAL_SENSOR_READ: every 100 µs. -/
def execThermalSensorRead (temps : List Int) (s : State) : Host.Outcome State Fault Refusal :=
  .next <|
    let s := noteTemps 0 temps (toInstant 32 100000 s)
    let lim := ofI32 (s.val oB014_02 [])
    let all := (List.range 10).flatMap (sensorsOf s)
    let th := if all.any (fun t => decide (lim ≤ t)) then true
      else if all.all (fun t => decide (t ≤ lim - 5000)) then false else s.pwr.therm
    let s := setPwr { s.pwr with therm := th } s
    (List.range 10).foldl tooHot (settleDivider ((List.range 9).foldl throttle s))

/-! ### Quire-to-spine limits (R503) -/

/-- The differences of a quire from the spine: temperature, m°C, and core rail, mV. -/
def regionGap (s : State) (q : Nat) : Nat × Nat :=
  let v := s.val oB016_02 [pQ q]
  let w := s.val oB016_02 [pSPINE]
  ((hottest s q - hottest s 8).natAbs, max v w - min v w)

/-- One comparison of a quire. -/
def regionCheck (s : State) (q : Nat) : State :=
  let (t, v) := regionGap s q
  let near := decide (t ≤ 25000) && decide (v ≤ 50)
  let since := if near then (match Tbl.look none s.pwr.near q with
    | some a => some a
    | none => some s.clk.now) else none
  let s := setPwr { s.pwr with near := Tbl.upd none s.pwr.near q since } s
  if 30000 < t ∨ 60 < v then
    if s.flag oB016_01 [pQ q] then s
    else raiseFault (0x668 + q) 0x5C (t / 100 % 4096 * 2 ^ 30 + v % 1024 * 2 ^ 20) (s.put oB016_01 [pQ q] 1)
  else match since with
    | some a => if a + us 100 ≤ s.clk.now then s.put oB016_01 [pQ q] 0 else s
    | none => s

/-- The core rails, Q0-Q7 and then the spine. -/
def noteRails : Nat → List Nat → State → State
  | _, [], s => s
  | n, v :: r, s => noteRails (n + 1) r (if n < 9 then s.put oB016_02 (diePath n) (v % 65536) else s)

/-- REGION_MONITOR: every 10 µs. -/
def execRegionMonitor (rails : List Nat) (s : State) : Host.Outcome State Fault Refusal :=
  .next ((List.range 8).foldl regionCheck (noteRails 0 rails (toInstant 33 10000 s)))

end Sys2Proof.Machine
end

