-- ==== Sys2Proof/Machine/Boot.lean ====
section
/-!
DEFINITION. Boot, resets by command, lifecycle, live repair, image install and roll, watchdog and heartbeat (18 R510-R528).
-/
namespace Sys2Proof.Machine

/-! ### RESET_N and the boot's end (R510-R513, R519, R520) -/

/-- The TAP enters Test-Logic-Reset, with IDCODE in effect (21 R569); the release of RESET_N does it too (21 R572). -/
def tapIdle (s : State) : State := (s.put oE000_01 [] (setBits (s.val oE000_01 []) 7 0 1)).put oE020_02 [] 0

/-- RESET_ASSERT: RESET_N has been low for 1 µs. With power good a warm reset begins; it is not a failed boot. -/
def execResetAssert (s : State) : Host.Outcome State Fault Refusal :=
  .next <|
    if s.boot.resetN then s else
    let s := advance (us 1) (setBoot { s.boot with resetN := true, proof := if s.boot.proofFree then 0 else s.boot.proof, proofFree := false } s)
    if powerGood s then warmReset 1 s else s

/-- After a thermal shutdown the converters may run again: 60 s have passed, and the management die is below 90 °C (17 R502). -/
def coolEnough (s : State) : Bool :=
  match s.pwr.offAt with
  | some t => decide (t + sec 60 ≤ s.clk.now) && decide (ofI32 (s.val oB011_01 []) < 90000)
  | none => false

/-- The converters are enabled again, from a path that is ON. -/
def restartPower (s : State) : State :=
  let on := feedState s 0 == 3 || feedState s 1 == 3
  setPwr { s.pwr with offAt := none, conv := if on then some s.clk.now else none } s

/-- RESET_RELEASE: with power good the boot starts. -/
def execResetRelease (s : State) : Host.Outcome State Fault Refusal :=
  .next <|
    if ¬ s.boot.resetN then s else
    let s := setBoot { s.boot with resetN := false } s
    let s := tapIdle s
    if coolEnough s then restartPower s
    else if powerGood s then bootStart s else s

/-- The fabric manager restores a binding: where its slot is powered PERST# is deasserted and the link trains; one that was pending waits again. [DEDUCED, log 145; DEDUCED, log 162] -/
def restoreBind (s : State) (e : Nat × Nat) : State :=
  let n := elemAt e.1 0
  let v := elemAt e.1 1
  let p := recPort e.2
  let s := if recState e.2 = 1 ∨ recState e.2 = 3 then
      let w := if recState e.2 = 1 then ms 100 else ms (s.val o4110_03 [pVCS n, pV v])
      setBind n v (recState e.2) (some (s.clk.now + w)) s
    else s
  let s := if recState e.2 = 0 ∨ s.val o4110_05 [pVCS n, pV v] ≠ 0xFFF then s
    else match (s.listed o4180_01).find? fun r => recDev e.2 == ownPos s && r.2 == localRoute p (recLd e.2) with
      | some r => s.put o4110_05 [pVCS n, pV v] (elemAt r.1 0)
      | none => takeId n (some v) (recDev e.2, p, recLd e.2) s
  if bindLive e.2 ∧ recDev e.2 = ownPos s ∧ slotReady s p = true then
    linkEnable p (if (expanderOf s p).isSome then setPerst p true s else s)
  else s

/-- A member slot at step 9: MEMBER again, and ABSENT unless it is ISOLATED; where its VCS is active already, its sweep begins (06 R591). -/
def restoreSlot (s : State) (d n : Nat) : State :=
  let s := s.put o5010_02 (slotPath d n) 1
  if homeView s d n = 3 then s else
  let s := s.put o5030_06 (slotPath d n) 1
  if wordActive s (slotWord s d n) then slotOnVcs true d n s else s

/-- Each slice returns through REBUILDING (07 R593). -/
def returnSlices (s : State) : State :=
  (List.range 8).foldl (fun s q => if sliceState s q = 2 then settleHome q (sliceReturn1 q s) else s) s

/-- The fabric manager restores the fabric (step 9): domains, ranges, windows and bindings from their persistent values; key sets and routes,
which are volatile, as the command gives them. [DESIGN CHOICE, log 143] -/
def restoreFabric (keys : List (Fin 8192 × Nat)) (routes : List (Fin 4095 × Nat)) (s : State) : State :=
  let s := (s.listed o5010_01).foldl (fun s e => restoreSlot s (elemAt e.1 0) (elemAt e.1 1)) s
  let s := (s.listed o5020_01).foldl (fun s e =>
    let rg := elemAt e.1 0
    if (Tbl.look none s.home.conv rg).isSome ∨ rangeMode e.2 = 0 then s else settleRange rg e.2 s) s
  let s := restartConversions s
  let s := { s with dir := { s.dir with since := [] } }
  let s := (s.listed o4410_01).foldl (fun s e => if winOkind e.2 = 0 then s else s.put o4410_02 [pIW (elemAt e.1 0)] 1) s
  let s := routes.foldl (fun s r => s.put o4180_01 [pPBR r.1.val] (r.2 % 2 ^ 32)) s
  let s := keys.foldl (fun s k =>
    (s.put o6010_01 [pIN k.1.val] (k.2 &&& o6010_01.mask)).put o6010_02 [pIN k.1.val] (k.2 &&& o6010_01.mask)) s
  (s.listed o4110_01).foldl restoreBind s

/-- CONFIGURATION_READY: step 9. [DESIGN CHOICE, log 143] -/
def execConfigurationReady (keys : List (Fin 8192 × Nat)) (routes : List (Fin 4095 × Nat)) (s : State) :
    Host.Outcome State Fault Refusal :=
  .next <|
    match s.boot.startAt with
    | none => s
    | some t =>
      if ¬ booting s ∨ s.boot.running.isNone = true then s else
      let s := recoverActions (quarantineAbsent (returnSlices (restoreFabric keys routes s)))
      let s := { s with host := { s.host with crs := [] } }
      let s := ((s.put oD030_01 [] 0).put oD000_03 [] 1).put oD000_04 [] (min ((s.clk.now - t) / 4000) 0xFFFFFFFF)
      let s := setBoot { s.boot with startAt := none, wdAt := s.clk.now } s
      let k := s.val oD010_06 []
      if s.val oD010_01 [] % 2 = k then s else raiseFault 0x701 0x63 (k * 2 ^ 41) (s.put oD010_01 [] k)

/-- A boot fails: every link goes idle, the count rises, and the fault is logged. [DEDUCED, log 129] -/
def failBoot (cause : Nat) (s : State) : State :=
  let s := ((List.range 128).foldl idleLink s).bump oD030_01 [] 1
  let b : Boot := { s.boot with startAt := none, failed := some (s.clk.now, cause), lastSlot := s.val oD010_06 [] % 2 }
  raiseFault 0x705 0x61 (s.val oD030_01 [] % 16 * 2 ^ 38 + cause * 2 ^ 34) (setBoot b s)

/-- BOOT_DEADLINE: step 9 is not reached within 1 s. -/
def execBootDeadline (s : State) : Host.Outcome State Fault Refusal :=
  .next <|
    match s.boot.startAt with
    | some t => if booting s then failBoot 4 (advanceTo (t + sec 1) s) else s
    | none => s

/-- FAILED_BOOT_RESET: 1 ms after a failed boot. -/
def execFailedBootReset (s : State) : Host.Outcome State Fault Refusal :=
  .next <|
    match s.boot.failed with
    | some (t, c) => internalReset c (advanceTo (t + ms 1) s)
    | none => s

/-! ### Watchdog and heartbeat (R527, R528) -/

/-- WATCHDOG_EXPIRY: before step 9 the boot fails; later the heartbeat stops at once, and a warm reset follows 10 ms later. [DEDUCED, log 153] -/
def execWatchdogExpiry (s : State) : Host.Outcome State Fault Refusal :=
  .next <|
    if s.boot.running.isNone ∨ ¬ (booting s ∨ s.val oD000_03 [] = 1) then s else
    let s := raiseFault 0x707 0x66 0 (advanceTo (s.boot.wdAt + ms (s.val oD070_03 [])) s)
    if booting s then failBoot 5 s else internalReset 5 (advance (ms 10) s)

/-- 0xD070.04: only Rirath, which runs on K8-K11, may write it. [DEDUCED, log 153] -/
def watchdogWrite (role : Role) (v : Nat) (s : State) : Status × State :=
  match role with
  | .engine e => if e.val < 128 then (.auth, s) else if 1 < v then (.refused, s)
    else (.ok, if v = 1 then setBoot { s.boot with wdAt := s.clk.now } s else s)
  | _ => (.auth, s)

/-- WATCHDOG_REFRESH. -/
def execWatchdogRefresh (role : Role) (v : Nat) (s : State) : Host.Outcome State Fault Refusal :=
  .next (answered (managed role oD070_04 [] (watchdogWrite role v) s))

/-- HEARTBEAT_OUT: in SERVICE, at the next multiple of the period, HB_OUT is high for 1 µs. -/
def execHeartbeatOut (s : State) : Host.Outcome State Fault Refusal :=
  .next <|
    if s.val oD000_03 [] ≠ 1 then s else
    let s := toInstant 35 (1000 * s.val oD070_01 []) s
    emit (.pulse 0 (Tbl.look 0 s.clk.inst 35) 1000) s

/-- HB_IN_EDGE. -/
def execHbInEdge (s : State) : Host.Outcome State Fault Refusal :=
  .next (setBoot { s.boot with hbAt := some s.clk.now } (s.put oD070_02 [] 1))

/-- HB_IN_LOSS: no edge within three periods. -/
def execHbInLoss (s : State) : Host.Outcome State Fault Refusal :=
  .next <|
    match s.boot.hbAt with
    | none => s
    | some t =>
      let s := advanceTo (t + us (3 * s.val oD070_01 [])) s
      raiseFault 0x708 0x6A 0 (setBoot { s.boot with hbAt := none } (s.put oD070_02 [] 2))

/-! ### Resets and lifecycle by command (R515-R519, R531) -/

/-- 0xD000.01: a warm reset; in proof mode it clears the boot-failure count first, and leaves proof mode (R515). -/
def warmCommand (v : Nat) (s : State) : Status × State :=
  if 1 < v then (.refused, s) else if v = 0 then (.ok, s) else
  (.ok, internalReset 2 (if s.val oD000_03 [] = 2 then setBoot { s.boot with proof := 0 } (s.put oD030_01 [] 0) else s))

/-- WARM_RESET_COMMAND. -/
def execWarmResetCommand (role : Role) (v : Nat) (s : State) : Host.Outcome State Fault Refusal :=
  .next (answered (managed role oD000_01 [] (warmCommand v) s))

/-- 0xD000.02: the converters are off for 200 ms, and restart; power good ends the cold reset. -/
def coldCommand (v : Nat) (s : State) : Status × State :=
  if 1 < v then (.refused, s) else if v = 0 then (.ok, s) else
  (.ok, restartPower (advance (ms 200) (setPwr { s.pwr with cause := 3, conv := none } ((losePower s).put oD000_05 [] 3))))

/-- COLD_RESET_COMMAND. -/
def execColdResetCommand (role : Role) (v : Nat) (s : State) : Host.Outcome State Fault Refusal :=
  .next (answered (managed role oD000_02 [] (coldCommand v) s))

/-- The boot-failure count is cleared; in proof mode an assertion of RESET_N then leaves it (R515). -/
def bootCountClear (v : Nat) (s : State) : Status × State :=
  if 1 < v then (.refused, s)
  else (.ok, if v = 1 then setBoot { s.boot with proofFree := s.val oD000_03 [] == 2 } (s.put oD030_01 [] 0) else s)

/-- BOOT_COUNT_CLEAR. -/
def execBootCountClear (role : Role) (v : Nat) (s : State) : Host.Outcome State Fault Refusal :=
  .next (answered (managed role oD030_02 [] (bootCountClear v) s))

def proofRequest (v : Nat) (s : State) : Status × State :=
  if 1 < v then (.refused, s) else (.ok, if v = 1 then setBoot { s.boot with proofNext := true } s else s)

/-- PROOF_MODE_REQUEST. -/
def execProofModeRequest (role : Role) (v : Nat) (s : State) : Host.Outcome State Fault Refusal :=
  .next (answered (managed role oD040_03 [] (proofRequest v) s))

/-- Why a debug token is refused: 3 the state, 1 the signature, 2 a key that 0xD050.05 does not allow. [DEDUCED, log 149] -/
def tokenFault (sigOk owner : Bool) (s : State) : Option Nat :=
  let a := s.val oD050_05 []
  if s.val oD050_01 [] ≠ 1 then some 3
  else if ¬ sigOk then some 1
  else if (owner ∧ a ≠ 1 ∧ a ≠ 2) ∨ (¬ owner ∧ a ≠ 0 ∧ a ≠ 2) then some 2
  else none

/-- A token is verified against the challenge in force, which is then replaced (R517). `sigOk`: the signature verifies; `owner`: under an owner
key. [DESIGN CHOICE, log 14] -/
def debugToken (sigOk owner : Bool) (s : State) : Status × State :=
  let why := tokenFault sigOk owner s
  let (f, s) := freshValue s
  let s := s.put oD050_02 [] (f % 2 ^ 384)
  match why with
  | some r => (.refused, raiseFault 0x706 0x67 (r * 2 ^ 38) s)
  | none => (.ok, setBoot { s.boot with unlock := true } s)

/-- DEBUG_TOKEN. -/
def execDebugToken (role : Role) (sigOk owner : Bool) (s : State) : Host.Outcome State Fault Refusal :=
  .next (answered (managed role oD050_03 [] (debugToken sigOk owner) s))

/-- 0xD050.04: the RETIRED state is fused. -/
def retire (v : Nat) (s : State) : Status × State :=
  let l := s.val oD050_01 []
  if v ≠ 0x52455449 ∨ (l ≠ 1 ∧ l ≠ 2) then (.refused, s)
  else (.ok, raiseFault 0x706 0x68 (3 * 2 ^ 40) (s.put oD050_01 [] 3))

/-- RETIRE. -/
def execRetire (role : Role) (v : Nat) (s : State) : Host.Outcome State Fault Refusal :=
  .next (answered (managed role oD050_04 [] (retire v) s))

/-- 0xD010.08: the minimum SVN becomes that of the running runtime. -/
def svnFuse (v : Nat) (s : State) : Status × State :=
  match s.boot.running with
  | some i => if 1 < v then (.refused, s) else (.ok, if v = 1 then s.put oD010_07 [] (imgSvn (i.body % 2 ^ 512)) else s)
  | none => (.refused, s)

/-- SVN_FUSE. -/
def execSvnFuse (role : Role) (v : Nat) (s : State) : Host.Outcome State Fault Refusal :=
  .next (answered (managed role oD010_08 [] (svnFuse v) s))

/-! ### Port, cluster and engine resets (R519) -/

/-- 0xD002.02: 0 retrains a port, 1 sends a hot reset below it, 2 pulses its PERST# for 100 ms. Only a downstream port has something below it to
reset. [DEDUCED, log 150] -/
def portReset (p v : Nat) (s : State) : Status × State :=
  let r := roleOf s p
  if 2 < v ∨ r = 0 ∨ (1 ≤ v ∧ r ≠ 2) then (.refused, s)
  else if targetBusy s (ownPos s * 2 ^ 24 + p * 2 ^ 17) then (.busy, s)
  else match v with
    | 0 => (.ok, if r = 3 then retrain p s else if linkOf s p = 2 then countPort p 22 {} 1 s
        else if r = 2 then linkEnable p s else startTraining s p)
    | 1 => (.ok, linkEnable p (linkDisable p (emit (.reset 0 p 0) s)))
    | _ => (.ok, linkEnable p (setPerst p true (advance (ms 100) (linkDisable p (setPerst p false s)))))

/-- PORT_LINK_RETRAIN. -/
def execPortLinkRetrain (role : Role) (p : Fin 128) (s : State) : Host.Outcome State Fault Refusal :=
  .next (answered (managed role oD002_02 [pP p.val] (portReset p.val 0) s))

/-- PORT_HOT_RESET. -/
def execPortHotReset (role : Role) (p : Fin 128) (s : State) : Host.Outcome State Fault Refusal :=
  .next (answered (managed role oD002_02 [pP p.val] (portReset p.val 1) s))

/-- PORT_PERST_PULSE. -/
def execPortPerstPulse (role : Role) (p : Fin 128) (s : State) : Host.Outcome State Fault Refusal :=
  .next (answered (managed role oD002_02 [pP p.val] (portReset p.val 2) s))

/-- CLUSTER_RESET. -/
def execClusterReset (role : Role) (k : Fin 12) (v : Nat) (s : State) : Host.Outcome State Fault Refusal :=
  .next (answered (managed role oD002_03 [pK k.val] (clusterResetWrite k.val v) s))

/-- ENGINE_RESET. -/
def execEngineReset (role : Role) (c : Fin 192) (v : Nat) (s : State) : Host.Outcome State Fault Refusal :=
  .next (answered (managed role oD002_04 [pC c.val] (engineResetWrite c.val v) s))

/-! ### Live repair (R522-R524) -/

def unitPath : RepairUnit → Path
  | .group g => [pG g.val]
  | .quire q => [pQ q.val]
  | .cluster k => [pK k.val]

/-- 0 IN_SERVICE, 1 DRAINING, 2 OFFLINE, 3 RETURNING, 4 CONTAINED. [DEDUCED, log 149] -/
def unitState (s : State) (u : RepairUnit) : Nat := s.val oD060_02 (unitPath u)

/-- The conditions of Table BOT-8. -/
def mayOffline (s : State) : RepairUnit → Bool
  | .group g => ((List.range 4).map (4 * g.val + ·)).all (quiesced s)
  | .cluster k => decide (k.val < 8) || ([8, 9, 10, 11].all fun j => s.val oD060_02 [pK j] == 0)
  | .quire q =>
    ((List.range 8).all fun j => s.val oD060_02 [pQ j] == 0 && s.val o9050_01 [pQ j] == 0)
    && ((List.range 16).all fun j => quiesced s (16 * q.val + j))
    && ((List.range 16).all fun e => s.val o7050_07 [pC (16 * q.val + e)] == 0)

/-- The rings of a cluster's engines are squashed, and its service programs end. -/
def clusterStop (k : Nat) (s : State) : State :=
  (List.range 16).foldl (fun s e =>
    let c := 16 * k + e
    squashOwner (0x1840 + c) (if c < 128 then s.put o7050_07 [pC c] 0 else s)) s

/-- A domain is drained and fenced, by the force timer at the latest. [DESIGN CHOICE, log 152] -/
def fenceNow (d : Nat) (s : State) : State :=
  if domState s d = 2 then s else
  let s := if domState s d = 0 then startDrain d s else s
  if domState s d = 2 then s else drainForce d s

/-- 1 is written to 0xD060.01. A quire begins Table BOT-9: its slice leaves service and the substitution of bulk begins. [DESIGN CHOICE, log 152] -/
def unitOffline (u : RepairUnit) (s : State) : Status × State :=
  if unitState s u ≠ 0 ∨ mayOffline s u = false then (.refused, s) else
  match u with
  | .group g =>
    let s := ((List.range 4).map (4 * g.val + ·)).foldl (fun s p => setLanes p 0 (idleLink s p)) s
    (.ok, s.put oD060_02 [pG g.val] 2)
  | .cluster k =>
    let s := if k.val < 8 then s else setBoot { s.boot with moveUntil := s.clk.now + ms 10 } s
    let s := (clusterStop k.val s).put oD060_02 [pK k.val] 1
    (.ok, if domState s (8 + k.val) = 2 then powerDown k.val s
      else if domState s (8 + k.val) = 0 then startDrain (8 + k.val) s else s)
  | .quire q =>
    let b : Boot := { s.boot with phase := Tbl.upd 0 s.boot.phase q.val 1, phaseAt := Tbl.upd 0 s.boot.phaseAt q.val s.clk.now }
    let s := setBoot b (s.put oD060_02 [pQ q.val] 1)
    (.ok, if sliceState s q.val = 0 then settleHome q.val (takeOut q.val 1 s) else s)

/-- UNIT_OFFLINE. -/
def execUnitOffline (role : Role) (u : RepairUnit) (s : State) : Host.Outcome State Fault Refusal :=
  .next (answered (managed role oD060_01 (unitPath u) (unitOffline u) s))

def setPhase (q n : Nat) (s : State) : State :=
  setBoot { s.boot with phase := Tbl.upd 0 s.boot.phase q n, phaseAt := Tbl.upd 0 s.boot.phaseAt q s.clk.now } s

/-- Held express sorts, and those that wait for a credit, leave the launch queues for quire `m` toward another quire, each with its class credit.
`sel` picks them. -/
def moveExpress (m dst : Nat) (sel : DSort → Bool) (s : State) : State :=
  (List.range 8).foldl (fun s i => (List.range 4).foldl (fun s c =>
    let k := creditKey i m c
    let l := Tbl.look [] s.stg.expQ k
    let out := l.filter sel
    let w := Tbl.look [] s.stg.expWait k
    let s := { s with stg := { s.stg with
      expQ := Tbl.upd [] s.stg.expQ k (l.filter fun x => !sel x), expWait := Tbl.upd [] s.stg.expWait k (w.filter fun x => !sel x) } }
    let s := out.foldl (fun s x => launchExpress { x with midq := dst } (returnCredit i m c s)) s
    (w.filter sel).foldl (fun s x => launchExpress { x with midq := dst } s) s) s) s

/-- Step 4: every request tracker, write buffer, internal tracker and stage queue of the quire is empty. -/
def owesNothing (s : State) (q : Nat) : Bool :=
  homeIdle s q && s.gal.queues.all fun e => match qrefOfKey e.1 with
    | .stage m _ _ => m.val != q || e.2.ents.isEmpty
    | .home m _ => m.val != q || e.2.ents.isEmpty
    | _ => true

/-- QUIRE_DRAIN_COMPLETE: steps 4 to 6: 1 µs later express sorts pass the substitute, and the cluster and the quire's domain are fenced. -/
def execQuireDrainComplete (q : Fin 8) (s : State) : Host.Outcome State Fault Refusal :=
  .next <|
    let q := q.val
    if repairPhase s q ≠ 1 ∨ owesNothing s q = false then s else
    let s := setPhase q 2 (advance (us 1) s)
    let s := moveExpress q ((q + 4) % 8) (fun _ => true) s
    let s := if sliceState s q = 2 then s else emptySlice q s
    let s := fenceNow q (fenceNow (8 + q) (setFallback true s))
    setPhase q 2 s

/-- QUIRE_DRAIN_LIMIT: step 4 is not reached: the command is abandoned. -/
def execQuireDrainLimit (q : Fin 8) (s : State) : Host.Outcome State Fault Refusal :=
  .next <|
    let q := q.val
    if repairPhase s q ≠ 1 then s else
    let s := advanceTo (Tbl.look 0 s.boot.phaseAt q + ms (s.val oD060_03 [])) s
    let s := (setPhase q 0 s).put oD060_02 [pQ q] 0
    let s := if sliceState s q = 1 then emptySlice q s else s
    let s := if sliceState s q = 2 then settleHome q (sliceReturn1 q s) else s
    raiseFault 0x709 0x69 (2 ^ 40 + q * 2 ^ 35) s

/-- QUIRE_POWER_DOWN: 1 ms after fencing. -/
def execQuirePowerDown (q : Fin 8) (s : State) : Host.Outcome State Fault Refusal :=
  .next <|
    let q := q.val
    if repairPhase s q ≠ 2 ∨ s.val oD060_02 [pQ q] ≠ 1 ∨ domState s q ≠ 2 then s else
    let s := advanceTo (Tbl.look 0 s.boot.phaseAt q + ms 1) s
    clusterOff q (homeLost q (clearQuire q (s.put oD060_02 [pQ q] 2)))

/-- The counters of a quire are cleared, and the epoch rises (19 R534). -/
def clearCounts (q : Nat) (s : State) : State :=
  let c := s.counts.filter fun e => e.1 / 1536 != q || decide (12288 ≤ e.1)
  { s with counts := c }.bump oC000_03 [] 1

/-- The substitute of a returning quire owes nothing on the lines homed there (R524 step 3). -/
def substituteFree (s : State) (q : Nat) : Bool :=
  let m := (q + 4) % 8
  let mine := fun a : Nat => homeQuire a == q
  !(s.home.lines.any fun e => mine (e.1 * 64))
  && !((opsOf s m).any fun o => o.waits.any fun w => mine w.addr)
  && !((wbufOf s m).any fun w => mine (w.line * 64))
  && !((Tbl.look [] s.stg.toHome m).any fun t => mine t.x.pkt.addr)
  && s.gal.queues.all fun e => match qrefOfKey e.1 with
    | .stage j _ c => j.val != m || decide (4 ≤ c.val) || !(e.2.ents.any fun g => mine g.x.pkt.addr)
    | .home j _ => j.val != m || !(e.2.ents.any fun g => mine g.x.pkt.addr)
    | _ => true

/-- Steps 3 and 4 end: express sorts pass the quire again, and its slice returns. [DESIGN CHOICE, log 152] -/
def finishReturn (q : Nat) (s : State) : State :=
  let m := (q + 4) % 8
  let s := (setPhase q 0 s).put oD060_02 [pQ q] 0
  let s := moveExpress m q (fun x => homeQuire x.pkt.addr == q && opens x) s
  let s := if sliceState s q = 2 then s else emptySlice q s
  settleHome q (sliceReturn1 q s)

/-- Quires that return go on once their substitutes owe nothing. [DESIGN CHOICE, log 152] -/
def settleRepair (s : State) : State :=
  (List.range 8).foldl (fun s q => if repairPhase s q = 3 ∧ substituteFree s q = true then finishReturn q s else s) s

/-- Sorts of a class that quire `i` has at quire `m`: each holds a class credit. -/
def sortsAt (s : State) (i m c : Nat) : Nat :=
  (s.gal.queues.map fun e => match qrefOfKey e.1 with
    | .stage j _ k => if j.val = m ∧ k.val = c then (e.2.ents.filter fun g => g.x.srcq == i).length else 0
    | .home j k => if j.val = m ∧ k.val = c then (e.2.ents.filter fun g => g.x.srcq == i).length else 0
    | _ => 0).sum + ((Tbl.look [] s.stg.toHome m).filter fun t => t.x.srcq == i && t.x.cls == c).length

/-- The express credits between a quire that returns and the others are whole again, but for the sorts that wait (16 R463); what was lost
with it is no loss for the audit to restore. [DESIGN CHOICE, log 194] -/
def freshCredits (q : Nat) (s : State) : State :=
  (List.range 8).foldl (fun s j => [(q, j), (j, q)].foldl (fun s e => (List.range 4).foldl (fun s c =>
    let k := creditKey e.1 e.2 c
    let n := (Tbl.look 0 s.gal.launched k + 65536 - Tbl.look 0 s.gal.received k) % 65536
    setCredit e.1 e.2 c (classCredits c - sortsAt s e.1 e.2 c)
      { s with gal := { s.gal with restored := Tbl.upd 0 s.gal.restored k n } }) s) s) s

/-- The self-test of a returning quire has passed: its domain and cluster are open again, its crossings are centred, its counters are cleared,
and steps 3 and 4 begin (R524). -/
def quireTested (q : Nat) (s : State) : State :=
  let s := reopenDomain q (if domState s (8 + q) = 2 then reopenDomain (8 + q) s else s)
  let st : Stage := { s.stg with cross := s.stg.cross.filter fun e => e.1 / 20 != q }
  let s := clearCounts q (freshCredits q { s with stg := st } |>.put o9050_01 [pQ q] 0)
  settleRepair (setPhase q 3 s)

/-- A cluster is powered up and reopened, its engines HALTED; a spine cluster's engines run again. -/
def clusterBack (k : Nat) (s : State) : State :=
  let s := clusterReset k (reopenDomain (8 + k) s)
  let s := if k < 8 then s else (List.range 16).foldl (fun s e =>
    (s.put o7000_02 [pC (16 * k + e)] 1).put o7000_01 [pC (16 * k + e)] 1) s
  s.put oD060_02 [pK k] 0

/-- 2 is written to 0xD060.01. A quire is powered up and tests its memories; a unit whose last self-test failed is refused (21 R577). -/
def unitReturn (u : RepairUnit) (s : State) : Status × State :=
  let st := unitState s u
  if testStatus s (unitPath u) = 4 then (.refused, s) else
  match u with
  | .group g =>
    if st ≠ 2 then (.refused, s)
    else (.ok, ((List.range 4).map (4 * g.val + ·)).foldl (fun s p => startTraining s p) (s.put oD060_02 [pG g.val] 0))
  | .cluster k => if st ≠ 2 then (.refused, s) else (.ok, clusterBack k.val (abortTest [pK k.val] s))
  | .quire q =>
    if st ≠ 2 ∧ st ≠ 4 then (.refused, s)
    else
      let s := (abortTest [pQ q.val] s).put oD060_02 [pQ q.val] 3
      let t : Tap := { s.tap with tests := Tbl.upd none s.tap.tests (pathKey [pQ q.val]) (some s.clk.now) }
      (.ok, { s with tap := t }.put oE010_02 [pQ q.val] (2 ^ 61))

/-- UNIT_RETURN. -/
def execUnitReturn (role : Role) (u : RepairUnit) (s : State) : Host.Outcome State Fault Refusal :=
  .next (answered (managed role oD060_01 (unitPath u) (unitReturn u) s))

/-! ### Image install and roll (R525) -/

/-- The slot that an install writes: the one that does not run; in recovery neither runs, and it is the preferred one. [DEDUCED, log 148] -/
def idleSlot (s : State) : Nat := if s.val oD010_06 [] = 2 then s.val oD010_01 [] % 2 else 1 - s.val oD010_06 []

/-- A valid image is written: a loader or a runtime to the slot, a boot configuration to both devices. [DEDUCED, log 148] -/
def storeImage (k : Nat) (i : Image) (s : State) : State :=
  let put := fun (j : Nat) (f : FlashSlot → FlashSlot) (s : State) =>
    setBoot { s.boot with flash := Tbl.mod {} s.boot.flash j f } s
  let s := match imgKind (i.body % 2 ^ 512) with
    | 1 => put k (fun f => { f with loader := some i }) s
    | 2 => put k (fun f => { f with runtime := some i }) s
    | _ => put 0 (fun f => { f with config := some i }) (put 1 (fun f => { f with config := some i }) s)
  showSlot (showSlot s 0) 1

/-- 1 is written to 0xD020.02. `err` names the sector of a flash error. -/
def imageInstall (role : Role) (sig : Bool) (vals : List (Nat × Path × Nat)) (err : Option Nat) (s : State) : Status × State :=
  let i : Image := { body := s.val oD020_01 [], sig := sig, vals := vals }
  let kind := imgKind (i.body % 2 ^ 512)
  if s.val oD020_03 [] = 1 then (.busy, s)
  else if kind = 3 ∧ role ≠ .owner then (.auth, s)
  else
    let k := idleSlot s
    match imageFault s (if kind = 1 ∨ kind = 2 ∨ kind = 3 then kind else 0) i, err with
    | some r, _ => (.ok, raiseFault 0x702 0x60 (k * 2 ^ 41 + kind * 2 ^ 37 + r * 2 ^ 33) (s.put oD020_03 [] 3))
    | none, some n => (.ok, raiseFault (0x703 + k) 0x64 (k * 2 ^ 41 + n % 2 ^ 24 * 2 ^ 17) (s.put oD020_03 [] 4))
    | none, none => (.ok, (storeImage k i s).put oD020_03 [] 2)

/-- IMAGE_INSTALL. -/
def execImageInstall (role : Role) (sig : Bool) (vals : List (Nat × Path × Nat)) (err : Option Nat) (s : State) :
    Host.Outcome State Fault Refusal :=
  .next (answered (managed role oD020_02 [] (imageInstall role sig vals err) s))

/-- A cluster of the roll is taken offline, as Table BOT-8 has it, to restart from the new slot. -/
def rollCluster (k slot : Nat) (s : State) : State :=
  let s := fenceNow (8 + k) (clusterStop k s)
  setBoot { s.boot with roll := some (k, s.clk.now, slot), moveUntil := s.clk.now + ms 10 } (s.put oD060_02 [pK k] 3)

/-- 2 is written to 0xD020.02: K8 to K11 restart one at a time from the slot that does not run. -/
def imageRoll (s : State) : Status × State :=
  let k := idleSlot s
  if s.val oD020_03 [] = 1 then (.busy, s)
  else if s.val oD010_06 [] = 2 ∨ slotOk s k = false ∨ mayOffline s (.cluster 8) = false then (.refused, s)
  else (.ok, rollCluster 8 k (s.put oD020_03 [] 1))

/-- IMAGE_ROLL. -/
def execImageRoll (role : Role) (s : State) : Host.Outcome State Fault Refusal :=
  .next (answered (managed role oD020_02 [] imageRoll s))

/-- ROLL_CLUSTER_REJOINED: the next cluster restarts; after K11 the new slot is preferred. -/
def execRollClusterRejoined (s : State) : Host.Outcome State Fault Refusal :=
  .next <|
    match s.boot.roll with
    | none => s
    | some (k, _, slot) =>
      let s := clusterBack k s
      if k < 11 then rollCluster (k + 1) slot s
      else
        let s := ((s.put oD010_01 [] slot).put oD010_06 [] slot).put oD020_03 [] 2
        setBoot { s.boot with roll := none, running := (flashOf s slot).runtime } s

/-- ROLL_REJOIN_TIMEOUT: a cluster that does not rejoin within 1 s restarts from the old slot, and the roll stops. -/
def execRollRejoinTimeout (s : State) : Host.Outcome State Fault Refusal :=
  .next <|
    match s.boot.roll with
    | none => s
    | some (k, t, _) =>
      let s := clusterBack k (advanceTo (t + sec 1) s)
      raiseFault 0x702 0x6B (k * 2 ^ 38) (setBoot { s.boot with roll := none } (s.put oD020_03 [] 5))

end Sys2Proof.Machine
end

