-- ==== Sys2Proof/Machine/Counters.lean ====
section
/-!
DEFINITION. Filter banks, global snapshots and the trace ring (19 R536-R545).
-/
namespace Sys2Proof.Machine

/-! ### Filter banks (R536, R537) -/

/-- The first whole microsecond of the timebase at least 2 µs from now. -/
def nextWhole (s : State) : Nat := (tbNs s + 2000 + 999) / 1000 * 1000

/-- A bank's shadow is written; AEND below ASTART is refused. -/
def bankWrite (b v : Nat) (s : State) : Status × State :=
  if bits v 199 144 < bits v 255 200 then (.refused, s) else plainWrite oC020_01 [pFB b] v s

/-- 1 is written to 0xC020.03: BUSY while a commit is pending. -/
def bankCommit (v : Nat) (s : State) : Status × State :=
  if 1 < v then (.refused, s) else if v = 0 then (.ok, s)
  else if s.cnt.commitAt.isSome then (.busy, s)
  else (.ok, { s with cnt := { s.cnt with commitAt := some (nextWhole s) } }.put oC020_04 [] 1)

/-- BANK_COMMIT. -/
def execBankCommit (role : Role) (v : Nat) (s : State) : Host.Outcome State Fault Refusal :=
  .next (answered (managed role oC020_03 [] (bankCommit v) s))

/-- The banks and the ties take their shadows. -/
def applyBanks (s : State) : State :=
  let s := (List.range 63).foldl (fun s b => s.put oC020_02 [pFB (b + 1)] (s.val oC020_01 [pFB (b + 1)])) s
  let ks := (s.listed oC010_01).map (·.1) ++ (s.listed oC010_02).map (·.1)
  let s := ks.foldl (fun s k => s.put oC010_02 [pCT (elemAt k 0)] (s.val oC010_01 [pCT (elemAt k 0)])) s
  { s with cnt := { s.cnt with commitAt := none } }.put oC020_04 [] 0

/-! ### Snapshots (R538-R540) -/

/-- The next periodic instant: the first multiple of the period not taken. -/
def nextPeriodic (s : State) : Option Nat :=
  let n := 1000 * s.val oC030_02 []
  if n = 0 then none else
  let t := (Tbl.look 0 s.clk.inst 36 / n + 1) * n
  some (if t ≤ tbNs s then tbNs s / n * n else t)

def earlier (a : Option Nat) (b : Option Nat) : Option Nat :=
  match a, b with
  | some x, some y => some (min x y)
  | some x, none => some x
  | none, y => y

/-- The next instant that a trigger falls on. -/
def nextSnapshot (s : State) : Option Nat :=
  s.cnt.snaps.foldl (fun a t => earlier a (some t)) (earlier (nextPeriodic s) s.cnt.commitAt)

/-- The snapshot at instant `t`: every counter is copied, with a reason for each trigger that falls on it; a commit's banks apply then. [DEDUCED, log 154] -/
def snapshotAt (t : Nat) (s : State) : State :=
  let s := advanceToTb t s
  let per := nextPeriodic s == some t
  let obj := s.cnt.snaps.contains t
  let com := s.cnt.commitAt == some t
  let s := ((s.put oC030_03 [] ((s.val oC030_03 [] + 1) % 32768)).put oC030_04 [] (t % 2 ^ 64)).put oC030_05 []
    (b2n per + b2n obj * 2 + b2n com * 4)
  let s := { s with
    cnt := { s.cnt with shadow := s.counts, snaps := s.cnt.snaps.filter (· != t) }
    clk := { s.clk with inst := if per then Tbl.upd 0 s.clk.inst 36 t else s.clk.inst } }
  if com then applyBanks s else s

/-- SNAPSHOT_TAKE: the next instant a trigger falls on. -/
def execSnapshotTake (s : State) : Host.Outcome State Fault Refusal :=
  .next <| match nextSnapshot s with
    | some t => snapshotAt t s
    | none => s

/-- Snapshots that come before instant `t`. -/
def snapshotsBefore (t : Nat) : Nat → State → State
  | 0, s => s
  | n + 1, s => match nextSnapshot s with
    | some k => if k < t then snapshotsBefore t n (snapshotAt k s) else s
    | none => s

/-- BANK_COMMIT_APPLY: at the commit instant the banks apply on every die, with a snapshot. [DEDUCED, log 154] -/
def execBankCommitApply (s : State) : Host.Outcome State Fault Refusal :=
  .next <| match s.cnt.commitAt with
    | some t => snapshotAt t (snapshotsBefore t (s.cnt.snaps.length + 2) s)
    | none => s

/-- 1 is written to 0xC030.01. -/
def snapshotTrigger (v : Nat) (s : State) : Status × State :=
  if 1 < v then (.refused, s)
  else (.ok, if v = 1 ∧ nextWhole s ∉ s.cnt.snaps then { s with cnt := { s.cnt with snaps := s.cnt.snaps ++ [nextWhole s] } } else s)

/-- SNAPSHOT_TRIGGER. -/
def execSnapshotTrigger (role : Role) (v : Nat) (s : State) : Host.Outcome State Fault Refusal :=
  .next (answered (managed role oC030_01 [] (snapshotTrigger v) s))

/-- A shadow word (Table CNT-3). -/
def shadowWord (s : State) (ct : Nat) : Nat := s.val oC030_03 [] * 2 ^ 49 + Tbl.look 0 s.cnt.shadow ct

/-! ### Trace records (R543-R545) -/

def traceOf (s : State) (r : Nat) : TraceRec := Tbl.look { open_ := false } s.trc r

/-- TRACE_TIMEOUT: an open record closes with END 0b10; it is dropped where a fault word waits for its log write. -/
def execTraceTimeout (r : Fin 4096) (s : State) : Host.Outcome State Fault Refusal :=
  .next <|
    if ¬ (traceOf s r.val).open_ then s else
    let s := advanceToTb ((traceOf s r.val).t0 + 1000 * s.val oC050_03 []) s
    let x := { traceOf s r.val with open_ := false, endc := 2, gone := !s.fnet.isEmpty }
    let s := countEvent (12288 + 643) {} 1 { s with trc := Tbl.upd { open_ := false } s.trc r.val x }
    if s.fnet.isEmpty then s else countEvent (12288 + 644) {} 1 s

/-- The trace read pointer frees records; more than are unread, or an open one, is refused (R544). -/
def traceRead (v : Nat) (s : State) : Status × State :=
  let r := s.val oC050_06 []
  let unread := s.val oC050_08 []
  let n := if v = r ∧ unread = 4096 then 4096 else (v + 4096 - r) % 4096
  if 4095 < v ∨ unread < n ∨ (List.range n).any (fun j => (traceOf s ((r + j) % 4096)).open_) = true then (.refused, s)
  else (.ok, (s.put oC050_06 [] v).put oC050_08 [] (unread - n))

/-- TRACE_READ_POINTER_WRITE. -/
def execTraceReadPointerWrite (role : Role) (v : Nat) (s : State) : Host.Outcome State Fault Refusal :=
  .next (answered (managed role oC050_06 [] (traceRead v) s))

end Sys2Proof.Machine
end

