-- ==== Sys2Proof/Machine/Test.lean ====
section
/-!
DEFINITION. The test access port, boundary scan and memory self-test (21 R569-R577). The debug master's accesses are with the engines'.
-/
namespace Sys2Proof.Machine

/-! ### The instruction register (R569, R571) -/

/-- The port is reachable: VSB and MGMT_CLK are present. -/
def tapOn (s : State) : Bool := s.pwr.vsb && !s.pwr.mgmtLost

def inEffect (c : Nat) (s : State) : State := s.put oE000_01 [] (setBits (s.val oE000_01 []) 7 0 c)

/-- An instruction whose condition fails is loaded as BYPASS, recorded and logged. [DEDUCED, log 156] -/
def tapRefuse (c : Nat) (s : State) : State :=
  raiseFault 0x780 0x82 (c * 2 ^ 34) ((s.put oE000_01 [] (c * 256 + 0xFF)).bump oE000_03 [] 1)

/-- An instruction register scan: the captured 0b0000_0001 is shifted out, and Update-IR takes the code under its condition. [DEDUCED, log 156] -/
def loadIr (c : Nat) (cond : Bool) (f : State → State) (s : State) : State :=
  if ¬ tapOn s then s else
  let s := emit (.tdo 1 8) s
  if cond then f (inEffect c s) else tapRefuse c s

/-- The condition of R572. -/
def heldReset (s : State) : Bool := s.boot.resetN && powerGood s

/-- TAP_RESET: Test-Logic-Reset, with IDCODE loaded. -/
def execTapReset (s : State) : Host.Outcome State Fault Refusal := .next (if tapOn s then tapIdle s else s)

/-- IDCODE. -/
def execIdcode (s : State) : Host.Outcome State Fault Refusal :=
  .next (loadIr 0x01 true (emit (.tdo 0xB9512C4D 32)) s)

/-! ### Boundary scan (R572-R574) -/

/-- The boundary register captures the lands, a free value of 1,162 cells, and takes what is shifted in. [DESIGN CHOICE, log 155] -/
def scan (v : Nat) (s : State) : State :=
  let (f, s) := freshValue s
  { emit (.tdo (f % 2 ^ 1162) 1162) s with tap := { s.tap with bound := v % 2 ^ 1162 } }

/-- SAMPLE_PRELOAD: no land changes. -/
def execSamplePreload (v : Nat) (s : State) : Host.Outcome State Fault Refusal := .next (loadIr 0x02 true (scan v) s)

/-- EXTEST. -/
def execExtest (v : Nat) (s : State) : Host.Outcome State Fault Refusal := .next (loadIr 0x03 (heldReset s) (scan v) s)

/-- EXTEST_PULSE. -/
def execExtestPulse (v : Nat) (s : State) : Host.Outcome State Fault Refusal :=
  .next (loadIr 0x04 (heldReset s) (fun s => emit (.acTest false) (scan v s)) s)

/-- EXTEST_TRAIN. -/
def execExtestTrain (v : Nat) (s : State) : Host.Outcome State Fault Refusal :=
  .next (loadIr 0x05 (heldReset s) (fun s => emit (.acTest true) (scan v s)) s)

/-- CLAMP. [DESIGN CHOICE, log 155] -/
def execClamp (s : State) : Host.Outcome State Fault Refusal := .next (loadIr 0x06 (heldReset s) id s)

/-- HIGHZ. [DESIGN CHOICE, log 155] -/
def execHighz (s : State) : Host.Outcome State Fault Refusal := .next (loadIr 0x07 (heldReset s) id s)

/-- DBG_CHALLENGE: in PRODUCTION and DEBUG_UNLOCK. -/
def execDbgChallenge (s : State) : Host.Outcome State Fault Refusal :=
  .next (loadIr 0x11 (s.val oD050_01 [] == 1 || s.val oD050_01 [] == 2) (emit (.tdo (s.val oD050_02 []) 384)) s)

/-- DBG_TOKEN: (r, s) is written to 0xD050.03 at Update-DR. -/
def execDbgToken (sigOk owner : Bool) (s : State) : Host.Outcome State Fault Refusal :=
  .next (loadIr 0x12 (s.val oD050_01 [] == 1 || s.val oD050_01 [] == 2) (fun s => (debugToken sigOk owner s).2) s)

/-- FACTORY_TEST: in MANUFACTURE. What the internal scan does is not stated. A refusal is logged by the factory test logic too. [DESIGN CHOICE, log 155; DEDUCED, log 156] -/
def execFactoryTest (n : Fin 16) (s : State) : Host.Outcome State Fault Refusal :=
  .next <|
    let ok := s.val oD050_01 [] == 0
    let s := if tapOn s ∧ ok = false then raiseFault 0x782 0x84 ((0x20 + n.val) * 2 ^ 34) s else s
    loadIr (0x20 + n.val) ok id s

/-- BYPASS, and every code that is not listed. -/
def execBypass (s : State) : Host.Outcome State Fault Refusal := .next (loadIr 0xFF true id s)

/-! ### Memory self-test (R575-R577) -/

/-- The instance of a unit. -/
def testPath : TestUnit → Path
  | .quire q => [pQ q.val]
  | .slice q => [pQ q.val, pDIR]
  | .cluster k => [pK k.val]
  | .engine c => [pC c.val]
  | .spine => [pSPINE]

/-- The states in which a unit may be tested (Table TST-2). -/
def testAllowed (s : State) : TestUnit → Bool
  | .quire q => s.val oD060_02 [pQ q.val] == 2 || s.val oD060_02 [pQ q.val] == 4
  | .slice q => s.val o5100_01 [pQ q.val] == 2
  | .cluster k => s.val oD060_02 [pK k.val] == 2
  | .engine c => engState s c.val == 0 || engState s c.val == 3
  | .spine => s.val oD050_01 [] == 0

/-- 1 is written to 0xE010.01; a unit whose test runs is refused. -/
def testStart (u : TestUnit) (v : Nat) (s : State) : Status × State :=
  let p := testPath u
  if 1 < v ∨ (v = 1 ∧ (testAllowed s u = false ∨ testStatus s p = 1)) then (.refused, s)
  else if v = 0 then (.ok, s)
  else (.ok, { s with tap := { s.tap with tests := Tbl.upd none s.tap.tests (pathKey p) (some s.clk.now) } }.put oE010_02 p (2 ^ 61))

/-- SELF_TEST_START. -/
def execSelfTestStart (role : Role) (u : TestUnit) (v : Nat) (s : State) : Host.Outcome State Fault Refusal :=
  .next (answered (managed role oE010_01 (testPath u) (testStart u v) s))

/-- Bytes of memory of a span read zero again. -/
def zeroSpan (a n : Nat) (s : State) : State := { s with mem := s.mem.filter fun m => decide (m.1 < a) || decide (a + n ≤ m.1) }

/-- The local memory of an engine is zero. -/
def zeroLocal (c : Nat) (s : State) : State :=
  zeroSpan (0x10000000000 + 0x20000 * c) 0x18000 (setEng c { engOf s c with undet := false, known := [] } s)

def zeroCluster (k : Nat) (s : State) : State :=
  (List.range 16).foldl (fun s e => zeroLocal (16 * k + e) s) (zeroSpan (0x20000000000 + 0x100000 * k) 0x80000 s)

/-- A test leaves every word of its unit zero. -/
def testZero (u : TestUnit) (s : State) : State :=
  match u with
  | .quire q => zeroCluster q.val (clearSlice q.val (clearQuire q.val s))
  | .slice q => clearSlice q.val s
  | .cluster k => zeroCluster k.val s
  | .engine c => zeroLocal c.val s
  | .spine => zeroSpan 0x50000000000 0x400000 s

/-- What a finished self-test reports (Table TST-3): the memory, spare rows in use, rows failing, the first failing address and row. -/
def testWord (st mem spares fails addr : Nat) : Nat :=
  st * 2 ^ 61 + mem % 32 * 2 ^ 56 + spares % 4096 * 2 ^ 44 + fails % 4096 * 2 ^ 32 + addr % 2 ^ 32

/-- SELF_TEST_COMPLETE: PASS (0), REPAIRED (1) or FAIL (2). A quire that tests for its return goes on, or stays as it was (R577). -/
def execSelfTestComplete (u : TestUnit) (r : Fin 3) (mem : Fin 8) (spares fails addr row : Nat) (s : State) :
    Host.Outcome State Fault Refusal :=
  .next <|
    let p := testPath u
    if testStatus s p ≠ 1 then s else
    let s := { s with tap := { s.tap with tests := Tbl.upd none s.tap.tests (pathKey p) none } }
    let s := testZero u (s.put oE010_02 p (testWord (r.val + 2) mem.val spares fails addr))
    let s := if r.val = 1 then
        raiseFault 0x781 0x80 (mem.val * 2 ^ 37 + spares % 4096 * 2 ^ 25 + row % 2 ^ 25)
          (s.put oE010_03 p (objDefault oE010_03 p - spares))
      else if r.val = 2 then raiseFault 0x781 0x81 (mem.val * 2 ^ 37 + fails % 4096 * 2 ^ 25) s else s
    match u with
    | .quire q =>
      if s.val oD060_02 [pQ q.val] ≠ 3 then s
      else if r.val = 2 then s.put oD060_02 [pQ q.val] (if s.val o9050_01 [pQ q.val] = 1 then 4 else 2)
      else quireTested q.val s
    | _ => s

end Sys2Proof.Machine
end

