-- ==== Sys2Proof/Machine/Views.lean ====
section
/-!
DEFINITION. Objects whose value follows from the rest of the state (15 R421): what a read of one instance gives, its length in bytes, and
the descriptors of the dictionary (15 R422).
-/
namespace Sys2Proof.Machine

/-! ### Words put together from the state -/

/-- A number of fields of `w` bits each, the first lowest. -/
def packed (w : Nat) : List Nat → Nat
  | [] => 0
  | x :: r => x % 2 ^ w + 2 ^ w * packed w r

/-- A Galley queue's name from its path (04 R132). -/
def qrefOfPath : Path → QRef
  | [(2, m), (5, p), (27, c)] => stageRef m p c
  | [(2, m), (44, _), (27, c)] => homeRef m c
  | [(5, p), (27, c)] => classRef p c
  | p => egressRef (pathNum 5 p) (pathNum 16 p)

/-- A queue descriptor (04 Table GAL-2): both copies of the pointers, with the bits that have changed in them. -/
def queueWord (s : State) (q : QRef) : Nat :=
  let v := queueOf s q
  let head := (v.ents.head?.map (·.buf)).getD 0
  let tail := (v.ents.getLast?.map (·.buf)).getD 0
  ((head * 2 ^ 51 + tail * 2 ^ 34 + head * 2 ^ 17 + tail) ^^^ v.ptr) * 2 ^ 60 + v.ents.length * 2 ^ 43 + v.gen * 2 ^ 41 + b2n v.ents.isEmpty * 2 ^ 40
    + b2n v.bp * 2 ^ 39 + b2n (v.flush.isSome || v.flushing) * 2 ^ 38 + b2n v.undr * 2 ^ 37 + highOf s q % 2 ^ 16 * 2 ^ 21 + lowOf s q % 2 ^ 16 * 2 ^ 5

/-- A congestion map (04 Table GAL-4). -/
def mapWord (q : Nat) (m : CMap) : Nat :=
  m.mseq + b2n m.audit.isSome * 2 ^ 12 + q * 2 ^ 13
    + packed 16 ((List.range 32).map fun k => Tbl.look 0 (m.audit.getD []) k) * 2 ^ 16
    + packed 12 ((List.range 128).map fun x => Tbl.look 0 m.ret x) * 2 ^ 528
    + packed 1 ((List.range 128).map fun x => b2n (m.sqbp.contains x)) * 2 ^ 2064
    + packed 1 ((List.range 4096).map fun k => b2n (m.eqbp.contains k)) * 2 ^ 2192

/-- A region entry and a line entry of the directory (07 Tables DIR-1 and DIR-2). -/
def regionWord (e : DirReg) : Nat :=
  e.sharers * 2 ^ 64 + e.tag * 2 ^ 30 + e.state * 2 ^ 28 + b2n e.valid * 2 ^ 27 + b2n e.prom * 2 ^ 26 + e.block * 2 ^ 12 + e.hits * 2 ^ 8
    + e.quiet * 2 ^ 4 + b2n e.ref * 2 ^ 3

def lineWord (e : DirLine) : Nat := e.sharers * 2 ^ 32 + e.state * 2 ^ 30 + b2n e.touch * 2 ^ 29 + e.last * 2 ^ 23

/-- The raw entry at a slice's selector with its check bits (07 R221). [DESIGN CHOICE, log 12; DESIGN CHOICE, log 122] -/
def rawEntry (s : State) (q : Nat) : Nat :=
  let sel := s.val o5140_01 [pQ q]
  if bit sel 31 then
    let w := lineWord (lineEnt s q (bits sel 19 0))
    w + Config.checkCode w % 2 ^ 8 * 2 ^ 96
  else
    let w := regionWord (regEnt s q (bits sel 17 0))
    w + Config.checkCode w % 2 ^ 13 * 2 ^ 128 + Config.checkCode (w + 1) % 2 ^ 8 * 2 ^ 144

/-- A block-state record (08 Table POL-1). -/
def blockRecord (b : Block) : Nat :=
  b.base * 2 ^ 92 + b.range * 2 ^ 82 + b.owner % 2 ^ 12 * 2 ^ 70 + b.next % 2 ^ 12 * 2 ^ 58 + b.colour * 2 ^ 42 + b.state * 2 ^ 39
    + b.kind % 2 * 2 ^ 38 + b.nkind % 2 * 2 ^ 37 + b.step % 8 * 2 ^ 34 + b.scrubm % 4 * 2 ^ 32 + b2n b.forced * 2 ^ 31 + b.fails % 8 * 2 ^ 28
    + b.opid % 4096 * 2 ^ 16

/-- A trace record (19 Table CNT-5); a slot marked empty reads all zero (R545). [DEDUCED, log 146] -/
def traceRecord (r : TraceRec) : Nat :=
  if r.gone then 0 else
  r.t0 % 2 ^ 64 * 2 ^ 704 + r.sport % 128 * 2 ^ 697 + r.dport % 128 * 2 ^ 690 + r.cls % 8 * 2 ^ 687 + r.tc % 8 * 2 ^ 684
    + r.bytes % 8192 * 2 ^ 671 + r.stamps.length % 32 * 2 ^ 666 + r.endc % 4 * 2 ^ 664 + r.origdev % 16 * 2 ^ 660 + r.origid % 4096 * 2 ^ 648
    + b2n r.cont * 2 ^ 647 + r.init % 8192 * 2 ^ 634 + r.addr / 64 % 2 ^ 58 * 2 ^ 576 + packed 32 r.stamps

/-- The counters of a quire or of the spine: the first, and how many (19 R540). -/
def unitCounters (p : Path) : Nat × Nat :=
  match p with
  | (2, q) :: _ => (1536 * q, 1536)
  | _ => (12288, 1024)

def sessOf (s : State) (n : Nat) : Option Sess := Tbl.look none s.ads.sess n

/-- A session as 0x1120.07 shows it. The manual gives no layout: the transport in byte 0 (0 and 1 MGMT0 and MGMT1, 2 and 3 I3C0 and I3C1, 4 a
DOE mailbox), the peer in the next 16 bytes, the role, the role-table entry, and 4 bytes of requests executed. [DESIGN CHOICE, log 122] -/
def sessWord (s : State) (n : Nat) : Nat :=
  match sessOf s n with
  | none => 0
  | some v =>
    let (t, p) := match v.via with
      | .mgmt k a => (k.val, a)
      | .i3c k e => (2 + k.val, e.val)
      | .doe n => (4, n.val)
    t + p % 2 ^ 128 * 2 ^ 8 + v.role * 2 ^ 136 + v.rk * 2 ^ 144 + v.count % 2 ^ 32 * 2 ^ 152

/-! ### One instance -/

/-- The value of an object that follows from the rest of the state; none where the object store holds it. The crossings read as reset leaves
them, at 4 each (03 R101), where Table PLN-5 gives 0x4024.01 and 0x4024.02 the default 0. [DESIGN CHOICE, log 9; DESIGN CHOICE, log 12; DESIGN CHOICE, log 122; DESIGN CHOICE, log 185] -/
def derived (s : State) (o : Obj) (p : Path) : Option Nat :=
  let q := pathNum 2 p
  let port := pathNum 5 p
  let wheel := fun (n : Nat) (t : Tbl (List WEnt)) => ((t.filter fun e => e.1 / n == q).map (·.2.length)).sum
  match o.code with
  | 0x402002 => some (packed 3 ((List.range 8).map fun e => Tbl.look 0 s.stg.rot (8 * q + e)))
  | 0x402204 => some (Tbl.look [] s.stg.coll q).length
  | 0x402401 => some (packed 3 ((List.range 10).map fun x => (crossOf s q x).occ))
  | 0x402402 => some (packed 3 ((List.range 10).map fun x => (crossOf s q (10 + x)).occ))
  | 0x403001 | 0x403201 => some (queueWord s (qrefOfPath p))
  | 0x403405 => some (sharedPart s q)
  | 0x403801 => some (match Tbl.look none s.gal.sent q with
    | some m => mapWord q m
    | none => 0)
  | 0x404404 => some (Tbl.look 0 s.egr.tat (q * 8192 + pathNum 17 p) / 256)
  | 0x404807 => some (sampledQueues s q).length
  | 0x404601 => some (wheel 4096 s.egr.near)
  | 0x404602 => some (wheel 64 s.egr.far)
  | 0x504001 => some ((s.home.lines.filter fun e => e.2.q == q).map (·.2.reqs.length)).sum
  | 0x504002 => some ((wbufOf s q).filter fun w => !w.sent).length
  | 0x504003 => some (internalUsed s q)
  | 0x504004 => some ((s.home.ring.filter fun e => e.2.isSome).length)
  | 0x512003 => some (validRegs s q).length
  | 0x512004 => some (blocksUsed s q)
  | 0x512005 => some (evictsOf s q).length
  | 0x512007 => some (slotsHeld s q)
  | 0x514002 => some (rawEntry s q + 256 ^ (if bit (s.val o5140_01 [pQ q]) 31 then 13 else 20))
  | 0x520001 => (blk s (pathNum 14 p)).map blockRecord
  | 0x600100 => some (s.val o6001_01 p)
  | 0x602004 =>
    let old := if s.val o6020_03 [] = 1 then s.val o6020_02 [] else (s.val o6020_02 [] + 65535) % 65536
    some ((allSorts s).filter fun x => x.gen == old).length
  | 0x600001 => some (if s.val o p = 0 then 0 else s.val o p + Config.checkCode (s.val o p) % 512)
  | 0x301001 => some (coefRead s (pathNum 4 p))
  | 0x211003 => some (folioOf s port).held.length
  | 0x211007 => some (folioOf s port).s
  | 0x211008 => some (folioOf s port).e
  | 0x800002 => some (if ringDark s (pathNum 21 p) then ringStatus { ringOf s (pathNum 21 p) with state := 4 } else ringStatus (ringOf s (pathNum 21 p)))
  | 0x800003 =>
    let r := ringOf s (pathNum 21 p)
    some (r.sqBase + r.cqBase * 2 ^ 64 + r.cfg * 2 ^ 128)
  | 0x800004 =>
    let r := ringOf s (pathNum 21 p)
    some (r.sqHead * 2 ^ 48 + r.sqTail * 2 ^ 32 + r.cqHead * 2 ^ 16 + r.cqTail)
  | 0x801001 =>
    some ((s.plat.ring.filter fun e => ringActive e.2 && ringUnit (ringWord s e.1) == pathNum 22 p).length)
  | 0x801002 => some (fifosHeld s q)
  | 0x802001 => some (platenSorts s (pathNum 23 p))
  | 0x112002 => some ((s.ads.sess.filter fun e => e.2.isSome).length)
  | 0x112003 => some s.store.pq.length
  | 0x112005 => some ((s.ads.subs.filter fun e => e.2.isSome).length)
  | 0x112007 => some (sessWord s (pathNum 40 p))
  | 0x900001 => some (setBits (s.val o p) 60 60 (b2n (bit (s.val o9012_03 []) (pathNum 33 p))))
  | 0xA00006 => some (timerAt (feedOf s (pathNum 42 p)) s.clk.now / 4000)
  | 0xA00202 => some (((List.range 2).map fun f => s.val oA000_02 [pFEED f] * s.val oA000_03 [pFEED f] / 1000).sum)
  | 0xB02001 => some (tbNs s % 2 ^ 64)
  | 0xC00001 => some (Tbl.look 0 s.counts (pathNum 35 p))
  | 0xC00002 => some (Config.eventName (pathNum 35 p))
  | 0xC04001 => some (shadowWord s (pathNum 35 p))
  | 0xC04002 =>
    let (k, n) := unitCounters p
    some (packed 64 ((List.range n).map fun j => shadowWord s (k + j)))
  | 0xC05005 => some (traceRecord (traceOf s (pathNum 37 p)))
  | _ => none

/-- Quantities measured outside that no command of the block brings: a slot channel's output, and the round trip of a link that is up. Each
read gives a free value. [DESIGN CHOICE, log 77] -/
def measured (s : State) (o : Obj) (p : Path) : Bool :=
  (o.code == 0xA01009 && s.val oA010_01 p != 0) || (o.code == 0x211009 && roleOf s (pathNum 5 p) == 3 && linkOf s (pathNum 5 p) == 2)

/-- One instance is read. -/
def readLeaf (o : Obj) (p : Path) (s : State) : Nat × State :=
  if measured s o p then ((freshValue s).1 % (o.hi + 1), (freshValue s).2) else ((derived s o p).getD (s.val o p), s)

/-- A value of a length of its own is held with a byte 1 above its last. [DESIGN CHOICE, log 122] -/
def storedLen (v : Nat) : Nat := byteLen v - 1

/-- The bytes of a value (15 Table ODX-3); of a structure, the bytes its table takes. -/
def valueLen (o : Obj) (p : Path) (v : Nat) : Nat :=
  match o.ty with
  | .u8 | .bool | .enum8 => 1
  | .u16 => 2
  | .u32 | .i32 | .bits32 => 4
  | .u64 | .time64 => 8
  | .str => byteLen v
  | .blob =>
    match o.code with
    | 0x114001 | 0x514002 => storedLen v
    | 0x705001 => if v = 0 then 0 else 97
    | 0x504202 => 11
    | 0x112007 => 23
    | 0xD01002 | 0xD01003 => 192
    | 0xC04002 => 8 * (unitCounters p).2
    | _ => byteLen o.hi

/-! ### Descriptors (15 R422) -/

def Ty.num : Ty → Nat
  | .u8 => 1 | .u16 => 2 | .u32 => 3 | .u64 => 4 | .i32 => 5 | .bool => 6 | .bits32 => 7 | .enum8 => 8 | .str => 9 | .blob => 10 | .time64 => 11

def Acc.num : Acc → Nat
  | .ro => 0 | .rw => 1 | .wo => 2 | .rc => 3 | .w1c => 4 | .rwl => 5 | .boot => 6

def Pers.num : Pers → Nat
  | .v => 0 | .s => 1 | .p => 2

def ObjKind.num : ObjKind → Nat
  | .none => 0 | .counter => 1 | .capacity => 2 | .status => 3 | .sticky => 4 | .config => 5 | .maximum => 6

/-- A descriptor entry, 12 bytes. Of an object with several forms of path, the first. [DEDUCED, log 119] -/
def descEntry (o : Obj) : Nat :=
  let ks := (o.inst.headD []).map (·.1)
  packed 8 [o.sub, o.ty.num, o.acc.num, o.pers.num, ks.length, ks.getD 0 0, ks.getD 1 0, ks.getD 2 0, o.kind.num, 0, 0, 0]

/-- The objects of an index, by rising sub-index. -/
def objsAt (i : Nat) : List Obj :=
  let l := dictionary.filter fun o => o.idx == i
  (List.range 256).flatMap fun k => l.filter fun o => o.sub == k

/-- The descriptor of an index, and its length. -/
def descriptor (i : Nat) : Nat × Nat := (packed 96 ((objsAt i).map descEntry), 12 * (objsAt i).length)

/-- An index answers: in proof mode only those of three ranges do (18 Table BOT-5). -/
def indexOpen (s : State) (i : Nat) : Bool := s.val oD000_03 [] != 2 || i / 4096 == 1 || i / 4096 == 9 || i / 4096 == 13

/-- The next allocated index above one. -/
def nextIndex (s : State) (i : Nat) : Option Nat :=
  dictionary.foldl (fun b o =>
    if i < o.idx ∧ indexOpen s o.idx = true ∧ (b.all fun k => decide (o.idx < k)) = true then some o.idx else b) none

/-- The object of an index and a sub-index. -/
def objAt (i k : Nat) : Option Obj := dictionary.find? fun o => o.idx == i && o.sub == k

/-! ### Paths (15 R423-R425, 01 R26, R583) -/

/-- How many units an element kind of a chain has; 0 for other kinds. -/
def chainCount (k : Nat) : Nat :=
  match k with
  | 2 => 8 | 3 => 32 | 4 => 512 | 5 => 128 | 8 => 12 | 9 => 192 | _ => 0

/-- A kind stands above another in a chain. -/
def kindAbove (a b : Nat) : Bool := (a == 2 && (b == 3 || b == 4 || b == 5)) || (a == 5 && b == 4) || (a == 8 && b == 9)

/-- A unit contains another; a disabled port holds no lanes (02 R33). [DEDUCED, log 119] -/
def contains (s : State) (a b : Nat × Nat) : Bool :=
  match a.1, b.1 with
  | 2, 5 => b.2 / 16 == a.2
  | 2, 4 => b.2 / 64 == a.2
  | 2, 3 => b.2 / 4 == a.2
  | 5, 4 => roleOf s a.2 != 0 && (lanesOf s a.2).contains b.2
  | 8, 9 => b.2 / 16 == a.2
  | _, _ => false

/-- The instances that a path names under one form of path: itself when the path gives every element, else every one in the enclosing unit.
`up` is the unit the path has named that must contain the next element. The first argument bounds the recursion. [DEDUCED, log 119] -/
def expandForm (s : State) : Nat → List (Nat × Nat × Nat) → Path → Option (Nat × Nat) → Option (Bool × List Path)
  | 0, _, _, _ => none
  | _ + 1, [], p, up => if p.isEmpty ∧ up.isNone then some (true, [[]]) else none
  | n + 1, (k, lo, hi) :: fs, p, up =>
    let within := fun (x : Nat × Nat) => up.all fun u => contains s u x
    let all := fun (_ : Unit) =>
      if chainCount k = 0 then none
      else (expandForm s n fs p none).map fun r =>
        (false, ((List.range (hi + 1 - lo)).map (lo + ·)).flatMap fun j => if within (k, j) then r.2.map ((k, j) :: ·) else [])
    match p with
    | [] => all ()
    | e :: r =>
      if e.1 = k then
        (if lo ≤ e.2 ∧ e.2 ≤ hi ∧ within e = true then (expandForm s n fs r none).map fun x => (x.1, x.2.map (e :: ·)) else none)
      else if kindAbove e.1 k ∧ e.2 < chainCount e.1 ∧ within e = true then expandForm s n ((k, lo, hi) :: fs) r (some e)
      else all ()

/-- A path without the enclosing quire of an engine or of its cluster, which may be given or left out (00 R4, 01 R15). -/
def dropEngineQuire : Path → Path
  | (2, q) :: (9, c) :: r => if c / 16 = q then (9, c) :: r else (2, q) :: (9, c) :: r
  | (2, q) :: (8, k) :: r => if k = q then (8, k) :: r else (2, q) :: (8, k) :: r
  | p => p

/-- The instances of an object that a path names, and whether it names one exactly; none: NOT_FOUND. An object of kind none is not answered
at an enclosing unit. [DEDUCED, log 119] -/
def instances (s : State) (o : Obj) (p : Path) : Option (Bool × List Path) :=
  let l := o.inst.filterMap fun f => expandForm s 16 f (dropEngineQuire p) none
  match l.find? (·.1) with
  | some r => some r
  | none => if o.kind = .none ∨ (l.flatMap (·.2)).isEmpty = true then none else some (false, l.flatMap (·.2))

/-- A state's place from best to worst: rising encoding, but for the slice state of 07 Table DIR-6. [DEDUCED, log 120] -/
def rank (o : Obj) (v : Nat) : Nat :=
  if o.code = 0x510001 then (match v with
    | 0 => 0 | 3 => 1 | 1 => 2 | _ => 3)
  else v

/-- One value for the units of an enclosing unit (01 Table ARC-11); none: they differ. A sum is not bounded here; where it is answered, the
bytes of the object's type hold its low bits. [DEDUCED, log 120] -/
def combine (o : Obj) (l : List Nat) : Option Nat :=
  match o.kind with
  | .counter | .capacity => some l.sum
  | .sticky => some (l.foldl (· ||| ·) 0)
  | .maximum => some (l.foldl max 0)
  | .status => some (l.foldl (fun a b => if rank o a < rank o b then b else a) (l.headD 0))
  | _ => if l.all (· == l.headD 0) then l.head? else none

/-- Instances are read one after the other. -/
def readAll (o : Obj) : List Path → State → List Nat × State
  | [], s => ([], s)
  | p :: r, s =>
    let (v, s) := readLeaf o p s
    let (l, s) := readAll o r s
    (v :: l, s)

end Sys2Proof.Machine
end

