-- ==== Sys2Proof/Machine/Adsum.lean ====
section
/-!
DEFINITION. The Adsum endpoint (15): sessions and frames, what a role may read and write, reads and writes of any object, the messages, and
subscriptions.
-/
namespace Sys2Proof.Machine

/-! ### Sessions (R440-R442) -/

def setSess (n : Nat) (v : Option Sess) (s : State) : State := { s with ads := { s.ads with sess := Tbl.upd none s.ads.sess n v } }

/-- A session ends: its held segments, its subscriptions, its messages and its answers are discarded (R442). [DEDUCED, log 123] -/
def endSession (n : Nat) (s : State) : State :=
  let s := setSess n none s
  let gone := s.ads.subs.filter fun e => e.2.any fun v => v.ses == n
  { s with ads := { s.ads with
      subs := gone.foldl (fun t e => Tbl.upd none t e.1 none) s.ads.subs
      inbox := s.ads.inbox.filter fun m => m.ses != some n
      defer := s.ads.defer.filter fun d => d.ses != some n } }

/-- The open sessions of a role-table entry. -/
def sessionsOf (s : State) (rk : Nat) : List Nat :=
  (s.ads.sess.filter fun e => e.2.any fun v => v.ready && v.rk == rk).map (·.1)

def roleOfSess (v : Sess) : Role :=
  match v.role with
  | 2 => .manager
  | 3 => .owner
  | _ => .observer

/-! ### Reading any object (R424, R425, R429, R431) -/

/-- The path without an enclosing quire. -/
def dropQuire : Path → Path
  | (2, _) :: (5, p) :: r => (5, p) :: r
  | p => p

/-- An instance is in the view of VCS `n` (12 R347). -/
def inView (s : State) (n : Nat) (o : Obj) (p : Path) : Bool :=
  o.idx / 4096 == 1 || (match dropQuire p with
    | (6, m) :: _ => m == n
    | (5, port) :: _ => (vppbsOf s port).any fun b => b.1 == n
    | (11, d) :: (12, k) :: _ => slotOfVcs s d k n
    | (21, r) :: _ => (viewVcs s (ringWord s r)).contains n
    | (20, k) :: _ => winOkind (winOf s k) == 1 && winOnum (winOf s k) == n
    | _ => false)

/-- A role reads an instance: a host in its view, an engine in the ranges of its own (14 R413), every other role everything. -/
def viewed (s : State) (role : Role) (o : Obj) (p : Path) : Bool :=
  match role with
  | .host n => inView s n.val o p
  | .engine e => bit (s.val o7060_01 [pC e.val]) (o.idx / 4096)
  | _ => true

/-- A read by the role clears an RC object (Table ODX-4). -/
def clears : Role → Bool
  | .manager | .owner | .boot => true
  | _ => false

/-- What the read of an RC instance clears; with the alarm summary ALERT_N is deasserted (16 R460). A frozen
collector keeps its content (16 R468). -/
def clearLeaf (o : Obj) (s : State) (p : Path) : State :=
  if frozen s ∧ (o.idx = 0x9000 ∨ o.idx = 0x9012 ∨ o.idx = 0x9020) then s else
  let s := s.put o p (objDefault o p)
  if o.code = 0x901203 then s.put o9012_04 [] 0 else s

/-- An object is read by a role. An instance that does not exist comes before the view, a write-only object is refused by its access
code, and an enclosing unit answers for the units it contains. [DEDUCED, log 118] -/
def getObject (role : Role) (o : Obj) (p : Path) (s : State) : (Status × Option Nat) × State :=
  if ¬ indexOpen s o.idx then ((.notFound, none), s)
  else match instances s o p with
    | none => ((.notFound, none), s)
    | some (exact, ps) =>
      if ¬ viewed s role o p then ((.notInView, none), s)
      else if o.acc = .wo then ((.refused, none), s)
      else
        let (l, s) := readAll o ps s
        let s := if o.acc = .rc ∧ clears role = true then ps.foldl (clearLeaf o) s else s
        match if exact then l.head? else combine o l with
        | some v => ((.ok, some v), s)
        | none => ((.mixed, none), s)

/-! ### Writing any object (R428-R430) -/

/-- VF numbers of a VCS that pass 4,095 or overlap another's (12 R362). -/
def vfRangeBad (s : State) (n base allot : Nat) : Bool :=
  allot != 0 && (decide (4096 < base + allot) || (List.range 64).any fun m =>
    let b := s.val o4400_05 [pVCS m]
    let a := s.val o4400_02 [pVCS m]
    m != n && a != 0 && decide (b < base + allot) && decide (base < b + a))

/-- A setting of a VCS that may be written only while it is disabled. [DEDUCED, log 127] -/
def whileDisabled (o : Obj) (n v : Nat) (s : State) : Status × State :=
  if s.flag o4100_02 [pVCS n] then (.refused, s) else plainWrite o [pVCS n] v s

/-- Lead eligibility is written: the other members are told (02 R66); the lead and the standby follow; a member made eligible while the forme has no lead takes it (02 R66,
R68). [DESIGN CHOICE, log 27; DEDUCED, log 127] -/
def eligibleWrite (v : Nat) (s : State) : Status × State :=
  let r := plainWrite o4200_03 [] v s
  let s' := r.2
  if r.1 ≠ .ok ∨ ¬ formed s' then r
  else
    let s' := tellAll (sayMember s' (ownPos s')) s'
    if s'.forme.leadLost.isSome then (.ok, s')
    else if s'.val o4200_07 [] = 0xFF ∧ hasMajority s' = true ∧ (eligibleMembers s').isEmpty = false then
      (.ok, formeSettle { s' with forme := { s'.forme with noAuthority := false } })
    else if s'.forme.noAuthority then (.ok, s')
    else (.ok, formeSettle s')

/-- The repair unit and the self-test unit of an instance. -/
def repairUnit (p : Path) : RepairUnit :=
  match p with
  | (3, g) :: _ => .group (Fin.ofNat 32 g)
  | (8, k) :: _ => .cluster (Fin.ofNat 12 k)
  | _ => .quire (Fin.ofNat 8 (pathNum 2 p))

def testUnit (p : Path) : TestUnit :=
  match p with
  | [(2, q), (43, _)] => .slice (Fin.ofNat 8 q)
  | (2, q) :: _ => .quire (Fin.ofNat 8 q)
  | (8, k) :: _ => .cluster (Fin.ofNat 12 k)
  | (9, c) :: _ => .engine (Fin.ofNat 192 c)
  | _ => .spine

/-- The domain of 0x7040.01: quires 0-7, clusters from 8. -/
def domOf (p : Path) : Nat :=
  match p with
  | (8, k) :: _ => 8 + k
  | _ => pathNum 2 p

/-- A role-table entry's role is written: 0 ends the sessions that took their role from it (R441). [DEDUCED, log 123] -/
def roleWrite (k v : Nat) (s : State) : Status × State :=
  if 3 < v then (.refused, s)
  else
    let s := s.put o1130_02 [pRK k] v
    (.ok, if v = 0 then (sessionsOf s k).foldl (fun s n => endSession n s) s else s)

/-- 1 is written to 0x1120.08. [DEDUCED, log 123] -/
def sessionEnd (n v : Nat) (s : State) : Status × State :=
  if 1 < v then (.refused, s) else (.ok, if v = 1 then endSession n s else s)

/-- The doorbell to a host is written: an engine's waits for its stores (12 R359), another writer's raises the vector at once. [DEDUCED, log 128] -/
def bellWrite (role : Role) (n : Nat) (s : State) : Status × State :=
  match role with
  | .engine e => (.ok, settleBells { s with host := { s.host with bells := s.host.bells ++ [(e.val, n)] } })
  | _ => (.ok, if s.flag o4100_02 [pVCS n] then signal (n * 1024) 3 s else s)

/-- The management owner of a VCS is written: its Imprint table shows it (12 Table HST-8). -/
def mailboxWrite (n v : Nat) (s : State) : Status × State :=
  if 1 < v then (.refused, s)
  else (.ok, if s.val o4100_04 [pVCS n] = v then s else imprintChange n (s.put o4100_04 [pVCS n] v))

/-- One instance is written with a value of `len` bytes, by its own rule where the manual gives one. [DEDUCED, log 110] -/
def writeLeaf (role : Role) (o : Obj) (p : Path) (v len : Nat) (x : Extra) (s : State) : Status × State :=
  let q := pathNum 2 p
  let port := pathNum 5 p
  let n := pathNum 6 p
  let l := pathNum 4 p
  match o.code with
  | 0x201001 => if (List.range 4).any fun k => slotRole (slotByte v k) != 0 && decide (4 < bits v (8 * k + 5) (8 * k + 3)) then (.refused, s) else plainWrite o p v s
  | 0x201100 => laneCommit (pathNum 3 p) v s
  | 0x402403 => (.ok, s.put o p (s.val o p - (s.val o p &&& v)))
  | 0x403002 | 0x403003 | 0x403202 | 0x403203 => watermarkWrite o p v s
  | 0x403205 => queueFlush port (pathNum 16 p) v s
  | 0x403401 => reserveWrite port v s
  | 0x404001 => keyingMode port v s
  | 0x404004 => keyMapCommit port v s
  | 0x404401 => limiterWrite q (pathNum 17 p) (v % 2 ^ 32) s
  | 0x404802 => samplingWrite (qrefOfPath p) v s
  | 0x410001 | 0x410003 | 0x440001 => whileDisabled o n v s
  | 0x440002 => if vfRangeBad s n (s.val o4400_05 p) v then (.refused, s) else whileDisabled o n v s
  | 0x440005 => if vfRangeBad s n v (s.val o4400_02 p) then (.refused, s) else whileDisabled o n v s
  | 0x410002 => vcsEnable n v s
  | 0x410004 => mailboxWrite n v s
  | 0x411002 => formeChange .item (.bind (ownPos s) n (pathNum 7 p) v x.far) s
  | 0x411004 => if 2 < v then (.refused, s) else formeChange .item (.unbind (ownPos s) n (pathNum 7 p) v) s
  | 0x420003 => eligibleWrite v s
  | 0x420006 => withdrawWrite port v s
  | 0x501001 => formeChange .item (.slot (pathNum 11 p) (pathNum 12 p) v) s
  | 0x502001 => rangeWrite (pathNum 13 p) v s
  | 0x503001 => suspectClear (pathNum 11 p) (pathNum 12 p) v s
  | 0x503003 => releaseIsolation (pathNum 11 p) (pathNum 12 p) v s
  | 0x504201 => homeInspect q v s
  | 0x510002 => sliceOut q v s
  | 0x510003 => sliceReturn q v s
  | 0x521004 => transitWrite v s
  | 0x522001 => blockWord (pathNum 14 p) v s
  | 0x523001 => presentationWrite n v s
  | 0x523004 | 0x523007 => ownerColourWrite o p v s
  | 0x523005 =>
    let d := pathNum 11 p
    let there := fun s : State => s.val o5230_05 [pDOM d] != 0xFFF
    let r := plainWrite o p v s
    if there s = there r.2 then r
    else (r.1, (List.range 64).foldl (fun t n => if (List.range 64).any fun k => slotOfVcs t d k n then imprintChange n t else t) r.2)
  | 0x600001 => plateWrite (pathNum 26 p) (pathNum 25 p) v s
  | 0x600100 => plateLock (pathNum 26 p) v s
  | 0x601001 | 0x601201 | 0x601202 => shadowWrite o p v s
  | 0x602001 => keyCommit v s
  | 0x300001 => targetRate port v s
  | 0x301001 => coefWrite l v s
  | 0x301202 => adaptMode l v s
  | 0x301203 => manualWrite l v s
  | 0x302001 => laneTest o 3 l v s
  | 0x302002 => laneTest o 4 l v s
  | 0x302003 => checkerEnable l v s
  | 0x302201 => scanStart l v s
  | 0x210001 => windowWrite port (pathNum 27 p) v s
  | 0x212001 => retrainRequest role port v s
  | 0x440004 => if (List.range 6).any (fun k => v == 128 * 2 ^ k) then plainWrite o p v s else (.refused, s)
  | 0x441001 =>
    let k := pathNum 20 p
    match windowEntry (role == .boot) k v s with
    | (some st, s) => (st, s)
    | (none, s) => (.ok, { s with ads := { s.ads with late := s.ads.late ++ [k] } })
  | 0x444001 => bellWrite role n s
  | 0x800001 => ringAssign (pathNum 21 p) v s
  | 0x800006 => ringSquash role (pathNum 21 p) v s
  | 0x700002 => runControl (pathNum 9 p) v s
  | 0x700004 => netLevel (pathNum 9 p) v s
  | 0x701001 => regionWrite p v s
  | 0x701002 => regionLock v s
  | 0x703002 => targetReturn (pathNum 28 p) v s
  | 0x704001 => domainWrite (domOf p) v s
  | 0x705001 => ownerKey p v s
  | 0x705002 => ownerKeyLock v s
  | 0x705003 => minVersion p v s
  | 0x705004 => if 655360 < len then (.refused, s) else (.ok, s.put o p v)
  | 0x705005 => programLoad v x.sigOk s
  | 0x705008 => programHalt (pathNum 9 p) v s
  | 0x112008 => sessionEnd (pathNum 40 p) v s
  | 0x113002 => roleWrite (pathNum 41 p) v s
  | 0x114001 => if 65536 < len then (.refused, s) else if 65536 < queueBytes s + len then (.busy, s) else (.ok, s.put o p (if len = 0 then 0 else v % 256 ^ len + 256 ^ len))
  | 0x900001 => statusClear (pathNum 33 p) v s
  | 0x901001 =>
    let r := plainWrite o p v s
    (r.1, settleFaultN r.2)
  | 0x902002 => logRead v s
  | 0xA00004 => feedClear (pathNum 42 p) v s
  | 0xA0100B => channelWrite (pathNum 10 p) v s
  | 0xA0100C => latchClear (pathNum 10 p) v s
  | 0xB00001 => refModeWrite v s
  | 0xB02003 | 0xB02202 | 0xB02203 | 0xB02204 => clockWrite o v s
  | 0xC02001 => bankWrite (pathNum 36 p) v s
  | 0xC02003 => bankCommit v s
  | 0xC03001 => snapshotTrigger v s
  | 0xC05006 => traceRead v s
  | 0xD00001 => warmCommand v s
  | 0xD00002 => coldCommand v s
  | 0xD00201 => vcsReset n v s
  | 0xD00202 => portReset port v s
  | 0xD00203 => clusterResetWrite (pathNum 8 p) v s
  | 0xD00204 => engineResetWrite (pathNum 9 p) v s
  | 0xD01008 => svnFuse v s
  | 0xD02001 => if 16777216 < len then (.refused, s) else (.ok, s.put o p v)
  | 0xD02002 => if v = 1 then imageInstall role x.sigOk x.vals x.flashErr s else if v = 2 then imageRoll s else (.refused, s)
  | 0xD03002 => bootCountClear v s
  | 0xD04003 => proofRequest v s
  | 0xD05003 => debugToken x.sigOk x.owner s
  | 0xD05004 => retire v s
  | 0xD06001 => if v = 1 then unitOffline (repairUnit p) s else if v = 2 then unitReturn (repairUnit p) s else (.refused, s)
  | 0xD07004 => watchdogWrite role v s
  | 0xE01001 => testStart (testUnit p) v s
  | _ => plainWrite o p v s

/-- One instance is written by a role. -/
def setLeaf (role : Role) (o : Obj) (v len : Nat) (x : Extra) (p : Path) (s : State) : Status × State :=
  managed role o p (writeLeaf role o p v len x) s

/-- Instances are written one after the other, up to the first that refuses. -/
def setAll (role : Role) (o : Obj) (v len : Nat) (x : Extra) : List Path → State → Status × State
  | [], s => (.ok, s)
  | p :: r, s =>
    match setLeaf role o v len x p s with
    | (.ok, s) => setAll role o v len x r s
    | (st, s) => (st, s)

/-- An object is written by a role. Through an enclosing unit only an RW object is written, on every contained instance or on none (R425). [DEDUCED, log 118] -/
def setObject (role : Role) (o : Obj) (p : Path) (v len : Nat) (x : Extra) (s : State) : Status × State :=
  match instances s o p with
  | none => (.notFound, s)
  | some (true, q :: _) => setLeaf role o v len x q s
  | some (_, ps) =>
    if o.acc ≠ .rw then (.refused, s)
    else match setAll role o v len x ps s with
      | (.ok, t) => (.ok, t)
      | (st, _) => (st, s)

/-! ### Requests for another member of a forme (02 R28, 15 R424) -/

/-- The status of a code of Table ODX-8. -/
def statusOf (k : Nat) : Status :=
  match k with
  | 0 => .ok | 1 => .notFound | 2 => .notInView | 3 => .refused | 4 => .busy | 5 => .typeLen | 6 => .formeBusy | 7 => .auth | 8 => .resource
  | 9 => .notDone | _ => .mixed

/-- Who answers a request: this member, by the rest of the path; this member as the lead, for member `k` that the path names; another; or
nobody. -/
inductive Reach where
  | here (p : Path) | lead (k : Nat) (p : Path) | there (k : Nat) | nowhere | noLead

/-- A forme-level object is answered by the lead, here or over Folio, whichever joined member the path names (01 R27, R28). Of any other
object, a path that begins with the own position is this member's, and another joined member's goes to it over Folio (15 R424). -/
def reachOf (s : State) (o : Option Obj) (p : Path) : Reach :=
  let formed := decide (s.val o4200_01 [] < 16) && s.val o4200_08 [] != 0
  let (dev, rest) : Option Nat × Path := match p with
    | (1, k) :: r => (some k, r)
    | p => (none, p)
  if dev.all (fun k => k == ownPos s || (formed && joinedAt s k)) = false then .nowhere
  else if formed ∧ o.any formeLevel = true then
    if s.val o4200_07 [] = ownPos s then (match dev with
      | some k => if k = ownPos s then .here rest else .lead k rest
      | none => .here rest)
    else if (formeHolds s).isSome then .noLead else .there (s.val o4200_07 [])
  else match dev with
    | some k => if k = ownPos s then .here rest else .there k
    | none => .here rest

/-- A request goes to another member over Folio with its role, and its answer comes back; BUSY after 1 ms without one (R424). -/
def forwardTo (k : Nat) (role : Role) (op : AdsOp) (it : AdsItem) (x : Extra) (s : State) : (Status × Option Nat) × State :=
  match portToward s k, x.member with
  | some _, some (st, v) => ((statusOf st.val, v), emit (.forward k role op { it with x := {} }) s)
  | some _, none => ((.busy, none), advance (ms 1) (emit (.forward k role op { it with x := {} }) s))
  | none, _ => ((.busy, none), advance (ms 1) s)

/-- The lead takes a write of another member's forme-level object (01 R28): a domain slot is the forme's own; of a vPPB, what that member
answers to the command comes first, and the change is then the lead's. [DESIGN CHOICE, log 170] -/
def leadWrite (role : Role) (k : Nat) (o : Obj) (p : Path) (v len : Nat) (x : Extra) (s : State) : Status × State :=
  if o.code = 0x501001 then setObject role o p v len x s
  else managed role o p (fun s =>
    match x.member with
    | none => (.busy, advance (ms 1) s)
    | some (st, _) =>
      if statusOf st.val ≠ .ok then (statusOf st.val, s)
      else if o.code = 0x411002 then formeChange .item (.bind k (pathNum 6 p) (pathNum 7 p) v x.far) s
      else formeChange .item (.unbind k (pathNum 6 p) (pathNum 7 p) v) s) s

/-! ### Items (R427, R431) -/

/-- The answer to an item without a value. -/
def itemAns (it : AdsItem) (st : Status) : AdsAns := { idx := it.idx.val, sub := it.sub.val, path := it.path, st := st }

/-- The answer to an item with the bytes of a value that the item asks for: at most 1,024 from its offset. A sum that does not fit its type
shows its low bytes. [DESIGN CHOICE, log 169] -/
def slicedAns (it : AdsItem) (ty v len : Nat) : AdsAns :=
  let n := min 1024 (len - it.off)
  { itemAns it .ok with ty := ty, off := it.off, len := n, val := v / 256 ^ it.off % 256 ^ n }

/-- A GET item. A descriptor is read at sub-index 0xFF. -/
def getItem (role : Role) (it : AdsItem) (s : State) : AdsAns × State :=
  let o := objAt it.idx.val it.sub.val
  if 8 < it.path.length ∨ it.len ≠ 0 then (itemAns it .typeLen, s)
  else match reachOf s o it.path with
    | .nowhere => (itemAns it .notFound, s)
    | .noLead => (itemAns it .formeBusy, s)
    | .there k =>
      let ((st, v), s) := forwardTo k role .get it it.x s
      let a := itemAns it st
      (match st, v with
        | .ok, some v => { a with ty := (o.map (·.ty.num)).getD 0, len := (o.map (fun o => valueLen o it.path v)).getD (byteLen v), val := v }
        | _, _ => a, s)
    | .lead _ p | .here p =>
      let desc := fun (i : Nat) =>
        let (d, len) := descriptor i
        if it.ty.val ≠ 0 ∧ it.ty.val ≠ 10 ∨ len < it.off then itemAns it .typeLen
        else { slicedAns it 10 d len with idx := i, sub := 255 }
      if it.next then (match nextIndex s it.idx.val with
        | some i => (desc i, s)
        | none => (itemAns it .notFound, s))
      else if it.sub.val = 255 then
        (if (objsAt it.idx.val).isEmpty ∨ ¬ indexOpen s it.idx.val ∨ ¬ p.isEmpty then (itemAns it .notFound, s) else (desc it.idx.val, s))
      else match o with
        | none => (itemAns it .notFound, s)
        | some o =>
          if it.ty.val ≠ 0 ∧ it.ty.val ≠ o.ty.num then (itemAns it .typeLen, s)
          else
            match getObject role o p s with
            | ((.ok, some v), t) =>
              let len := valueLen o p v
              if (o.ty ≠ .blob ∧ it.off ≠ 0) ∨ len < it.off ∨ (o.acc = .rc ∧ (it.off ≠ 0 ∨ 1024 < len)) then (itemAns it .typeLen, s)
              else (slicedAns it o.ty.num v len, t)
            | ((st, _), t) => (itemAns it st, t)

/-- Segments by rising offset. -/
def insertPart (e : Nat × Nat × Nat) : List (Nat × Nat × Nat) → List (Nat × Nat × Nat)
  | [] => [e]
  | f :: r => if e.1 ≤ f.1 then e :: f :: r else f :: insertPart e r

/-- The whole value that segments make, when they cover it without gap or overlap: its value and length. [DEDUCED, log 117] -/
def joinParts : List (Nat × Nat × Nat) → Nat → Option (Nat × Nat)
  | [], cur => some (0, cur)
  | (off, len, d) :: r, cur =>
    if off ≠ cur then none
    else (joinParts r (cur + len)).map fun v => (d % 256 ^ len + 256 ^ len * v.1, v.2)

/-- The bytes of a BLOB of fixed size. -/
def fixedLen (o : Obj) (p : Path) : Option Nat :=
  if o.code = 0x114001 ∨ o.code = 0x705004 ∨ o.code = 0xD02001 ∨ o.code = 0xD05003 then none
  else if o.code = 0x705001 then some 97 else some (valueLen o p 0)

/-- A value's bytes fit its type; a BOOL is 0 or 1 (Table ODX-3). -/
def fitsType (o : Obj) (p : Path) (v len : Nat) : Bool :=
  match o.ty with
  | .bool => len == 1 && decide (v < 2)
  | .str => decide (len ≤ 255)
  | .blob => (fixedLen o p).all (len == ·)
  | _ => len == valueLen o p v && decide (v < 256 ^ len)

/-- The held segments of an object in a session. [DEDUCED, log 117] -/
def heldParts (v : Sess) (code key : Nat) : List (Nat × Nat × Nat) :=
  ((v.segs.find? fun g => g.code == code && g.key == key).map (·.parts)).getD []

def keepParts (v : Sess) (code key : Nat) (l : List (Nat × Nat × Nat)) : Sess :=
  { v with segs := (v.segs.filter fun g => g.code != code || g.key != key) ++ (if l.isEmpty then [] else [⟨code, key, l⟩]) }

/-- A SET item of session `n`. A BLOB's item is the whole value when it begins at 0 and is the last, or is of the BLOB's fixed size; every
other item of a BLOB is a segment held aside until the last one comes. [DEDUCED, log 117] -/
def setItem (n : Nat) (role : Role) (it : AdsItem) (s : State) : Status × State :=
  let o := objAt it.idx.val it.sub.val
  if 8 < it.path.length ∨ 1024 < it.len ∨ ¬ it.pad ∨ it.next then (.typeLen, s)
  else match reachOf s o it.path with
    | .nowhere => (.notFound, s)
    | .noLead => (.formeBusy, s)
    | .there k =>
      let r := forwardTo k role .set it it.x s
      (r.1.1, r.2)
    | .lead k p =>
      (match o with
        | none => (.notFound, s)
        | some o =>
          if (it.ty.val ≠ 0 ∧ it.ty.val ≠ o.ty.num) ∨ ¬ fitsType o p it.data it.len ∨ it.off ≠ 0 then (.typeLen, s)
          else leadWrite role k o p it.data it.len it.x s)
    | .here p =>
      if it.sub.val = 255 ∧ (objsAt it.idx.val).isEmpty = false ∧ indexOpen s it.idx.val = true then (.refused, s)
      else match o with
      | none => (.notFound, s)
      | some o =>
        if it.ty.val ≠ 0 ∧ it.ty.val ≠ o.ty.num then (.typeLen, s)
        else
          let whole := o.ty ≠ .blob ∨ (it.off = 0 ∧ (it.last ∨ fixedLen o p = some it.len))
          if whole then
            (if fitsType o p it.data it.len ∧ it.off = 0 then setObject role o p it.data it.len it.x s else (.typeLen, s))
          else match sessOf s n, writeGate role o p s with
            | none, _ => (.auth, s)
            | _, some st => (st, s)
            | some v, none =>
              let key := pathKey p
              let l := insertPart (it.off, it.len, it.data) (heldParts v o.code key)
              if ¬ it.last then (.ok, setSess n (some (keepParts v o.code key l)) s)
              else
                let s := setSess n (some (keepParts v o.code key [])) s
                match joinParts l 0 with
                | some (d, len) => if fitsType o p d len then setObject role o p d len it.x s else (.typeLen, s)
                | none => (.typeLen, s)

/-! ### Requests (R431-R435, R442) -/

/-- Items are read one after the other. -/
def getItems (role : Role) : List AdsItem → State → List AdsAns × State
  | [], s => ([], s)
  | it :: r, s =>
    let (a, s) := getItem role it s
    let (l, s) := getItems role r s
    (a :: l, s)

/-- Items are written in order, up to the first that fails; the later ones are not attempted. One that waits for a forme-level change (02 R67,
R68) names the change. -/
def setItems (n : Nat) (role : Role) : List AdsItem → State → List AdsAns × State
  | [], s => ([], s)
  | it :: r, s =>
    match setItem n role it s with
    | (.ok, s) =>
      let (l, s) := setItems n role r s
      (itemAns it .ok :: l, s)
    | (.held, s) =>
      let id := s.forme.nextChange - 1
      let (l, s) := setItems n role r s
      ({ itemAns it .held with aux := id } :: l, s)
    | (st, s) => (itemAns it st :: r.map (itemAns · .notDone), s)

/-- The status of a message: that of its first item that fails (R431). -/
def messageStatus (l : List AdsAns) : Status := ((l.find? fun a => a.st != .ok && a.st != .mixed && a.st != .held).map (·.st)).getD .ok

/-- The changes that items of an answer wait for: the change and the item. -/
def heldItems (l : List AdsAns) : List (Nat × Nat) := (l.zipIdx.filter fun e => e.1.st == .held).map fun e => (e.1.aux, e.2)

/-- A response goes out in a session, and is kept with those of its last 64 requests. [DEDUCED, log 115] -/
def sendResp (n : Nat) (r : AdsResp) (s : State) : State :=
  match sessOf s n with
  | none => s
  | some v =>
    let l := v.answered ++ [(r.rid, r)]
    emit (.adsum n v.via r) (setSess n (some { v with answered := l.drop (l.length - 64) }) s)

/-- The oldest message, where it meets a test. [DESIGN CHOICE, log 111] -/
def takeMsg (p : InMsg → Bool) (s : State) : Option (InMsg × State) :=
  match s.ads.inbox with
  | m :: r => if p m then some (m, { s with ads := { s.ads with inbox := r } }) else none
  | [] => none

/-- The oldest message is a request of a kind: its session, the session's role, its identifier and its items. [DESIGN CHOICE, log 111] -/
def takeRequest (op : AdsOp) (s : State) : Option (Nat × Role × Nat × List AdsItem × State) :=
  match takeMsg (fun m => match m.msg with
      | .adsum k _ _ => k == op
      | _ => false) s with
  | some (⟨_, some n, .adsum _ rid items⟩, t) =>
    (sessOf t n).map fun v => (n, roleOfSess v, rid.val, items, setSess n (some { v with count := v.count + 1 }) t)
  | _ => none

/-- A request with more than 64 items is answered TYPE_LEN. [DESIGN CHOICE, log 116] -/
def respond (n rid : Nat) (l : List AdsAns) (s : State) : State :=
  sendResp n { st := messageStatus l, rid := rid, time := tbNs s % 2 ^ 64, items := l } s

def tooMany (n rid : Nat) (s : State) : State := sendResp n { st := .typeLen, rid := rid, time := tbNs s % 2 ^ 64 } s

/-- The answer to a SET that ended its own session, by a reset or a change of the role table: it went out as the operation was accepted
(R431), so it stands before what the operation sent. -/
def lastAnswer (n rid : Nat) (l : List AdsAns) (s u : State) : State :=
  match sessOf s n with
  | none => u
  | some v =>
    let r : AdsResp := { st := messageStatus l, rid := rid, time := tbNs s % 2 ^ 64, items := l }
    { u with out := s.out ++ .adsum n v.via r :: u.out.drop s.out.length }

/-- ADSUM_GET: the oldest request is a GET. -/
def execAdsumGet (s : State) : Host.Outcome State Fault Refusal :=
  .next <| match takeRequest .get s with
    | none => s
    | some (n, role, rid, items, s) =>
      if 64 < items.length then tooMany n rid s else
      let (l, s) := getItems role items s
      respond n rid l s

/-- ADSUM_SET: the oldest request is a SET. Its answer waits for the Imposition windows it turned off, and for its forme-level changes (02 R67,
R68). -/
def execAdsumSet (s : State) : Host.Outcome State Fault Refusal :=
  .next <| match takeRequest .set s with
    | none => s
    | some (n, role, rid, items, s) =>
      if 64 < items.length then tooMany n rid s else
      let before := s.ads.late
      let (l, u) := setItems n role items s
      let wins := u.ads.late.filter fun k => !before.contains k
      if (sessOf u n).isNone = true then lastAnswer n rid l s u
      else if wins.isEmpty ∧ (heldItems l).isEmpty = true then respond n rid l u
      else
        let s := u
        let d : Defer := { ses := some n, resp := { st := messageStatus l, rid := rid, time := tbNs s % 2 ^ 64, items := l }, wins := wins,
                           changes := heldItems l }
        { s with ads := { s.ads with defer := s.ads.defer ++ [d] } }

/-- ADSUM_SNAPSHOT: the oldest request is a SNAPSHOT; every item is read at one instant, and values of more than 1,024 bytes together are
refused. [DESIGN CHOICE, log 116] -/
def execAdsumSnapshot (s : State) : Host.Outcome State Fault Refusal :=
  .next <| match takeRequest .snapshot s with
    | none => s
    | some (n, role, rid, items, s) =>
      if 64 < items.length then tooMany n rid s else
      let (l, t) := getItems role items s
      if 1024 < (l.map (·.len)).sum then tooMany n rid s else respond n rid l t

/-! ### Subscriptions (R434, R435) -/

/-- The instances that a subscription to an object covers: one, or with a wildcard every one of the last element; none: no such
instance. -/
def subPaths (s : State) (o : Obj) (p : Path) (wild : Bool) : Option (List Path) :=
  if ¬ wild then (instances s o p).map fun _ => [p]
  else match o.inst.find? fun f => f.length == p.length && (f.map (·.1)) == p.map (·.1) with
    | none => none
    | some f =>
      match f.getLast? with
      | none => none
      | some (k, lo, hi) =>
        let l := ((List.range (hi + 1 - lo)).map fun j => p.dropLast ++ [(k, lo + j)])
        if (instances s o (l.headD [])).isSome then some l else none

/-- How often the instances under a path have changed. -/
def changesAt (s : State) (o : Obj) (p : Path) : Nat := (((instances s o p).map (·.2)).getD [] |>.map (s.changes o)).sum

/-- The first of 256 subscription places that is free. -/
def freeSub (s : State) : Option Nat := (List.range 256).find? fun i => (Tbl.look none s.ads.subs i).isNone

def setSub (i : Nat) (v : Option Sub) (s : State) : State := { s with ads := { s.ads with subs := Tbl.upd none s.ads.subs i v } }

/-- The state of the instances when a subscription begins. [DEDUCED, log 121] -/
def baseline (o : Obj) : List Path → State → Tbl SubInst × State
  | [], s => ([], s)
  | p :: r, s =>
    let ((_, v), s) := getObject .observer o p s
    let (t, s) := baseline o r s
    (Tbl.upd {} t (pathKey p) { val := v.getD 0, chg := changesAt s o p }, s)

/-- A SUBSCRIBE item at the device whose object it is. An interval above 60 s is refused. [DEDUCED, log 121] -/
def subscribeHere (n : Nat) (it : AdsItem) (s : State) : Status × State :=
  match objAt it.idx.val it.sub.val with
  | none => (.notFound, s)
  | some o =>
    if ¬ indexOpen s o.idx then (.notFound, s)
    else match subPaths s o it.path it.wild with
      | none => (.notFound, s)
      | some l =>
        if o.acc = .wo ∨ 60000000 < it.aux then (.refused, s)
        else if 4096 < l.length then (.resource, s)
        else match freeSub s with
          | none => (.resource, s)
          | some i =>
            let (t, s) := baseline o l s
            (.ok, setSub i (some { ses := n, code := o.code, path := it.path, wild := it.wild, every := max 10 it.aux, insts := t }) s)

/-- An item of another member's object, or of a forme-level object at a member that is not the lead, goes over Folio to the one that answers it,
as any request does (01 R28, 15 R424); the subscription is held there. [DEDUCED, log 121] -/
def itemThere (role : Role) (op : AdsOp) (f : AdsItem → State → Status × State) (it : AdsItem) (s : State) : Status × State :=
  match reachOf s (objAt it.idx.val it.sub.val) it.path with
  | .nowhere => (.notFound, s)
  | .noLead => (.formeBusy, s)
  | .there k =>
    let r := forwardTo k role op it it.x s
    (r.1.1, r.2)
  | .lead _ p | .here p => f { it with path := p } s

def subscribeItem (n : Nat) (role : Role) (it : AdsItem) (s : State) : Status × State := itemThere role .subscribe (subscribeHere n) it s

/-- An UNSUBSCRIBE item ends the session's subscription of that object and path. -/
def unsubscribeHere (n : Nat) (it : AdsItem) (s : State) : Status × State :=
  match s.ads.subs.find? fun e => e.2.any fun v =>
      v.ses == n && v.code == it.idx.val * 256 + it.sub.val && v.path == it.path && v.wild == it.wild with
  | some e => (.ok, setSub e.1 none s)
  | none => (.notFound, s)

def unsubscribeItem (n : Nat) (role : Role) (it : AdsItem) (s : State) : Status × State := itemThere role .unsubscribe (unsubscribeHere n) it s

/-- Items one after the other, each on its own. -/
def eachItem (f : AdsItem → State → Status × State) : List AdsItem → State → List AdsAns × State
  | [], s => ([], s)
  | it :: r, s =>
    let (st, s) := f it s
    let (l, s) := eachItem f r s
    (itemAns it st :: l, s)

/-- ADSUM_SUBSCRIBE: the oldest request is a SUBSCRIBE. -/
def execAdsumSubscribe (s : State) : Host.Outcome State Fault Refusal :=
  .next <| match takeRequest .subscribe s with
    | none => s
    | some (n, role, rid, items, s) =>
      if 64 < items.length then tooMany n rid s else
      let (l, s) := eachItem (subscribeItem n role) items s
      respond n rid l s

/-- ADSUM_UNSUBSCRIBE: the oldest request is an UNSUBSCRIBE. -/
def execAdsumUnsubscribe (s : State) : Host.Outcome State Fault Refusal :=
  .next <| match takeRequest .unsubscribe s with
    | none => s
    | some (n, role, rid, items, s) =>
      if 64 < items.length then tooMany n rid s else
      let (l, s) := eachItem (unsubscribeItem n role) items s
      respond n rid l s

/-- A subscription covers an instance path. -/
def covers (s : State) (v : Sub) (o : Obj) (p : Path) : Bool :=
  if v.wild then ((subPaths s o v.path true).getD []).contains p else v.path == p

/-- When the next event of an instance may go out: its interval is over, and the session has sent fewer than 0x1120.04 in the last second. [DEDUCED, log 121] -/
def eventAt (s : State) (e : Sess) (v : Sub) (i : SubInst) : Nat :=
  let t := match i.at_ with
    | some t => max s.clk.now (t + us v.every)
    | none => s.clk.now
  let recent := e.evAt.filter fun k => decide (t < k + sec 1)
  let lim := s.val o1120_04 []
  if recent.length < lim then t else recent.getD (recent.length - lim) t + sec 1

/-- ADSUM_EVENT_SEND: the instance `p` of subscription `i` has changed: an EVENT with its value goes out, once the interval and the session's
rate allow it. [DEDUCED, log 121] -/
def execAdsumEventSend (i : Fin 256) (p : Path) (s : State) : Host.Outcome State Fault Refusal :=
  .next <|
    match Tbl.look none s.ads.subs i.val with
    | none => s
    | some v =>
      match dictionary.find? fun o => o.code == v.code, sessOf s v.ses with
      | some o, some e =>
        if ¬ covers s v o p then s else
        let k := pathKey p
        let old := Tbl.look {} v.insts k
        let n := changesAt s o p
        let ((st, x), t) := getObject .observer o p s
        if (if o.acc = .rc then n = old.chg else x.getD 0 = old.val) then s
        else
          let at_ := eventAt t e v old
          let t := advanceTo at_ t
          let new : SubInst := { val := x.getD 0, chg := n, at_ := some at_ }
          let a : AdsAns := { idx := o.idx, sub := o.sub, path := p, st := st, ty := o.ty.num, len := (x.map (valueLen o p)).getD 0,
                              val := x.getD 0, aux := max 1 (n - old.chg) }
          let r : AdsResp := { mtype := 0x20, rid := e.evSeq, time := tbNs t % 2 ^ 64, items := [a] }
          let e' : Sess := { e with evSeq := (e.evSeq + 1) % 65536, evAt := (e.evAt.filter fun k => decide (at_ < k + sec 1)) ++ [at_] }
          emit (.adsum v.ses e.via r) (setSess v.ses (some e') (setSub i.val (some { v with insts := Tbl.upd {} v.insts k new }) t))
      | _, _ => s

/-- An answer waits for nothing more: its windows have drained, and its changes are acknowledged. -/
def deferReady (s : State) (d : Defer) : Bool := d.changes.isEmpty && d.wins.all fun k => !s.ads.late.contains k

/-- The STATUS that ends an access block's operation (12 Table HST-5). [DEDUCED, log 93] -/
def blockStatus : Status → Nat
  | .ok | .held => 2
  | .notFound | .notInView => 3
  | .busy | .formeBusy => 5
  | .typeLen | .resource => 6
  | .mixed => 7
  | .refused | .auth | .notDone => 4

/-- Answers that wait for nothing more go out. -/
def settleDefer (s : State) : State :=
  let ready := s.ads.defer.filter (deferReady s)
  let s := { s with ads := { s.ads with defer := s.ads.defer.filter fun d => !deferReady s d } }
  ready.foldl (fun s d => match d.ses with
    | some n => sendResp n d.resp s
    | none =>
      let c := Tbl.look 0 s.host.abCtl (1024 + d.eng)
      { s with host := { s.host with abCtl := Tbl.upd 0 s.host.abCtl (1024 + d.eng) (setBits c 35 32 (blockStatus d.resp.st)) } }) s

/-! ### Frames (R436-R438, R442) -/

/-- A frame or a record is discarded, and counted. [DEDUCED, log 114] -/
def discardFrame (s : State) : State := s.bump o1120_06 [] 1

/-- The endpoint hears a transport: MGMT_CLK and VSB are there, the port is enabled and the datagram is to its UDP port, the I3C port has its
address, the mailbox's management function exists. [DESIGN CHOICE, log 112] -/
def hears (s : State) (via : Via) (f : AdsFrame) : Bool :=
  s.pwr.vsb && (match via with
    | .mgmt k _ => !s.pwr.mgmtLost && s.flag o1100_07 [pMGMT k.val] && f.udp == s.val o1100_08 []
    | .i3c k _ => !s.pwr.mgmtLost && s.val o1110_02 [pI3C k.val] != 0
    | .doe n => if s.val oD000_03 [] = 2 then n.val == 0 else s.flag o4100_02 [pVCS n.val])

/-- A datagram of over 1,232 bytes, or a fragment. [DEDUCED, log 114] -/
def oversize (via : Via) (f : AdsFrame) : Bool :=
  match via with
  | .mgmt _ _ => f.frag || decide (1232 < f.bytes)
  | _ => false

/-- A record's sequence number is fresh: above the highest accepted less 64, and not seen. -/
def fresh (v : Sess) (seq : Nat) : Bool :=
  (match v.high with
    | some h => decide (h < seq + 64)
    | none => true) && !v.seen.contains seq

/-- A record is accepted: the session answers where it came from. [DEDUCED, log 114] -/
def acceptRecord (v : Sess) (via : Via) (seq now : Nat) : Sess :=
  let h := max seq (v.high.getD 0)
  { v with via := via, recAt := now, high := some h, seen := (seq :: v.seen).filter fun k => decide (h < k + 64) }

/-- A message waits for its execution. [DESIGN CHOICE, log 111] -/
def enqueueMsg (m : InMsg) (s : State) : State := { s with ads := { s.ads with inbox := s.ads.inbox ++ [m] } }

/-- The requests of a session that are not answered yet. -/
def outstanding (s : State) (n : Nat) : List Nat :=
  (s.ads.inbox.filterMap fun m => match m.ses, m.msg with
    | some k, .adsum _ rid _ => if k = n then some rid.val else none
    | _, _ => none)
  ++ (s.ads.defer.filter fun d => d.ses == some n).map (·.resp.rid)

/-- A request in a session: one answered before gets its response again, one under way is discarded, and a ninth is answered BUSY. [DEDUCED, log 115] -/
def takeAdsum (n : Nat) (via : Via) (op : AdsOp) (rid : Fin 65536) (items : List AdsItem) (v : Sess) (s : State) : State :=
  let s := setSess n (some { v with reqAt := s.clk.now }) s
  match v.answered.find? fun e => e.1 == rid.val with
  | some e => emit (.adsum n via e.2) s
  | none =>
    if (outstanding s n).contains rid.val then s
    else if 8 ≤ (outstanding s n).length then sendResp n { st := .busy, rid := rid.val, time := tbNs s % 2 ^ 64 } s
    else enqueueMsg { via := via, ses := some n, msg := .adsum op rid items } s

/-- A secured record of an open session. Before FINISH a session takes only that. -/
def takeRecord (n : Nat) (via : Via) (f : AdsFrame) (v : Sess) (s : State) : State :=
  let finish : Bool := match f.msg with
    | .finish _ _ => true
    | _ => false
  if ¬ f.tag ∨ ¬ fresh v f.seq ∨ v.ready = finish then discardFrame s
  else
    let v := acceptRecord v via f.seq s.clk.now
    let s := setSess n (some v) s
    match f.msg with
    | .adsum op rid items => takeAdsum n via op rid items v s
    | .other => s
    | m => enqueueMsg { via := via, ses := some n, msg := m } s

/-- ADSUM_FRAME_RECEIVE: a frame arrives. [DESIGN CHOICE, log 14; DEDUCED, log 114] -/
def execAdsumFrameReceive (via : Via) (f : AdsFrame) (s : State) : Host.Outcome State Fault Refusal :=
  .next <|
    if ¬ hears s via f then s
    else if oversize via f ∨ f.magic ≠ 0xAD5F ∨ f.ver ≠ 1 then discardFrame s
    else if f.ftype = 1 then
      (match f.msg with
        | .getMeasurements => enqueueMsg { via := via, msg := f.msg } s
        | .keyExchange _ => enqueueMsg { via := via, msg := f.msg } s
        | _ => emit (.spdm via 0 none []) s)
    else if f.ftype = 2 then
      (match sessOf s f.ses with
        | some v => takeRecord f.ses via f v s
        | none => discardFrame s)
    else discardFrame s

/-! ### SPDM (R440-R442) -/

/-- SPDM_GET_MEASUREMENTS: the six boot measurements. -/
def execSpdmGetMeasurements (s : State) : Host.Outcome State Fault Refusal :=
  .next <| match takeMsg (fun m => m.msg == .getMeasurements) s with
    | none => s
    | some (m, s) => emit (.spdm m.via 2 m.ses ((List.range 6).map fun k => Tbl.look 0 s.boot.meas (k + 1))) s

/-- The lowest session that is not open. [DESIGN CHOICE, log 112] -/
def freeSess (s : State) : Option Nat := (List.range 32).find? fun n => (sessOf s n).isNone

/-- SPDM_KEY_EXCHANGE: a session begins, with mutual authentication only; a 33rd is refused with an SPDM busy error. [DESIGN CHOICE, log 112; DEDUCED, log 113] -/
def execSpdmKeyExchange (s : State) : Host.Outcome State Fault Refusal :=
  .next <| match takeMsg (fun m => match m.msg with
      | .keyExchange _ => true
      | _ => false) s with
    | none => s
    | some (m, s) =>
      match freeSess s with
      | none => emit (.spdm m.via 1 none []) s
      | some n =>
        if m.msg == .keyExchange true then
          emit (.spdm m.via 3 (some n) []) (setSess n (some { via := m.via, recAt := s.clk.now, reqAt := s.clk.now }) s)
        else emit (.spdm m.via 0 none []) s

/-- The role-table entry of a key, and its role. [DEDUCED, log 113] -/
def entryOf (s : State) (key : Nat) : Option (Nat × Nat) :=
  ((List.range 16).find? fun k => s.val o1130_01 [pRK k] == key && s.val o1130_02 [pRK k] != 0).map fun k => (k, s.val o1130_02 [pRK k])

/-- SPDM_FINISH: the session takes the role of the entry that matches the requester's key; without one it ends with an SPDM error. [DESIGN CHOICE, log 14; DEDUCED, log 113] -/
def execSpdmFinish (s : State) : Host.Outcome State Fault Refusal :=
  .next <| match takeMsg (fun m => match m.msg with
      | .finish _ _ => true
      | _ => false) s with
    | some (⟨via, some n, .finish key ok⟩, s) =>
      (match sessOf s n, if ok then entryOf s key else none with
        | some v, some (k, r) =>
          emit (.spdm via 4 (some n) []) (setSess n (some { v with ready := true, role := r, rk := k, high := none, seen := [] }) s)
        | _, _ => emit (.spdm via 0 (some n) []) (endSession n s))
    | _ => s

/-- SPDM_HEARTBEAT: the record itself has kept the session alive; it is acknowledged. -/
def execSpdmHeartbeat (s : State) : Host.Outcome State Fault Refusal :=
  .next <| match takeMsg (fun m => m.msg == .heartbeat) s with
    | none => s
    | some (m, s) => emit (.spdm m.via 5 m.ses []) s

/-- SPDM_KEY_UPDATE: the session takes its next keys. [DEDUCED, log 113] -/
def execSpdmKeyUpdate (s : State) : Host.Outcome State Fault Refusal :=
  .next <| match takeMsg (fun m => m.msg == .keyUpdate) s with
    | none => s
    | some (m, s) =>
      let s := match m.ses.bind (sessOf s) with
        | some v => setSess (m.ses.getD 0) (some { v with keys := v.keys + 1 }) s
        | none => s
      emit (.spdm m.via 6 m.ses []) s

/-- SPDM_END_SESSION. -/
def execSpdmEndSession (s : State) : Host.Outcome State Fault Refusal :=
  .next <| match takeMsg (fun m => m.msg == .endSession) s with
    | none => s
    | some (m, s) => emit (.spdm m.via 7 m.ses []) (endSession (m.ses.getD 32) s)

/-- SESSION_IDLE_TIMEOUT: twice the heartbeat period has passed without a record, or the idle timeout without a request. -/
def execSessionIdleTimeout (n : Fin 32) (s : State) : Host.Outcome State Fault Refusal :=
  .next <| match sessOf s n.val with
    | none => s
    | some v =>
      endSession n.val (advanceTo (min (v.recAt + sec (2 * s.val o1120_09 [])) (v.reqAt + sec (s.val o1120_01 []))) s)

/-- SESSION_END. -/
def execSessionEnd (role : Role) (n : Fin 32) (v : Nat) (s : State) : Host.Outcome State Fault Refusal :=
  .next (answered (managed role o1120_08 [pSES n.val] (sessionEnd n.val v) s))

/-! ### Durable values and I3C (R428, R438) -/

/-- P_VALUE_DURABLE: the oldest value set is durable; none is begun while VIN_WARN_N is asserted. [DEDUCED, log 71] -/
def execPValueDurable (s : State) : Host.Outcome State Fault Refusal :=
  .next (if vinWarn s then s else { s with store := { s.store with pq := s.store.pq.drop 1 } })

/-- I3C_DYNAMIC_ADDRESS: ENTDAA gives a port without an address one; SETDASA gives one to the port whose static address it names. [DEDUCED, log 124] -/
def execI3cDynamicAddress (k : Fin 2) (st : Option (Fin 128)) (a : Fin 128) (s : State) : Host.Outcome State Fault Refusal :=
  .next <|
    let own := s.val o1110_01 [pI3C k.val]
    let takes : Bool := match st with
      | none => s.val o1110_02 [pI3C k.val] == 0
      | some x => x.val != 0 && x.val == own
    if s.pwr.vsb ∧ takes = true then s.put o1110_02 [pI3C k.val] a.val else s

/-! ### A plain write (00 R7) -/

/-- A plain write ends: the answer to one that turned a window off comes with the window's end, to one that waits for a forme-level change with
that change. -/
def settleWrite (s : State) (r : Status × State) : State :=
  if r.1 = .held then
    { r.2 with forme := { r.2.forme with
        waits := r.2.forme.waits.map fun w => if w.id + 1 = r.2.forme.nextChange then { w with who := .command } else w } }
  else if (r.2.ads.late.filter fun k => !s.ads.late.contains k).isEmpty then answered r
  else { r.2 with ads := { r.2.ads with late := s.ads.late } }

/-- REGISTER_WRITE: an object is written by a role; `sub` 0xFF, a descriptor, is read-only. The answer to the write that turns an Imposition
window off comes when its accesses are over. -/
def execRegisterWrite (role : Role) (idx : Fin 65536) (sub : Fin 256) (p : Path) (v : Nat) (x : Extra) (s : State) :
    Host.Outcome State Fault Refusal :=
  .next <|
    match objAt idx.val sub.val with
    | none => answer (if sub.val = 255 ∧ (objsAt idx.val).isEmpty = false then .refused else .notFound) none s
    | some o =>
      match reachOf s (some o) p with
      | .nowhere => answer .notFound none s
      | .noLead => answer .formeBusy none s
      | .there k =>
        let r := forwardTo k role .set (codeItem o.code p (some v)) x s
        answer r.1.1 none r.2
      | .here p =>
        settleWrite s (setObject role o p v (byteLen v) x s)
      | .lead k p => settleWrite s (leadWrite role k o p v (byteLen v) x s)

end Sys2Proof.Machine
end

