-- ==== Sys2Proof/Machine/Imprint.lean ====
section
/-!
DEFINITION. The Imprint table of a VCS's management function and of each VF (12 R350, Tables HST-6 to HST-8).
-/
namespace Sys2Proof.Machine

/-! ### The instances of an object in a view, in runs of consecutive numbers -/

/-- The paths of one form. -/
def formPaths : List (Nat × Nat × Nat) → List Path
  | [] => [[]]
  | (k, lo, hi) :: r => (List.range (hi + 1 - lo)).flatMap fun j => (formPaths r).map ((k, lo + j) :: ·)

/-- The number of a path's last element. -/
def lastNum (p : Path) : Nat := (p.getLast?.map (·.2)).getD 0

/-- One path follows another: the last element's number is one more. -/
def follows (a b : Path) : Bool := !a.isEmpty && a.dropLast == b.dropLast && lastNum b == lastNum a + 1

/-- Runs of paths that follow each other: the first, and how many. -/
def pathRuns : List Path → List (Path × Nat)
  | [] => []
  | p :: r =>
    match pathRuns r with
    | (q, k) :: t => if follows p q then (p, k + 1) :: t else (p, 1) :: (q, k) :: t
    | [] => [(p, 1)]

/-- Runs of rings with consecutive numbers: the first, and how many. -/
def ringRuns : List Nat → List (Nat × Nat)
  | [] => []
  | p :: r =>
    match ringRuns r with
    | (q, k) :: t => if q = p + 1 then (p, k + 1) :: t else (p, 1) :: (q, k) :: t
    | [] => [(p, 1)]

/-! ### Entries -/

/-- An entry (Table HST-7). -/
def imprintEntry (ty inst a b : Nat) : Nat := ty * 2 ^ 120 + inst % 2 ^ 16 * 2 ^ 104 + a % 2 ^ 40 * 2 ^ 64 + b % 2 ^ 64

/-- Feature word 0 of a VCS. -/
def featureWord (s : State) (n : Nat) : Nat :=
  let held := (List.range 16).filter fun d => (List.range 64).any fun k => slotOfVcs s d k n
  1 + b2n (s.val o4400_01 [pVCS n] != 0) * 2 + b2n (s.val o4400_02 [pVCS n] != 0) * 4 + b2n (!held.isEmpty) * 8
    + b2n (s.flag o5230_01 [pVCS n]) * 16 + b2n (held.any fun d => s.val o5230_05 [pDOM d] != 0xFFF) * 32
    + b2n (s.flag o4100_04 [pVCS n]) * 64 + 128

/-- The bytes from one instance to the next in the direct object region: whole reads of 4 or 8 bytes. [DESIGN CHOICE, log 190] -/
def stride (o : Obj) (p : Path) : Nat :=
  let k := valueLen o p o.hi
  if k ≤ 4 then 4 else (k + 7) / 8 * 8

/-- The entry of a run of instances of an object: where it lies in the region the manual leaves to the device. [DESIGN CHOICE, log 190] -/
def objMapEntry (o : Obj) (r : Path × Nat) : Nat :=
  let at_ := 0x100000 + Config.objMapOffset o.code (pathKey r.1) % (30 * 2 ^ 17) * 8
  imprintEntry 0x02 0 (o.idx * 2 ^ 24 + o.sub * 2 ^ 16 + r.2 % 2 ^ 16)
    (at_ * 2 ^ 32 + stride o r.1 % 2 ^ 16 * 2 ^ 16 + lastNum r.1 % 2 ^ 16)

/-- Every RO object of the view of a VCS (R347, R348). -/
def objMaps (s : State) (n : Nat) : List Nat :=
  (dictionary.filter fun o => o.acc == .ro).flatMap fun o =>
    (pathRuns ((o.inst.flatMap formPaths).filter (inView s n o))).map (objMapEntry o)

/-- The rings of a function, as runs with the place of each run's first ring among them: the doorbells of the management function lie by ring
number (BAR2), those of a VF by its own count (VF BAR2). -/
def ringEntries (s : State) (n k : Nat) (vf : Bool) : List Nat :=
  let rs := ringsOf s (initOfFn s (n * 1024 + k))
  (ringRuns rs).map fun r =>
    imprintEntry 0x03 k (r.1 * 2 ^ 16 + r.2) (256 * (if vf then rs.idxOf r.1 else r.1))

/-- The windows of a VCS. -/
def windowsOf (s : State) (n : Nat) : List Nat :=
  ((s.listed o4410_01).filter fun e => winOkind e.2 == 1 && winOnum e.2 == n).map fun e => elemAt e.1 0

def windowOf (s : State) (k : Nat) : Nat :=
  let w := winOf s k
  imprintEntry 0x04 k (winSize w + b2n (winRead w) * 2 ^ 7 + b2n (winWrite w) * 2 ^ 8) (winBase w)

/-- The entries of the table, END last; no more than 65,536 bytes hold. [DESIGN CHOICE, log 190] -/
def imprintEntries (s : State) (n : Nat) (vf : Option Nat) : List Nat :=
  (match vf with
    | some k => ringEntries s n k true
    | none => imprintEntry 0x01 0 0 (featureWord s n) :: (List.range 257).flatMap (fun k => ringEntries s n k false)
        ++ (windowsOf s n).map (windowOf s) ++ objMaps s n).take 4093 ++ [imprintEntry 0xFF 0 0 0]

/-- The table as one number, its first byte lowest (Table HST-6). The table of a VF has the GEN of its VCS. [DESIGN CHOICE, log 190] -/
def imprintTable (s : State) (n : Nat) (vf : Option Nat) : Nat :=
  let es := imprintEntries s n vf
  let len := 32 + 16 * es.length
  let rings := match vf with
    | some k => (ringsOf s (initOfFn s (n * 1024 + k))).length
    | none => ((List.range 257).map fun k => (ringsOf s (initOfFn s (n * 1024 + k))).length).sum
  let w := 0x494D5052 * 2 ^ 224 + 1 * 2 ^ 208 + es.length * 2 ^ 192 + len * 2 ^ 160 + s.val o4400_03 [pVCS n] * 2 ^ 128
    + (if vf.isSome then 0xFF else n) * 2 ^ 120 + 0xB1 * 2 ^ 112 + (if vf.isSome then 64 else 2048) * 2 ^ 96
    + (if vf.isSome then 0 else s.val o4400_02 [pVCS n]) * 2 ^ 80 + rings % 2 ^ 16 * 2 ^ 64
    + (if vf.isSome then 0 else (windowsOf s n).length) * 2 ^ 48
    + packed 128 es * 2 ^ 256
  w + (2 ^ 32 - 1 - crcBytes 1 len (2 ^ 32 - 1) w)

end Sys2Proof.Machine
end

