-- ==== Sys2Proof/Machine/HostAccess.lean ====
section
/-!
DEFINITION. In-band access to the dictionary: access blocks of hosts and of engines (12 R349, 14 R413, 15 R439) and the direct object
region (12 R348).
-/
namespace Sys2Proof.Machine

/-- Where a block's control word, path and data lie in the tables of `HostView`: 16·VCS + block, engines from 1,024. -/
def blockKey : AccessBlock → Nat
  | .host n k => 16 * n.val + k.val
  | .engine c => 1024 + c.val

/-- The role a block acts in. In proof mode a host's acts in that of an open DOE session of MANAGER or OWNER on its management function (18
Table BOT-5). -/
def blockRole (s : State) : AccessBlock → Role
  | .engine c => .engine c
  | .host n _ =>
    if s.val oD000_03 [] ≠ 2 then .host n
    else match s.ads.sess.find? fun e => e.2.any fun v => v.ready && decide (2 ≤ v.role) && v.via == .doe n with
      | some (_, some v) => roleOfSess v
      | _ => .host n

/-- A block is there: its VCS is enabled, or the device is in proof mode; the management function is in D0; in-band access
has not ended with the links in stop-press (16 R468). -/
def blockThere (s : State) : AccessBlock → Bool
  | .engine _ => true
  | .host n _ => (s.flag o4100_02 [pVCS n.val] || s.val oD000_03 [] == 2) && !inD3 s (n.val * 1024)
    && !(inStopPress s && s.prf.spDone)

/-- A control word. -/
def ctlWord (idx sub op st len : Nat) : Nat := idx * 2 ^ 48 + sub * 2 ^ 40 + op * 2 ^ 36 + st * 2 ^ 32 + len % 2 ^ 16 * 2 ^ 16

def setBlock (b : AccessBlock) (ctl : Nat) (p : Path) (data : Nat) (s : State) : State :=
  let k := blockKey b
  { s with host := { s.host with
      abCtl := Tbl.upd 0 s.host.abCtl k ctl
      abPath := Tbl.upd [] s.host.abPath k p
      abData := Tbl.upd 0 s.host.abData k data } }

/-- A control-word write is taken: the block is there and not busy. -/
def blockTakes (s : State) (b : AccessBlock) : Bool := blockThere s b && bits (Tbl.look 0 s.host.abCtl (blockKey b)) 35 32 != 1

/-- What a block reads: a status, the bytes and their length; another member's objects are read over Folio. [DEDUCED, log 93] -/
def blockRead (role : Role) (idx sub : Nat) (p : Path) (x : Extra) (s : State) : (Status × Nat × Nat) × State :=
  let o := objAt idx sub
  if 8 < p.length then ((.typeLen, 0, 0), s)
  else match reachOf s o p, o with
    | .nowhere, _ => ((.notFound, 0, 0), s)
    | .noLead, _ => ((.formeBusy, 0, 0), s)
    | .there k, _ =>
      let ((st, v), s) := forwardTo k role .get (codeItem (idx * 256 + sub) p none) x s
      ((st, v.getD 0, match st, o with
        | .ok, some o => valueLen o p (v.getD 0)
        | _, _ => 0), s)
    | .lead _ p, none | .here p, none =>
      if sub = 255 ∧ p.isEmpty ∧ (objsAt idx).isEmpty = false ∧ indexOpen s idx = true then
        (match role with
          | .host _ => if idx / 4096 = 1 then ((.ok, descriptor idx), s) else ((.notInView, 0, 0), s)
          | .engine e =>
            if bit (s.val o7060_01 [pC e.val]) (idx / 4096) then ((.ok, descriptor idx), s) else ((.notInView, 0, 0), s)
          | _ => ((.ok, descriptor idx), s))
      else ((.notFound, 0, 0), s)
    | .lead _ p, some o | .here p, some o =>
      match getObject role o p s with
      | ((.ok, some v), t) => if 1024 < valueLen o p v then ((.typeLen, 0, 0), s) else ((.ok, v, valueLen o p v), t)
      | ((st, _), t) => ((st, 0, 0), t)

/-- OP GET starts at a block that is not busy. -/
def blockGet (b : AccessBlock) (idx sub : Nat) (p : Path) (x : Extra) (s : State) : State :=
  if ¬ blockTakes s b then s else
  let ((st, v, len), s) := blockRead (blockRole s b) idx sub p x s
  let ok := st == .ok
  setBlock b (ctlWord idx sub 1 (blockStatus st) (if ok then len else 0)) p
    (if ok then v % 256 ^ len else Tbl.look 0 s.host.abData (blockKey b)) s

/-- ACCESS_BLOCK_GET: OP GET is written to a block's control word, with the path in the block. -/
def execAccessBlockGet (b : AccessBlock) (idx : Fin 65536) (sub : Fin 256) (p : Path) (x : Extra) (s : State) :
    Host.Outcome State Fault Refusal :=
  .next (blockGet b idx.val sub.val p x s)

/-- What a block writes: a value of `len` bytes. -/
def blockWrite (role : Role) (idx sub : Nat) (p : Path) (data len : Nat) (x : Extra) (s : State) : Status × State :=
  match objAt idx sub with
  | none => (if sub = 255 ∧ (objsAt idx).isEmpty = false then .refused else .notFound, s)
  | some o =>
    if 8 < p.length ∨ 1024 < len then (.typeLen, s)
    else match reachOf s (some o) p with
      | .nowhere => (.notFound, s)
      | .noLead => (.formeBusy, s)
      | .there k =>
        let r := forwardTo k role .set (codeItem o.code p (some data)) x s
        (r.1.1, r.2)
      | .lead k p => if fitsType o p (data % 256 ^ len) len then leadWrite role k o p (data % 256 ^ len) len x s else (.typeLen, s)
      | .here p => if fitsType o p (data % 256 ^ len) len then setObject role o p (data % 256 ^ len) len x s else (.typeLen, s)

/-- A host's SET that is not accepted ends with STATUS 4 whatever the reason, but for BUSY and a type error of an accepted object (12
R349). [DEDUCED, log 93] -/
def setStatus (role : Role) (o : Option Obj) (st : Status) : Status :=
  match role with
  | .host _ => if o.any (fun o => o.code == 0x800006 || o.code == 0x212001) = true ∧ (st = .ok ∨ st = .busy ∨ st = .typeLen) then st else .refused
  | _ => st

/-- OP SET starts at a block that is not busy. The write that turns a window off keeps the block busy until the window's accesses are
over; that of a forme-level change until it is acknowledged. -/
def blockSet (b : AccessBlock) (idx sub : Nat) (p : Path) (len data : Nat) (x : Extra) (s : State) : State :=
  if ¬ blockTakes s b then s else
  let role := blockRole s b
  let r := blockWrite role idx sub p data len x s
  let wins := r.2.ads.late.filter fun k => !s.ads.late.contains k
  let changes := if r.1 = .held then [(r.2.forme.nextChange - 1, 0)] else []
  let st := if wins.isEmpty ∧ changes.isEmpty = true then blockStatus (setStatus role (objAt idx sub) r.1) else 1
  let s := setBlock b (ctlWord idx sub 2 st len) p (data % 256 ^ len) r.2
  match b with
  | .engine c =>
    if wins.isEmpty ∧ changes.isEmpty = true then s else
    let d : Defer := { ses := none, eng := c.val, resp := { rid := 0, time := 0 }, wins := wins, changes := changes }
    { s with ads := { s.ads with defer := s.ads.defer ++ [d] } }
  | _ => s

/-- ACCESS_BLOCK_SET: OP SET is written to a block's control word, with the path and the data in the block. -/
def execAccessBlockSet (b : AccessBlock) (idx : Fin 65536) (sub : Fin 256) (p : Path) (len : Fin 65536) (data : Nat) (x : Extra) (s : State) :
    Host.Outcome State Fault Refusal :=
  .next (blockSet b idx.val sub.val p len.val data x s)

/-- What a read of BAR0 gives, and the state after it: only an RO object of the view is mapped; every other offset of the direct object
region reads zero. A VF has its own Imprint table (R350). -/
def bar0Value (n : Nat) (r : BarRead) (s : State) : Nat × State :=
  match r with
  | .nothing => (0, s)
  | .imprint none off => (imprintTable s n none / 256 ^ off.val, s)
  | .imprint (some k) off => (if hasVf s n (k.val + 1) then imprintTable s n (some (k.val + 1)) / 256 ^ off.val else 0, s)
  | .object i k p off =>
    match objAt i.val k.val with
    | none => (0, s)
    | some o =>
      if o.acc ≠ .ro then (0, s)
      else match getObject (.host (Fin.ofNat 64 n)) o p s with
        | ((.ok, some v), s) => (v / 256 ^ off.val, s)
        | _ => (0, s)

/-- DIRECT_OBJECT_READ: an aligned read of 4 or 8 bytes of BAR0 of VCS `n`, of the direct object region or the Imprint table; in D3hot it
completes with Unsupported Request (R369). -/
def execDirectObjectRead (n : Fin 64) (r : BarRead) (wide : Bool) (s : State) : Host.Outcome State Fault Refusal :=
  .next <|
    if inD3 s (n.val * 1024) then answer .refused none s
    else if ¬ blockThere s (.host n 0) then s else
    let (v, s) := bar0Value n.val r s
    answer .ok (some (v % (if wide then 2 ^ 64 else 2 ^ 32))) s

end Sys2Proof.Machine
end

