-- ==== Sys2Proof/Machine/Engine.lean ====
section
/-!
DEFINITION. The accesses of the engines (14 R396-R411, R414): their decode, the units they reach, the store buffer and the merge buffer,
barriers, reservations and holds.
-/
namespace Sys2Proof.Machine

/-! ### Decode (R397, R399, R402, R409) -/

/-- The type that the engine's region entries give an address, none where no valid entry covers it. -/
def regionOf (s : State) (c a : Nat) : Option Nat :=
  (((List.range 16).map fun r => s.val o7010_01 [pC c, pRT r]).find? fun w =>
    regionValid w && decide (regionBase w ≤ a) && decide (a < regionBase w + regionSize w)).map regionType

/-- The region type of an access: an address that no entry covers is Strict, own local memory Normal. -/
def accessType (s : State) (c a : Nat) : Nat :=
  if a < 0x18000 then (regionOf s c a).getD 0 else (regionOf s c (globalAddr c a)).getD 2

/-- The rows that only Strict accesses reach (Table CMP-2). -/
def strictOnly : Place → Bool
  | .ctl _ _ | .page _ _ | .cfg _ _ | .adsum _ _ => true
  | _ => false

/-- The memories on which LR, SC and AMO are performed. -/
def atomPlace : Place → Bool
  | .shared _ _ | .sram _ => true
  | _ => false

def isAtom : EKind → Bool
  | .lr | .sc _ | .amo _ _ => true
  | _ => false

/-- What the decode of an access gives: a trap, own local memory, or a place on the network with the region type. -/
inductive EDecode where
  | trapped (cause : Nat)
  | own (ga : Nat)
  | onNet (ga : Nat) (pl : Place) (ty : Nat)
  deriving DecidableEq, Repr

/-- The decode of an access of engine `c`. [DEDUCED, log 102] -/
def decodeAcc (s : State) (c : Nat) (x : EAcc) : EDecode :=
  let f := faultCause x.kind
  let ga := globalAddr c x.addr
  let ty := accessType s c x.addr
  if 2 ^ 48 ≤ x.addr then .trapped f
  else match placeOf ga with
    | none => .trapped f
    | some pl =>
      if x.addr % x.len ≠ 0 ∧ (isAtom x.kind = true ∨ ty ≠ 0 ∨ 64 < x.addr % 64 + x.len) then .trapped (f - 1)
      else if strictOnly pl = true ∧ ty < 2 then .trapped f
      else if isAtom x.kind = true ∧ (x.addr < 0x18000 ∨ atomPlace pl = false ∨ 2 ≤ ty) then .trapped f
      else if x.addr < 0x18000 then (if 2 ≤ ty then .trapped f else .own ga)
      else .onNet ga pl ty

/-! ### The cluster control block (Table CMP-3) -/

/-- A word with `len` bytes from byte `off` on replaced. -/
def putBytes (w off len data : Nat) : Nat := setBits w (8 * (off + len) - 1) (8 * off) data

/-- The aligned 8-byte word of a control block that holds the register at `off`, with what a load of it does. [DEDUCED, log 102] -/
def ctlRead (k off : Nat) (s : State) : Nat × State :=
  let w := off / 8 * 8
  if w < 0x40 then (b2n (engOf s (16 * k + w / 4)).msip + b2n (engOf s (16 * k + w / 4 + 1)).msip * 2 ^ 32, s)
  else if 0x100 ≤ w ∧ w < 0x180 then ((engOf s (16 * k + (w - 0x100) / 8)).mtimecmp, s)
  else if w = 0x200 then (mtimeOf s, s)
  else if 0x1000 ≤ w ∧ w < 0x9000 then
    let c := 16 * k + (w - 0x1000) / 0x800
    let r := (w - 0x1000) % 0x800
    if r < 0x100 then ((engOf s c).pend >>> (8 * r) % 2 ^ 64, s)
    else if r < 0x200 then ((engOf s c).enab >>> (8 * (r - 0x100)) % 2 ^ 64, s)
    else if r = 0x200 ∧ off % 8 < 4 then claim c s else (0, s)
  else if 0x9000 ≤ w ∧ w < 0xA000 then
    let n := (w - 0x9000) / 0x80
    let r := (w - 0x9000) % 0x80
    if r = 0x08 then trayPop k n s
    else if r = 0x10 then (trayStatus (trayOf s k n), s)
    else if r = 0x18 then ((trayOf s k n).ctl, s) else (0, s)
  else (0, s)

/-- A store to a control block. [DEDUCED, log 102] -/
def ctlWrite (k off len data : Nat) (s : State) : State :=
  let w := off / 8 * 8
  if w < 0x40 then
    let s := if off % 4 = 0 then msipWrite (16 * k + off / 4) data s else s
    if len = 8 then msipWrite (16 * k + off / 4 + 1) (data / 2 ^ 32) s else s
  else if 0x100 ≤ w ∧ w < 0x180 then
    let c := 16 * k + (w - 0x100) / 8
    setEng c { engOf s c with mtimecmp := putBytes (engOf s c).mtimecmp (off % 8) len data } s
  else if 0x1000 ≤ w ∧ w < 0x9000 then
    let c := 16 * k + (w - 0x1000) / 0x800
    let r := (off - 0x1000) % 0x800
    if 0x100 ≤ r ∧ r < 0x200 then setEng c { engOf s c with enab := putBytes (engOf s c).enab (r - 0x100) len data } s else s
  else if 0x9000 ≤ w ∧ w < 0xA000 then
    let n := (w - 0x9000) / 0x80
    let r := (w - 0x9000) % 0x80
    let v := putBytes 0 (off % 8) len data
    let t := trayOf s k n
    if r = 0 then trayPush k n v s
    else if r = 0x10 then
      let t := { t with undr := t.undr && !bit v 11, ovr := t.ovr && !bit v 12 }
      { s with net := { s.net with tray := Tbl.upd {} s.net.tray (32 * k + n) t } }
    else if r = 0x18 then trayControl k n (putBytes t.ctl (off % 8) len data) s else s
  else s

/-! ### Doorbell pages and Adsum access blocks as engines reach them (13 Table PLT-2, 12 Table HST-5) -/

/-- The aligned 8-byte word of a doorbell page. -/
def pageRead (s : State) (r off : Nat) : Nat :=
  let v := ringOf s r
  if ringDark s r then 0 else
  match off / 8 with
  | 0 => v.sqHead
  | 1 => v.cqTail
  | 3 => ringStatus v
  | 4 => v.sqBase
  | 5 => v.cqBase
  | 6 => v.cfg
  | _ => 0

/-- A store to a doorbell page. -/
def pageWrite (r off len data : Nat) (s : State) : State :=
  if len < 4 then s.bump o8030_01 [] 1 else if ringDark s r then s else
  let v := ringOf s r
  match off / 8 with
  | 0 => if off % 8 = 0 then sqTailWrite r data s else s
  | 1 => if off % 8 = 0 then cqHeadWrite r data s else s
  | 2 => if off % 8 = 0 then ringControl r data s else s
  | 4 => ringBase r false (putBytes v.sqBase (off % 8) len data) s
  | 5 => ringBase r true (putBytes v.cqBase (off % 8) len data) s
  | 6 => ringConfig r (putBytes v.cfg (off % 8) len data) s
  | _ => s

/-- A path in binary: 32 bits an element, KIND in [31:24], NUMBER in [23:8] (15 R423). -/
def pathBits : Path → Nat
  | [] => 0
  | e :: r => e.1 % 256 * 2 ^ 24 + e.2 % 2 ^ 16 * 2 ^ 8 + 2 ^ 32 * pathBits r

/-- `n` elements of a binary path; elements of KIND 0 at the end are none. -/
def pathOfBits : Nat → Nat → Path
  | 0, _ => []
  | n + 1, v =>
    match bits v 31 24, pathOfBits n (v / 2 ^ 32) with
    | 0, [] => []
    | k, r => (k, bits v 23 8) :: r

/-- The bytes of an access block. -/
def blockBytes (s : State) (c off : Nat) : Nat :=
  let k := blockKey (.engine (Fin.ofNat 192 c))
  if off < 8 then Tbl.look 0 s.host.abCtl k / 256 ^ off
  else if off < 40 then pathBits (Tbl.look [] s.host.abPath k) / 256 ^ (off - 8)
  else if 0x400 ≤ off ∧ off < 0x800 then Tbl.look 0 s.host.abData k / 256 ^ (off - 0x400) else 0

/-- A store to an access block; one that writes a non-zero OP starts the operation, and one while the block is busy is discarded. A reserved OP
is refused whole, and STATUS says so (00 R7, 12 Table HST-5). -/
def blockStore (c off len data : Nat) (s : State) : State :=
  let b := AccessBlock.engine (Fin.ofNat 192 c)
  let k := blockKey b
  let ctl := Tbl.look 0 s.host.abCtl k
  let p := Tbl.look [] s.host.abPath k
  let d := Tbl.look 0 s.host.abData k
  if off < 8 then
    if bits ctl 35 32 = 1 then s else
    let w := setBits (setBits (putBytes ctl off len data) 35 32 (bits ctl 35 32)) 15 0 0
    let op := if off ≤ 4 ∧ 4 < off + len then bits w 39 36 else 0
    let path := p.takeWhile fun e => e.1 != 0
    if op = 1 then blockGet b (bits w 63 48) (bits w 47 40) path {} s
    else if op = 2 then blockSet b (bits w 63 48) (bits w 47 40) path (bits w 31 16) d {} s
    else if 2 < op then setBlock b (setBits ctl 35 32 4) p d s
    else setBlock b w p d s
  else if off < 40 then setBlock b ctl (pathOfBits 8 (putBytes (pathBits p) (off - 8) len data)) d s
  else if 0x400 ≤ off ∧ off < 0x800 then setBlock b ctl p (putBytes d (off - 0x400) len data) s
  else s

/-! ### The targets -/

/-- A target serves a read; none where it refuses it. What a configuration space holds is not an interface: a free value. [DEDUCED, log 102; DESIGN CHOICE, log 108] -/
def placeRead (ga : Nat) (pl : Place) (len : Nat) (s : State) : Option (Nat × State) :=
  match pl with
  | .loc c _ => if engState s c = 0 ∨ engState s c = 3 then some (spaceRead ga len s) else none
  | .shared _ _ | .sram _ | .rom _ => some (spaceRead ga len s)
  | .ctl k off =>
    let (v, s) := ctlRead k off s
    some (v / 256 ^ (off % 8) % 256 ^ len, s)
  | .page r off => some (pageRead s r off / 256 ^ (off % 8) % 256 ^ len, s)
  | .cfg _ _ => some ((freshValue s).1 % 256 ^ len, (freshValue s).2)
  | .adsum c off => some (blockBytes s c off % 256 ^ len, s)
  | .aper _ => none

/-- A target takes a write; none where it refuses it. [DESIGN CHOICE, log 108] -/
def placeWrite (ga : Nat) (pl : Place) (len data : Nat) (s : State) : Option State :=
  match pl with
  | .loc c _ => if engState s c = 0 ∨ engState s c = 3 then some (spaceWrite ga len data s) else none
  | .shared _ _ | .sram _ => some (spaceWrite ga len data s)
  | .ctl k off => some (ctlWrite k off len data s)
  | .page r off => some (pageWrite r off len data s)
  | .cfg _ _ => some s
  | .adsum c off => some (blockStore c off len data s)
  | .rom _ | .aper _ => none

/-- The check at an engine's network entry (09 R249); an access through the aperture is checked at the Imposition path. -/
def entryCheck (c a len : Nat) (write : Bool) (s : State) : Bool × State :=
  if a / 2 ^ 44 = 1 then (true, s) else
  let r := friskAsk (ckEntry (c / 16)) (0x1840 + c) none 1 a len false s
  match r.1 with
  | .allow => (true, r.2)
  | .refuse k pl => (false, friskRefused (ckEntry (c / 16)) (0x2F0 + c / 16) 5 (0x1840 + c) 1 a len k pl write r.2)

/-- The network target of an address; of the aperture the Imposition path of the window's target port, a free one where no window
covers it. [DESIGN CHOICE, log 106] -/
def storeTarget (c a : Nat) (s : State) : Nat × State :=
  match placeOf a with
  | some (.aper off) =>
    match windowAt s 2 c off with
    | some (_, w) => (232 + impQuire (winAddr w off), s)
    | none => (232 + (freshValue s).1 % 8, (freshValue s).2)
  | some pl => (targetOf pl, s)
  | none => (0, s)

/-! ### The store buffer and the merge buffer (R405, Table CMP-5) -/

def mergeOf (s : State) (k : Nat) : List MLine := Tbl.look [] s.net.merge k
def setMerge (k : Nat) (l : List MLine) (s : State) : State := { s with net := { s.net with merge := Tbl.upd [] s.net.merge k l } }

/-- A line of an Imposition aperture. -/
def lineAper (l : MLine) : Bool := l.line / 2 ^ 38 == 1

/-- The youngest line of a list is closed. -/
def closeLast : List MLine → List MLine
  | [] => []
  | [l] => [{ l with closed := true }]
  | l :: r => l :: closeLast r

/-- Bytes of a store are taken into a line. -/
def lineBytes (x : EStore) (l : MLine) : MLine :=
  { l with bytes := (List.range x.len).foldl (fun t i =>
      Tbl.upd none t (x.addr % 64 + i) (some (slice x.data i 1))) l.bytes }

/-- The store falls in the youngest line, and that line is open; a line of an aperture is one engine's. -/
def fallsIn (c : Nat) (x : EStore) (l : MLine) : Bool :=
  x.ty == 0 && !l.closed && l.line == x.addr / 64 && (!lineAper l || l.engs == [c])

/-- The oldest store of an engine's buffer drains into the merge buffer, checked at the network entry: one that Frisket refuses is
dropped. None where it stays. -/
def drainOne (c : Nat) (s : State) : Option State :=
  match (engOf s c).sb with
  | [] => none
  | x :: rest =>
    let k := c / 16
    let ls := mergeOf s k
    let hit := match ls.getLast? with
      | some l => fallsIn c x l
      | none => false
    if hit = false ∧ 8 ≤ ls.length then none else
    let (t, s) := storeTarget c x.addr s
    let (ok, s) := entryCheck c x.addr x.len true s
    let s := setEng c { engOf s c with sb := rest } s
    if ¬ ok then some (storeFail c 3 t x.addr s)
    else if hit then
      some (setMerge k (ls.map fun l => if fallsIn c x l then
        lineBytes x { l with engs := if l.engs.contains c then l.engs else l.engs ++ [c] } else l) s)
    else
      let l : MLine := { line := x.addr / 64, engs := [c], since := s.clk.now, target := t }
      some (setMerge k (closeLast ls ++ [if x.ty = 0 then lineBytes x l else { l with closed := true, own := some x }]) s)

/-- An engine's stores drain as far as they can. [DESIGN CHOICE, log 103; DESIGN CHOICE, log 105] -/
def drainStores (c : Nat) : Nat → State → State
  | 0, s => s
  | n + 1, s => match drainOne c s with
    | some s => drainStores c n s
    | none => s

/-- Runs of neighbouring bytes of a line: offset, length, data. -/
def byteRuns : Tbl (Option Nat) → List (Nat × Nat × Nat)
  | [] => []
  | (o, b) :: t =>
    match byteRuns t with
    | (o2, n, d) :: r => if o2 = o + 1 then (o, n + 1, b.getD 0 + 256 * d) :: r else (o, 1, b.getD 0) :: (o2, n, d) :: r
    | [] => [(o, 1, b.getD 0)]

/-- What a line writes: address, length, data. -/
def lineWrites (l : MLine) : List (Nat × Nat × Nat) :=
  match l.own with
  | some x => [(x.addr, x.len, x.data)]
  | none => (byteRuns l.bytes).map fun r => (64 * l.line + r.1, r.2.1, r.2.2)

/-- The address that a failing line reports (R415). -/
def lineAddr (l : MLine) : Nat :=
  match l.own with
  | some x => x.addr
  | none => 64 * l.line

/-- The next line that may be issued: closed, every earlier line out to the same target, and fewer than 4 of them. -/
def nextIssue : Nat → List MLine → Option Nat
  | _, [] => none
  | i, l :: r =>
    if l.issued.isSome then (if 3 ≤ i ∨ (r.head?.any fun m => m.target != l.target) = true then none else nextIssue (i + 1) r)
    else if l.closed then some i else none

/-- A line goes out; one to an aperture goes to its Imposition path. -/
def issueLine (k i : Nat) (s : State) : State :=
  match (mergeOf s k)[i]? with
  | none => s
  | some l =>
    let l := { l with issued := some s.clk.now }
    let s := setMerge k ((mergeOf s k).set i l) s
    if ¬ lineAper l then s
    else if targetState s l.target ≠ 0 then setMerge k ((mergeOf s k).set i { l with fail := some 2 }) s
    else
      let c := l.engs.headD 0
      let (l, s) := (lineWrites l).foldl (fun (r : MLine × State) w =>
        match startImp 2 c (0x1840 + c) (w.1 % 2 ^ 44) w.2.1 true w.2.2 w.1 (.line k) r.2 with
        | (.miss, s) => ({ r.1 with fail := some (r.1.fail.getD 4) }, s)
        | (.refused, s) => ({ r.1 with fail := some (r.1.fail.getD 3) }, s)
        | (.under n, s) => ({ r.1 with imps := r.1.imps ++ [n] }, s)) (l, s)
      setMerge k ((mergeOf s k).set i l) s

/-- Lines of a cluster go out as far as R405 lets them. [DESIGN CHOICE, log 103] -/
def issueLines (k : Nat) : Nat → State → State
  | 0, s => s
  | n + 1, s => match nextIssue 0 (mergeOf s k) with
    | some i => issueLines k n (issueLine k i s)
    | none => s

/-- A cluster's stores drain and its lines go out. -/
def pushCluster (k : Nat) (s : State) : State :=
  let s := issueLines k 8 s
  issueLines k 8 ((List.range 16).foldl (fun s e => drainStores (16 * k + e) 16 s) s)

/-- The youngest line of a cluster closes where a test holds of it, and goes out. -/
def closeIf (k : Nat) (p : MLine → Bool) (s : State) : State :=
  let ls := mergeOf s k
  if (ls.getLast?.any fun l => !l.closed && p l) = true then issueLines k 8 (setMerge k (closeLast ls) s) else s

/-- A full barrier asks for the engine's stores: they drain, and the youngest line closes where it holds one (R405, R408). -/
def pushOut (c : Nat) (s : State) : State :=
  closeIf (c / 16) (fun l => l.engs.contains c) (drainStores c 16 s)

/-- What the oldest line's response says: none while there is none; else the cause of a failure, none where the line is performed. A line waits
at its target while another engine holds its granule (R411); what a target that refuses a write gives as the cause is free. [DEDUCED, log 102] -/
def lineAnswer (l : MLine) (s : State) : Option (Option Nat × State) :=
  if lineAper l then
    let s := pruneImp s
    let ws := l.imps.filterMap fun n => Tbl.look none s.net.imp n
    if ws.any fun w => !w.parts.isEmpty || !w.sent.isEmpty then none
    else
      let cause := match l.fail with
        | some f => some f
        | none => if ws.any (·.status != 0) then some 4 else none
      some (cause, l.imps.foldl (fun s n => setImp n none s) s)
  else if targetState s l.target ≠ 0 then some (some 2, answeredError l.target s)
  else if (heldBy s (64 * l.line)).any fun h => l.engs != [h] then none
  else
    some <| (lineWrites l).foldl (fun (r : Option Nat × State) w =>
      match (placeOf w.1).bind fun pl => placeWrite w.1 pl w.2.1 w.2.2 r.2 with
      | some s => (r.1, s)
      | none => (some (r.1.getD ((freshValue r.2).1 % 16)), answeredError l.target (freshValue r.2).2)) (none, s)

/-- The oldest line of a cluster has its response: a failure is recorded in each engine whose stores it holds. -/
def lineResponse (k : Nat) (s : State) : Option State :=
  match mergeOf s k with
  | [] => none
  | l :: _ =>
    if l.issued.isNone then none else
    (lineAnswer l s).map fun (f, s) =>
      let s := setMerge k ((mergeOf s k).drop 1) s
      match f with
      | some cause => l.engs.foldl (fun s c => storeFail c cause l.target (lineAddr l) s) s
      | none => s

/-! ### One access (R404, R406, R408-R411) -/

/-- An access ends, with what it returns. -/
def finish (c : Nat) (v : Option Nat) (s : State) : State := emit (.engine c v) (setEng c { engOf s c with wait := none } s)

/-- An access waits. -/
def park (c : Nat) (w : EReq) (s : State) : State := setEng c { engOf s c with wait := some w } s

/-- The byte that the youngest store of a buffer gives an address. -/
def storedByte (sb : List EStore) (a : Nat) : Option Nat :=
  (sb.reverse.find? fun x => decide (x.addr ≤ a) && decide (a < x.addr + x.len)).map fun x => slice x.data (a - x.addr) 1

/-- The data of a load that its engine's store buffer covers fully (R406). -/
def forwarded (sb : List EStore) (a len : Nat) : Option Nat :=
  (List.range len).reverse.foldl (fun r i => match r, storedByte sb (a + i) with
    | some v, some b => some (256 * v + b)
    | _, _ => none) (some 0)

/-- Some store of the buffer touches a span. -/
def touches (sb : List EStore) (a len : Nat) : Bool :=
  sb.any fun x => decide (x.addr < a + len) && decide (a < x.addr + x.len)

/-- A line is that of an address, as an engine names it. -/
def lineFor (c a : Nat) (l : MLine) : Bool := l.line == a / 64 && (!lineAper l || l.engs.contains c)

/-- The load goes to its place: through the aperture, or to its target. -/
def performRead (c : Nat) (w : EReq) (ga : Nat) (pl : Place) (s : State) : State :=
  let x := w.acc
  match pl with
  | .aper off =>
    let (t, s) := storeTarget c ga s
    if targetState s t ≠ 0 then trap c 5 x.addr (answeredError t s)
    else
      match startImp 2 c (0x1840 + c) off x.len false 0 x.addr (.load c) (park c { w with imp := true, out := some s.clk.now } s) with
      | (.under _, s) => s
      | (_, s) => trap c 5 x.addr s
  | _ =>
    let (ok, s) := entryCheck c ga x.len false s
    let t := targetOf pl
    if ¬ ok then trap c 5 x.addr s
    else if targetState s t ≠ 0 then trap c 5 x.addr (answeredError t s)
    else if ¬ w.answered then park c { w with out := some s.clk.now } s
    else match placeRead ga pl x.len s with
      | some (v, s) => finish c (some v) s
      | none => trap c 5 x.addr (answeredError t s)

/-- A load (R406, Table CMP-5). -/
def tryLoad (c : Nat) (w : EReq) (ga : Nat) (pl : Place) (ty : Nat) (s : State) : State :=
  let sb := (engOf s c).sb
  match (if ty = 0 then forwarded sb ga w.acc.len else none) with
  | some v => finish c (some v) s
  | none =>
    if touches sb ga w.acc.len ∨ (2 ≤ ty ∧ ¬ storesSeen s c) then park c w s
    else if (mergeOf s (c / 16)).any (lineFor c ga) then park c w (closeIf (c / 16) (lineFor c ga) s)
    else performRead c w ga pl s

/-- A store enters the store buffer; a Strict one waits for every earlier access, and any while the buffer is full. -/
def tryStore (c : Nat) (w : EReq) (ga ty data : Nat) (s : State) : State :=
  if 2 ≤ ty ∧ ¬ storesSeen s c then park c w s
  else if 16 ≤ (engOf s c).sb.length then park c w s
  else
    let x : EStore := { addr := ga, len := w.acc.len, data := data % 256 ^ w.acc.len, ty := ty }
    finish c none (setEng c { engOf s c with sb := (engOf s c).sb ++ [x] } s)

/-- What an atomic access meets at its target, after a full barrier for an SC or an AMO: it may be performed, or has trapped or waits. -/
def reachAtom (c : Nat) (w : EReq) (ga : Nat) (pl : Place) (write : Bool) (s : State) : Bool × State :=
  let x := w.acc
  let f := faultCause x.kind
  let (ok, s) := entryCheck c ga x.len write s
  let t := targetOf pl
  if ¬ ok then (false, trap c f x.addr s)
  else if targetState s t ≠ 0 then (false, trap c f x.addr (answeredError t s))
  else if ¬ w.answered then (false, park c { w with out := some s.clk.now } s)
  else (true, s)

def setHold (g : Nat) (h : Option GranHold) (s : State) : State :=
  { s with net := { s.net with holds := Tbl.upd none s.net.holds g h } }

/-- A hold is asked for: it is granted at once where the granule has none; else the engine waits its turn. [DEDUCED, log 104] -/
def askHold (c g : Nat) (s : State) : Bool × State :=
  match Tbl.look none s.net.holds g with
  | none => (true, setHold g (some { eng := some c, since := s.clk.now }) s)
  | some h =>
    if h.eng = some c then (true, s)
    else (false, if h.next.contains c then s else setHold g (some { h with next := h.next ++ [c] }) s)

/-- LR: it sets the engine's reservation; the one after a failed SC to the granule waits for its hold (R411). -/
def tryLr (c : Nat) (w : EReq) (ga : Nat) (pl : Place) (s : State) : State :=
  let g := granule ga
  let s := setEng c { engOf s c with resv := none } s
  if touches (engOf s c).sb ga w.acc.len then park c w s
  else if (mergeOf s (c / 16)).any (lineFor c ga) then park c w (closeIf (c / 16) (lineFor c ga) s)
  else
    let (ok, s) := reachAtom c w ga pl false s
    if ¬ ok then s else
    let (ok, s) := if (engOf s c).failed = some g then askHold c g s else (true, s)
    if ¬ ok then park c w s else
    let (v, s) := spaceRead ga w.acc.len s
    let e := engOf s c
    finish c (some v) (setEng c { e with resv := some g, failed := if e.failed = some g then none else e.failed } s)

/-- A hold ends at its holder's SC. [DEDUCED, log 104] -/
def endHold (c g : Nat) (s : State) : State :=
  match Tbl.look none s.net.holds g with
  | some h => if h.eng = some c then setHold g (some { h with eng := none }) s else s
  | none => s

/-- Another engine holds the granule. -/
def heldByOther (s : State) (c ga : Nat) : Bool := (heldBy s ga).any fun h => h != c

/-- SC, after its full barrier: it stores on the reserved granule alone, returns 0, and breaks the reservation in any case (R410). [DEDUCED, log 102] -/
def trySc (c : Nat) (w : EReq) (ga : Nat) (pl : Place) (data : Nat) (s : State) : State :=
  let g := granule ga
  let s := pushOut c s
  if ¬ storesSeen s c then park c w s
  else
    let (ok, s) := reachAtom c w ga pl true s
    if ¬ ok then s
    else if (engOf s c).resv ≠ some g then
      finish c (some 1) (endHold c g (setEng c { engOf s c with resv := none, failed := some g } s))
    else if heldByOther s c ga then park c w s
    else
      let s := spaceWrite ga w.acc.len (data % 256 ^ w.acc.len) s
      finish c (some 0) (endHold c g (setEng c { engOf s c with resv := none } s))

/-- A value of `n` bits as a signed number. -/
def signed (n v : Nat) : Int := (BitVec.ofNat n v).toInt

/-- What an atomic operation stores, from the old value and the operand of `n` bits. [DEDUCED, log 102] -/
def amoResult (op : AmoOp) (n old d : Nat) : Nat :=
  match op with
  | .swap => d
  | .add => (old + d) % 2 ^ n
  | .xor => old ^^^ d
  | .and => old &&& d
  | .or => old ||| d
  | .min => if signed n old ≤ signed n d then old else d
  | .max => if signed n old ≤ signed n d then d else old
  | .minu => min old d
  | .maxu => max old d

/-- An AMO, after its full barrier. -/
def tryAmo (c : Nat) (w : EReq) (ga : Nat) (pl : Place) (op : AmoOp) (data : Nat) (s : State) : State :=
  let s := pushOut c s
  if ¬ storesSeen s c then park c w s
  else
    let (ok, s) := reachAtom c w ga pl true s
    if ¬ ok then s
    else if heldByOther s c ga then park c w s
    else
      let n := w.acc.len
      let (old, s) := spaceRead ga n s
      finish c (some old) (spaceWrite ga n (amoResult op (8 * n) old (data % 256 ^ n)) s)

/-- An engine's access is tried: it is performed, traps, or waits. -/
def tryAcc (c : Nat) (w : EReq) (s : State) : State :=
  let x := w.acc
  match x.kind with
  | .fence =>
    let s := pushOut c s
    if storesSeen s c then finish c none s else park c w s
  | _ =>
    match decodeAcc s c x with
    | .trapped cause => trap c cause x.addr s
    | .own ga =>
      match x.kind with
      | .store d => finish c none (spaceWrite ga x.len (d % 256 ^ x.len) s)
      | _ => finish c (some (spaceRead ga x.len s).1) (spaceRead ga x.len s).2
    | .onNet ga pl ty =>
      match x.kind with
      | .load => tryLoad c w ga pl ty s
      | .store d => tryStore c w ga ty d s
      | .lr => tryLr c w ga pl s
      | .sc d => trySc c w ga pl d s
      | .amo op d => tryAmo c w ga pl op d s
      | .fence => s

/-! ### What follows an access or a response -/

/-- Waiting accesses that have not gone out are tried again. -/
def retryWaits (s : State) : State :=
  ((s.net.eng.filter fun e => e.2.wait.any fun w => w.out.isNone && !w.imp).map (·.1)).foldl (fun s c =>
    match (engOf s c).wait with
    | some w => if w.out.isNone ∧ ¬ w.imp then tryAcc c w s else s
    | none => s) s

/-- Clusters with stores on their way. -/
def storing (s : State) : List Nat :=
  (List.range 12).filter fun k => !(mergeOf s k).isEmpty || s.net.eng.any fun e => e.1 / 16 == k && !e.2.sb.isEmpty

/-- Stores drain, lines go out, and waiting accesses are tried again. [DESIGN CHOICE, log 105] -/
def settleStores (s : State) : State := retryWaits ((storing s).foldl (fun s k => pushCluster k s) s)

/-- The access of a descriptor that waited at a target is over. -/
def ackWrite (pid : Nat) (ok : Bool) (s : State) : State :=
  match ringWaits s pid with
  | none => s
  | some r =>
    let v := ringOf s r
    let run := v.run.map fun e =>
      match e.accs.find? (·.pid == pid) with
      | some a =>
        let e := { e with accs := e.accs.filter (·.pid != pid) }
        if ok then e else failExec 4 a.off e
      | none => e
    setRing r { v with run := run, left := v.left.filter (·.pid != pid) } s

/-- Merge lines that wait for a granule at their target are served. -/
def serveLines (g k : Nat) : Nat → State → State
  | 0, s => s
  | n + 1, s =>
    match mergeOf s k with
    | l :: _ =>
      if l.issued.isSome ∧ lineAper l = false ∧ granule (64 * l.line) = g then
        match lineResponse k s with
        | some s => serveLines g k n s
        | none => s
      else s
    | [] => s

/-- An engine waits for the hold of a granule. -/
def waitsHold (s : State) (c g : Nat) : Bool :=
  match (engOf s c).wait with
  | some w => w.acc.kind == .lr && w.out.isNone && granule (globalAddr c w.acc.addr) == g
  | none => false

/-- Between two holds every waiting write is served; then the next hold begins (R411). [DEDUCED, log 104] -/
def nextHold (g : Nat) (h : GranHold) (s : State) : State :=
  let s := h.writes.foldl (fun s w => ackWrite w.2.2.2 true (spaceWrite w.1 w.2.1 w.2.2.1 s)) s
  let s := (List.range 12).foldl (fun s k => serveLines g k 8 s) s
  let s := retryWaits s
  let next := match Tbl.look none s.net.holds g with
    | some h => h.next.filter (waitsHold s · g)
    | none => []
  match next with
  | [] => setHold g none s
  | c :: r => setHold g (some { eng := some c, since := s.clk.now, next := r }) s

def settleHolds (s : State) : State :=
  s.net.holds.foldl (fun s e => match e.2 with
    | some h => if h.eng.isNone then nextHold e.1 h s else s
    | none => s) s

/-- Everything that an engine's access or a line's response lets go on: stores, lines, waiting accesses, holds, halts, drains of domains, and
host doorbells. -/
def settleNet (s : State) : State :=
  let s := settleStores (settleHolds (settleStores s))
  let s := (s.net.eng.filter (·.2.halting)).foldl (fun s e => settleHalt e.1 s) s
  settleBells (settleDomains s)

/-! ### The commands -/

/-- The engine runs, is not being halted, and has no access under way. -/
def engineReady (s : State) (c : Nat) : Bool := engState s c == 1 && !(engOf s c).halting && (engOf s c).wait.isNone

/-- An engine begins an access. `answers` says whether its target answers a load or an atomic access, or has hung. [DESIGN CHOICE, log 100; DESIGN CHOICE, log 103] -/
def engineAccess (c : Nat) (x : EAcc) (answers : Bool) (s : State) : State :=
  if engineReady s c then settleNet (tryAcc c { acc := x, answered := answers } s) else s

/-- ENGINE_LOAD. -/
def execEngineLoad (c : Fin 192) (a : Nat) (size : Fin 4) (answers : Bool) (s : State) : Host.Outcome State Fault Refusal :=
  .next (engineAccess c.val { kind := .load, addr := a, len := 2 ^ size.val } answers s)

/-- ENGINE_STORE. With `stay` the store has not left the store buffer yet; it drains at the next event or tick. [DESIGN CHOICE, log 103] -/
def execEngineStore (c : Fin 192) (a : Nat) (size : Fin 4) (v : Nat) (stay : Bool) (s : State) : Host.Outcome State Fault Refusal :=
  .next <|
    let x : EAcc := { kind := .store v, addr := a, len := 2 ^ size.val }
    if stay = true ∧ engineReady s c.val = true then tryAcc c.val { acc := x } s else engineAccess c.val x true s

/-- ENGINE_FENCE: every FENCE is one full barrier (R408). -/
def execEngineFence (c : Fin 192) (s : State) : Host.Outcome State Fault Refusal :=
  .next (engineAccess c.val { kind := .fence } true s)

/-- ENGINE_LR, of 4 or 8 bytes. -/
def execEngineLr (c : Fin 192) (a : Nat) (wide : Bool) (answers : Bool) (s : State) : Host.Outcome State Fault Refusal :=
  .next (engineAccess c.val { kind := .lr, addr := a, len := if wide then 8 else 4 } answers s)

/-- ENGINE_SC. -/
def execEngineSc (c : Fin 192) (a : Nat) (wide : Bool) (v : Nat) (answers : Bool) (s : State) : Host.Outcome State Fault Refusal :=
  .next (engineAccess c.val { kind := .sc v, addr := a, len := if wide then 8 else 4 } answers s)

/-- ENGINE_AMO. -/
def execEngineAmo (c : Fin 192) (op : AmoOp) (a : Nat) (wide : Bool) (v : Nat) (answers : Bool) (s : State) :
    Host.Outcome State Fault Refusal :=
  .next (engineAccess c.val { kind := .amo op v, addr := a, len := if wide then 8 else 4 } answers s)

/-- The hold of a granule ends 128 ns after it began. -/
def holdExpire (g : Nat) (s : State) : State :=
  match Tbl.look none s.net.holds g with
  | some h =>
    if h.eng.isSome then settleNet (setHold g (some { h with eng := none }) (advanceTo (h.since + ns 128) s)) else s
  | none => s

/-- RESERVATION_HOLD_EXPIRY, of the granule of an address. -/
def execReservationHoldExpiry (a : Nat) (s : State) : Host.Outcome State Fault Refusal := .next (holdExpire (granule a) s)

/-- MERGE_LINE_TIMEOUT: the youngest line of cluster `k` has been open for 64 ns. -/
def mergeTimeout (k : Nat) (s : State) : State :=
  match (mergeOf s k).getLast? with
  | some l => if l.closed then s else settleNet (closeIf k (fun _ => true) (advanceTo (l.since + ns 64) s))
  | none => s

def execMergeLineTimeout (k : Fin 12) (s : State) : Host.Outcome State Fault Refusal := .next (mergeTimeout k.val s)

/-- MERGE_LINE_RESPONSE: the response of the oldest line that cluster `k` has issued. -/
def execMergeLineResponse (k : Fin 12) (s : State) : Host.Outcome State Fault Refusal :=
  .next <| match lineResponse k.val s with
    | some s => settleNet s
    | none => s

/-! ### A dead target (R414) -/

/-- When the oldest request that a target has not answered went out. -/
def oldestTo (s : State) (t : Nat) : Option Nat :=
  ((outTo s t).map (·.2) ++ (List.range 12).filterMap fun k =>
    match mergeOf s k with
    | l :: _ => if l.target = t then l.issued else none
    | [] => none).min?

/-- A write that waited at a target for the end of a hold fails. -/
def dropHolds (t : Nat) (s : State) : State :=
  s.net.holds.foldl (fun s e => match e.2 with
    | some h =>
      if (placeOf (128 * e.1)).map targetOf = some t then
        setHold e.1 none (h.writes.foldl (fun s w => ackWrite w.2.2.2 false s) s)
      else s
    | none => s) s

/-- The target is marked ISOLATED; an isolation notice goes out and the fault is logged. -/
def targetDead (t : Nat) (s : State) : State :=
  let s := dropHolds t (breakTarget t (s.put o7030_01 [pNT t] 1))
  raiseFault (0x400 + t) 0x41 (t * 2 ^ 34) (emit (.notice 1 t) s)

/-- The head line of a cluster whose target has timed out gets its error response. -/
def lineTimedOut (t : Nat) (s : State) (k : Nat) : State :=
  match mergeOf s k with
  | l :: r =>
    if l.target = t ∧ l.issued.isSome then
      l.engs.foldl (fun s c => storeFail c 1 t (lineAddr l) s)
        (answeredError t (setMerge k r (l.imps.foldl (fun s n => setImp n none s) s)))
    else s
  | [] => s

/-- NET_TARGET_TIMEOUT: a request to the target has not been answered within 2 µs; it and what else is out to the target get error
responses. -/
def targetTimeout (t : Nat) (s : State) : State :=
  if targetState s t ≠ 0 then s else
  match oldestTo s t with
  | none => s
  | some n =>
    let s := advanceTo (n + us 2) s
    let s := answerOut t (targetDead t s)
    settleNet ((List.range 12).foldl (lineTimedOut t) s)

def execNetTargetTimeout (t : Fin 256) (s : State) : Host.Outcome State Fault Refusal := .next (targetTimeout t.val s)

end Sys2Proof.Machine
end

