-- ==== Sys2Proof/Machine/DebugMaster.lean ====
section
/-!
DEFINITION. The accesses of the debug master (21 R578, R579, Table TST-4).
-/
namespace Sys2Proof.Machine

/-- The debug access register after an access: STATUS, and the data that shows. -/
def dbgWord (w st : Nat) (data : Nat) : Nat := setBits (setBits (setBits w 75 72 st) 71 64 0) 63 0 data

/-- An access of the debug master ends: done (2), refused by Frisket (3), failed at its target (4), misaligned or outside the map (5). A
read that is done shows its data, statuses 3 and 4 all ones. [DEDUCED, log 157] -/
def dbgEnd (st : Nat) (v : Option Nat) (s : State) : State :=
  let w := s.tap.dbg
  let d := if st = 3 ∨ st = 4 then 2 ^ 64 - 1 else v.getD (bits w 63 0)
  let s := { s with tap := { s.tap with dbg := dbgWord w st d, dbgImp := none } }
  if st = 5 then s else s.bump oE020_01 [] 1

/-- An access through the aperture is over once its packets are, and fails 3 µs after its start. -/
def dbgSettle (s : State) : State :=
  match s.tap.dbgImp with
  | none => s
  | some (k, t) =>
    let s := pruneImp s
    match Tbl.look none s.net.imp k with
    | none => dbgEnd 4 none s
    | some w =>
      if w.parts.isEmpty ∧ w.sent.isEmpty then
        let s := setImp k none s
        if w.status ≠ 0 ∨ w.poison = true then dbgEnd 4 none s
        else dbgEnd 2 (if w.write then none else some w.data) s
      else if t + us 3 ≤ s.clk.now then dbgEnd 4 none (setImp k none s)
      else s

/-- Through the aperture, by a window with OKIND 0b11. [DEDUCED, log 157] -/
def dbgAperture (a off len : Nat) (write : Bool) (data : Nat) (s : State) : State :=
  let onum := (((s.listed o4410_01).find? fun e =>
    winOkind e.2 == 3 && decide (winBase e.2 ≤ off) && decide (off < winBase e.2 + 2 ^ winSize e.2)).map fun e => winOnum e.2).getD 0
  match startImp 3 onum 0x1920 off len write data a .debug s with
  | (.miss, s) => dbgEnd 4 none s
  | (.refused, s) => dbgEnd 3 none s
  | (.under k, s) =>
    dbgSettle { s with tap := { s.tap with dbg := dbgWord s.tap.dbg 1 (bits s.tap.dbg 63 0), dbgImp := some (k, s.clk.now) } }

/-- On the network: Frisket at the spine, then the target. A write to a held granule waits for the end of the hold (14 R411). [DEDUCED, log 157] -/
def dbgNetwork (a : Nat) (pl : Place) (len : Nat) (write : Bool) (data : Nat) (answers : Bool) (s : State) : State :=
  let (v, s) := friskAsk ckDebug 0x1920 none 1 a len false s
  let t := targetOf pl
  match v with
  | .refuse r p => dbgEnd 3 none (friskRefused ckDebug 0x2FC 5 0x1920 1 a len r p write s)
  | .allow =>
    if targetState s t ≠ 0 then dbgEnd 4 none (answeredError t s)
    else if ¬ answers then dbgEnd 4 none (settleNet (answeredError t (targetDead t (advanceTo (s.clk.now + us 2) s))))
    else if write then
      let s := if (heldBy s a).isSome then holdExpire (granule a) s else s
      match placeWrite a pl len data s with
      | some s => dbgEnd 2 none (settleNet s)
      | none => dbgEnd 4 none (answeredError t s)
    else match placeRead a pl len s with
      | some (d, s) => dbgEnd 2 (some d) s
      | none => dbgEnd 4 none (answeredError t s)

/-- One debug read or write starts at Update-DR. Dies held in reset answer nothing. [DEDUCED, log 157] -/
def dbgStart (w : Nat) (answers : Bool) (s : State) : State :=
  let w := setBits (w % 2 ^ 128) 75 64 0
  let a := bits w 127 80
  let len := 2 ^ bits w 77 76
  let write := decide (bits w 79 78 = 2)
  let data := bits w 63 0 % 256 ^ len
  let s := { s with tap := { s.tap with dbg := w } }
  match placeOf a with
  | none => dbgEnd 5 none s
  | some pl =>
    if a % len ≠ 0 then dbgEnd 5 none s
    else if outputsDriven s = false then dbgEnd 4 none s
    else match pl with
      | .aper off => dbgAperture a off len write data s
      | _ => dbgNetwork a pl len write data answers s

/-- The word is captured and shifted out, and the word shifted in starts an access where its OP asks for one and none is under way. The
reserved OP is refused whole: the register keeps its word, and STATUS reports an error (00 R7). [DEDUCED, log 157] -/
def dbgShift (w : Nat) (answers : Bool) (s : State) : State :=
  let s := if s.flag oE020_02 [] then s
    else raiseFault 0x780 0x83 (s.val oD050_01 [] * 2 ^ 40) (s.put oE020_02 [] 1)
  let s := dbgSettle s
  let s := emit (.tdo s.tap.dbg 128) s
  if bits s.tap.dbg 75 72 = 1 ∨ bits w 79 78 = 0 then s
  else if bits w 79 78 = 3 then { s with tap := { s.tap with dbg := setBits s.tap.dbg 75 72 5 } }
  else dbgStart w answers s

/-- DBG_ACCESS: in BOOT, SERVICE and PROOF. `answers` says whether the access's target answers it, or has hung. -/
def execDbgAccess (w : Nat) (answers : Bool) (s : State) : Host.Outcome State Fault Refusal :=
  .next (loadIr 0x10 (s.val oD000_03 [] != 3) (dbgShift w answers) s)

end Sys2Proof.Machine
end

