-- ==== Sys2Proof/Machine/FmApi.lean ====
section
/-!
DEFINITION. The CXL FM API (02 R73-R75, Table FAB-6; 15 Table ODX-9): commands run by the same actions as Adsum writes.
-/
namespace Sys2Proof.Machine

/-- A command is taken: from the mailbox of a management owner's VCS, or from an endpoint with an open session of MANAGER or OWNER on its I3C
port, or from any where the port allows it (02 R73, 15 R438). [DESIGN CHOICE, log 125] -/
def fmTaken (s : State) : FmVia → Bool
  | .mailbox n => s.flag o4100_02 [pVCS n.val] && s.flag o4100_04 [pVCS n.val]
  | .mctp k e =>
    s.flag o1110_03 [pI3C k.val]
    || s.ads.sess.any fun x => x.2.any fun v => v.ready && decide (2 ≤ v.role) && v.via == .i3c k e

def fmAnswer (via : FmVia) (code : Nat) (v : List Nat) (s : State) : State := emit (.fm via code v) s

/-- A command runs: Unsupported where it is not taken, busy while the forme has no lead or the services move, over Folio to the lead where
another member is, and else its own action. [DESIGN CHOICE, log 125] -/
def fmStart (via : FmVia) (opcode : Nat) (f : State → State) (s : State) : State :=
  if ¬ fmTaken s via then fmAnswer via 2 [] s
  else if formHeld s then fmAnswer via 5 [] s
  else if s.clk.now < s.boot.moveUntil then fmAnswer via 3 [] s
  else if formed s ∧ s.val o4200_07 [] ≠ ownPos s then emit (.fmForward (s.val o4200_07 []) opcode) s
  else f s
where
  formHeld (s : State) : Bool := formeHolds s == some .formeBusy

/-- A command that is answered when its action has run. -/
def fmRun (via : FmVia) (opcode : Nat) (f : State → (Nat × List Nat) × State) : State → State :=
  fmStart via opcode fun s => fmAnswer via (f s).1.1 (f s).1.2 (f s).2

/-- A value as a read gives it. -/
def shown (s : State) (o : Obj) (p : Path) : Nat := (derived s o p).getD (s.val o p)

/-- A query returns values and changes nothing. -/
def fmQuery (via : FmVia) (opcode : Nat) (f : State → List Nat) (s : State) : State := fmRun via opcode (fun s => ((0, f s), s)) s

/-- A change runs as the write of an object by the fabric manager. -/
def fmWrite (via : FmVia) (opcode : Nat) (o : Obj) (p : Path) (h : State → Status × State) (s : State) : State :=
  fmRun via opcode (fun s =>
    let r := managed .manager o p h s
    ((fmCode r.1, []), r.2)) s

/-- FM_API_IDENTIFY. -/
def execFmApiIdentify (via : FmVia) (s : State) : Host.Outcome State Fault Refusal :=
  .next (fmQuery via 0x0001 (fun s => [s.val o1000_01 [], s.val o1000_02 [], s.val o1001_00 [], s.val o1002_00 []]) s)

/-- FM_API_BACKGROUND_OP_STATUS: whether the last bind or unbind is an unbind, its VCS and vPPB, 0 running, 1 done, 2 failed, and the STATE of
its vPPB; nothing where none has run. -/
def execFmApiBackgroundOpStatus (via : FmVia) (s : State) : Host.Outcome State Fault Refusal :=
  .next (fmQuery via 0x0002 (fun s => match s.forme.bgOp with
    | none => []
    | some (u, k, st) => [b2n u, k / 128, k % 128, st, recState (bindRec s (k / 128) (k % 128))]) s)

/-- FM_API_EVENT_RECORDS: the unread entries of the fault log. -/
def execFmApiEventRecords (via : FmVia) (s : State) : Host.Outcome State Fault Refusal :=
  .next (fmQuery via 0x0100 (fun s =>
    (List.range (s.val o9020_05 [])).map fun k => s.val o9020_01 [pLG ((s.val o9020_02 [] + k) % 4096)]) s)

/-- FM_API_IDENTIFY_SWITCH_DEVICE: port roles, VCS enables, the lead and the members. -/
def execFmApiIdentifySwitchDevice (via : FmVia) (s : State) : Host.Outcome State Fault Refusal :=
  .next (fmQuery via 0x5100 (fun s =>
    ((List.range 128).map fun p => s.val o2020_01 [pP p]) ++ ((List.range 64).map fun n => s.val o4100_02 [pVCS n])
      ++ [s.val o4200_07 [], s.val o4200_08 []]) s)

/-- FM_API_GET_PHYSICAL_PORT_STATE: role, link, presence, rate and width of each port named. -/
def execFmApiGetPhysicalPortState (via : FmVia) (ps : List (Fin 128)) (s : State) : Host.Outcome State Fault Refusal :=
  .next (fmQuery via 0x5101 (fun s => ps.flatMap fun p =>
    [o2020_01, o2020_02, o2020_03, o3000_02, o3000_03].map fun o => s.val o [pP p.val]) s)

/-- FM_API_PHYSICAL_PORT_CONTROL: the per-port link reset: 0 retrain, 1 hot reset, 2 PERST pulse. -/
def execFmApiPhysicalPortControl (via : FmVia) (p : Fin 128) (v : Nat) (s : State) : Host.Outcome State Fault Refusal :=
  .next (fmWrite via 0x5102 oD002_02 [pP p.val] (portReset p.val v) s)

/-- FM_API_GET_VCS_INFO: the settings of each VCS named, and its binding records. -/
def execFmApiGetVcsInfo (via : FmVia) (ns : List (Fin 64)) (s : State) : Host.Outcome State Fault Refusal :=
  .next (fmQuery via 0x5200 (fun s => ns.flatMap fun n =>
    ([o4100_01, o4100_02, o4100_03, o4100_04, o4100_05].map fun o => s.val o [pVCS n.val])
      ++ (List.range (s.val o4100_03 [pVCS n.val])).map fun v => bindRec s n.val v) s)

/-- A bind or an unbind: started where it runs on in the background, and answered once the standby has recorded it (02 R67, R75). -/
def fmBinding (via : FmVia) (opcode : Nat) (o : Obj) (n v : Nat) (c : FChange) : State → State :=
  fmStart via opcode fun s =>
    let r := managed .manager o [pVCS n, pV v] (formeChange (.fm via) c) s
    if r.1 = .held then r.2 else fmAnswer via (if r.1 = .ok ∧ runsOn r.2 c = true then 1 else fmCode r.1) [] r.2

/-- FM_API_BIND_VPPB. -/
def execFmApiBindVppb (via : FmVia) (n : Fin 64) (v : Fin 128) (w : Nat) (far : Option Bool) (s : State) : Host.Outcome State Fault Refusal :=
  .next (fmBinding via 0x5201 o4110_02 n.val v.val (.bind (ownPos s) n.val v.val w far) s)

/-- FM_API_UNBIND_VPPB: option 0 waits for disable, 1 simulates a managed hot-remove, 2 a surprise hot-remove. -/
def execFmApiUnbindVppb (via : FmVia) (n : Fin 64) (v : Fin 128) (option : Fin 3) (s : State) : Host.Outcome State Fault Refusal :=
  .next (fmBinding via 0x5202 o4110_04 n.val v.val (.unbind (ownPos s) n.val v.val option.val) s)

/-- FM_API_GENERATE_AER_EVENT: error `k` is logged in the AER registers of a vPPB, with a header. [DEDUCED, log 126] -/
def execFmApiGenerateAerEvent (via : FmVia) (n : Fin 64) (v : Fin 128) (k : Fin 32) (p : Packet) (s : State) : Host.Outcome State Fault Refusal :=
  .next (fmRun via 0x5203 (fun s =>
    if s.flag o4100_02 [pVCS n.val] ∧ v.val < s.val o4100_03 [pVCS n.val] then
      ((0, []), setAer (some (fnKey n.val (.vppb v))) k.val p s)
    else ((4, []), s)) s)

/-- FM_API_GET_DCD_INFO: the records in use, and which VCSs are presented with pooled capacity. -/
def execFmApiGetDcdInfo (via : FmVia) (s : State) : Host.Outcome State Fault Refusal :=
  .next (fmQuery via 0x5600 (fun s => shown s o5200_02 [] :: (List.range 64).map fun n => s.val o5230_01 [pVCS n]) s)

/-- The fixed region: its blocks of 256 MB, and 4,096 of them (08 Table POL-2). [DESIGN CHOICE, log 125] -/
def regionConfig : List Nat := [268435456, 1099511627776]

/-- FM_API_GET_DC_REGION_CONFIG: a region other than 0 is invalid. -/
def execFmApiGetDcRegionConfig (via : FmVia) (region : Nat) (s : State) : Host.Outcome State Fault Refusal :=
  .next (fmRun via 0x5601 (fun s => (if region = 0 then (0, regionConfig) else (4, []), s)) s)

/-- FM_API_SET_DC_REGION_CONFIG: nothing but the fixed values is taken. -/
def execFmApiSetDcRegionConfig (via : FmVia) (region : Nat) (vals : List Nat) (s : State) : Host.Outcome State Fault Refusal :=
  .next (fmRun via 0x5602 (fun s => ((if region = 0 ∧ vals = regionConfig then 0 else 4, []), s)) s)

/-- FM_API_GET_DC_EXTENT_LISTS: the occupied DPA slots of a VCS, or of a domain's GFAM device, each with its block. -/
def execFmApiGetDcExtentLists (via : FmVia) (gfam : Bool) (n : Fin 64) (region : Nat) (s : State) : Host.Outcome State Fault Refusal :=
  .next (fmRun via 0x5603 (fun s =>
    let l := (List.range 4096).flatMap fun m =>
      let b := if gfam then s.val o5230_06 [pDOM n.val, pM m] else s.val o5230_03 [pVCS n.val, pM m]
      if b = 0xFFFF then [] else [m, b]
    (if region ≠ 0 ∨ (gfam = true ∧ 16 ≤ n.val) then (4, []) else (0, l), s)) s)

/-- FM_API_INITIATE_DC_ADD: a block bind. -/
def execFmApiInitiateDcAdd (via : FmVia) (b : Fin 65536) (nkind : Bool) (scrubm : Fin 4) (dest : Fin 4096) (s : State) :
    Host.Outcome State Fault Refusal :=
  .next (fmWrite via 0x5604 o5220_01 [pCB b.val] (blockCommand b.val 1 0 (b2n nkind) scrubm.val dest.val) s)

/-- FM_API_INITIATE_DC_RELEASE: a block release, forced where the flag says so. -/
def execFmApiInitiateDcRelease (via : FmVia) (b : Fin 65536) (forced : Bool) (scrubm : Fin 4) (s : State) : Host.Outcome State Fault Refusal :=
  .next (fmWrite via 0x5605 o5220_01 [pCB b.val] (blockCommand b.val 2 (b2n forced) 0 scrubm.val 0xFFF) s)

/-- FM_API_TUNNEL: a command of the MLD port and component, multi-headed and, for an external device, dynamic capacity sets goes to the device of
a port, through the FM-owned LD of an MLD. [DESIGN CHOICE, log 125] -/
def execFmApiTunnel (via : FmVia) (p : Fin 128) (opcode : Fin 65536) (data : Nat) (s : State) : Host.Outcome State Fault Refusal :=
  .next (fmRun via opcode.val (fun s =>
    if ¬ (opcode.val / 256 ∈ [0x53, 0x54, 0x55, 0x56]) then ((2, []), s)
    else if roleOf s p.val ≠ 2 ∨ s.val o2020_03 [pP p.val] = 0 ∨ (opcode.val / 256 ∈ [0x53, 0x54] ∧ (Tbl.look {} s.devs p.val : DevInfo).lds.val = 0)
    then ((4, []), s)
    else ((0, []), emit (.tunnel p.val opcode.val data) s)) s)

/-- FM_API_UNSUPPORTED: any other opcode. -/
def execFmApiUnsupported (via : FmVia) (s : State) : Host.Outcome State Fault Refusal := .next (fmAnswer via 2 [] s)

end Sys2Proof.Machine
end

