-- ==== Sys2Proof/Machine/Dispatch.lean ====
section
/-!
DEFINITION. The dispatch of a command to its meaning: one arm per constructor of Instr, each one direct call.
-/
namespace Sys2Proof.Machine

def exec (i : Instr) (s : State) : Host.Outcome State Fault Refusal :=
  match i with
  | .registerWrite role idx sub p v x => Sys2Proof.Machine.execRegisterWrite role idx sub p v x s
  | .formeRequestForward who o w st v => Sys2Proof.Machine.execFormeRequestForward who o w st v s
  | .forwardTimeout k => Sys2Proof.Machine.execForwardTimeout k s
  | .laneGroupCommit role g v => Sys2Proof.Machine.execLaneGroupCommit role g v s
  | .laneGroupChangeApplied g => Sys2Proof.Machine.execLaneGroupChangeApplied g s
  | .vcsEnable role n v => Sys2Proof.Machine.execVcsEnable role n v s
  | .bind role n v w far => Sys2Proof.Machine.execBind role n v w far s
  | .bindTargetReady n v => Sys2Proof.Machine.execBindTargetReady n v s
  | .bindPendingTimeout n v => Sys2Proof.Machine.execBindPendingTimeout n v s
  | .unbindMode0 role n v => Sys2Proof.Machine.execUnbindMode0 role n v s
  | .unbindMode1 role n v => Sys2Proof.Machine.execUnbindMode1 role n v s
  | .unbindMode2 role n v => Sys2Proof.Machine.execUnbindMode2 role n v s
  | .unbindComplete n v => Sys2Proof.Machine.execUnbindComplete n v s
  | .unbindWaitExpiry n v => Sys2Proof.Machine.execUnbindWaitExpiry n v s
  | .domainSlotAssign role d n v => Sys2Proof.Machine.execDomainSlotAssign role d n v s
  | .domainSlotRemove role d n => Sys2Proof.Machine.execDomainSlotRemove role d n s
  | .leavingComplete d n => Sys2Proof.Machine.execLeavingComplete d n s
  | .formeLossTimeout k => Sys2Proof.Machine.execFormeLossTimeout k s
  | .standbyTakeover => Sys2Proof.Machine.execStandbyTakeover s
  | .fmApiIdentify via => Sys2Proof.Machine.execFmApiIdentify via s
  | .fmApiBackgroundOpStatus via => Sys2Proof.Machine.execFmApiBackgroundOpStatus via s
  | .fmApiEventRecords via => Sys2Proof.Machine.execFmApiEventRecords via s
  | .fmApiIdentifySwitchDevice via => Sys2Proof.Machine.execFmApiIdentifySwitchDevice via s
  | .fmApiGetPhysicalPortState via ps => Sys2Proof.Machine.execFmApiGetPhysicalPortState via ps s
  | .fmApiPhysicalPortControl via p v => Sys2Proof.Machine.execFmApiPhysicalPortControl via p v s
  | .fmApiGetVcsInfo via ns => Sys2Proof.Machine.execFmApiGetVcsInfo via ns s
  | .fmApiBindVppb via n v w far => Sys2Proof.Machine.execFmApiBindVppb via n v w far s
  | .fmApiUnbindVppb via n v option => Sys2Proof.Machine.execFmApiUnbindVppb via n v option s
  | .fmApiGenerateAerEvent via n v k p => Sys2Proof.Machine.execFmApiGenerateAerEvent via n v k p s
  | .fmApiGetDcdInfo via => Sys2Proof.Machine.execFmApiGetDcdInfo via s
  | .fmApiGetDcRegionConfig via region => Sys2Proof.Machine.execFmApiGetDcRegionConfig via region s
  | .fmApiSetDcRegionConfig via region vals => Sys2Proof.Machine.execFmApiSetDcRegionConfig via region vals s
  | .fmApiGetDcExtentLists via gfam n region => Sys2Proof.Machine.execFmApiGetDcExtentLists via gfam n region s
  | .fmApiInitiateDcAdd via b nkind scrubm dest => Sys2Proof.Machine.execFmApiInitiateDcAdd via b nkind scrubm dest s
  | .fmApiInitiateDcRelease via b forced scrubm => Sys2Proof.Machine.execFmApiInitiateDcRelease via b forced scrubm s
  | .fmApiTunnel via p opcode data => Sys2Proof.Machine.execFmApiTunnel via p opcode data s
  | .fmApiUnsupported via => Sys2Proof.Machine.execFmApiUnsupported via s
  | .insertionUnboundPort p d => Sys2Proof.Machine.execInsertionUnboundPort p d s
  | .insertionBoundPort p d => Sys2Proof.Machine.execInsertionBoundPort p d s
  | .attentionButton p => Sys2Proof.Machine.execAttentionButton p s
  | .surpriseRemoval p => Sys2Proof.Machine.execSurpriseRemoval p s
  | .upstreamLinkDown p => Sys2Proof.Machine.execUpstreamLinkDown p s
  | .upstreamLinkReturn p => Sys2Proof.Machine.execUpstreamLinkReturn p s
  | .folioLinkDown p => Sys2Proof.Machine.execFolioLinkDown p s
  | .stage1Slot u => Sys2Proof.Machine.execStage1Slot u s
  | .stage2Slot u => Sys2Proof.Machine.execStage2Slot u s
  | .frameTimerExpiry q => Sys2Proof.Machine.execFrameTimerExpiry q s
  | .frameSpread r e => Sys2Proof.Machine.execFrameSpread r e s
  | .stage2Arrival e u => Sys2Proof.Machine.execStage2Arrival e u s
  | .collationGapTimeout e => Sys2Proof.Machine.execCollationGapTimeout e s
  | .elasticDrift q x high => Sys2Proof.Machine.execElasticDrift q x high s
  | .elasticDriftEnd q x => Sys2Proof.Machine.execElasticDriftEnd q x s
  | .elasticOverrun q x high => Sys2Proof.Machine.execElasticOverrun q x high s
  | .ingressPacketReceive port p => Sys2Proof.Machine.execIngressPacketReceive port p s
  | .intakeAdmission p f => Sys2Proof.Machine.execIntakeAdmission p f s
  | .expressAdmission p f => Sys2Proof.Machine.execExpressAdmission p f s
  | .queueFlush role p e v => Sys2Proof.Machine.execQueueFlush role p e v s
  | .descriptorCheckTimer bad => Sys2Proof.Machine.execDescriptorCheckTimer bad s
  | .queueSweepComplete q => Sys2Proof.Machine.execQueueSweepComplete q s
  | .creditAudit => Sys2Proof.Machine.execCreditAudit s
  | .congestionMapSend q => Sys2Proof.Machine.execCongestionMapSend q s
  | .congestionMapReceive r e bad => Sys2Proof.Machine.execCongestionMapReceive r e bad s
  | .egressGrant p u => Sys2Proof.Machine.execEgressGrant p u s
  | .keyingModeWrite role p v => Sys2Proof.Machine.execKeyingModeWrite role p v s
  | .keyMapCommit role p v => Sys2Proof.Machine.execKeyMapCommit role p v s
  | .remapApplied p => Sys2Proof.Machine.execRemapApplied p s
  | .remapTimeout p => Sys2Proof.Machine.execRemapTimeout p s
  | .limiterTargetWrite role q n v => Sys2Proof.Machine.execLimiterTargetWrite role q n v s
  | .wheelSlot q => Sys2Proof.Machine.execWheelSlot q s
  | .sampleInstant q => Sys2Proof.Machine.execSampleInstant q s
  | .histogramRead q what => Sys2Proof.Machine.execHistogramRead q what s
  | .samplingEnableWrite role q v => Sys2Proof.Machine.execSamplingEnableWrite role q v s
  | .rangeEntryWrite role rg v => Sys2Proof.Machine.execRangeEntryWrite role rg v s
  | .rangeConversionComplete rg => Sys2Proof.Machine.execRangeConversionComplete rg s
  | .homeRequest q e => Sys2Proof.Machine.execHomeRequest q e s
  | .homeWrite q e => Sys2Proof.Machine.execHomeWrite q e s
  | .birspReceive q => Sys2Proof.Machine.execBirspReceive q s
  | .deviceResponseReceive q => Sys2Proof.Machine.execDeviceResponseReceive q s
  | .ringNodePass k => Sys2Proof.Machine.execRingNodePass k s
  | .remoteRingPartReceive q hq d p => Sys2Proof.Machine.execRemoteRingPartReceive q hq d p s
  | .biTimeout q => Sys2Proof.Machine.execBiTimeout q s
  | .slotSweepEnd d n => Sys2Proof.Machine.execSlotSweepEnd d n s
  | .releaseIsolation role d n v => Sys2Proof.Machine.execReleaseIsolation role d n v s
  | .suspectCountClear role d n v => Sys2Proof.Machine.execSuspectCountClear role d n v s
  | .homeInspect role q a => Sys2Proof.Machine.execHomeInspect role q a s
  | .regionRecallComplete q => Sys2Proof.Machine.execRegionRecallComplete q s
  | .walkerVisit q e => Sys2Proof.Machine.execWalkerVisit q e s
  | .demotionComplete q => Sys2Proof.Machine.execDemotionComplete q s
  | .backgroundDemotion q => Sys2Proof.Machine.execBackgroundDemotion q s
  | .evictionComplete q => Sys2Proof.Machine.execEvictionComplete q s
  | .sliceOutOfService role q v => Sys2Proof.Machine.execSliceOutOfService role q v s
  | .sliceDrainComplete q => Sys2Proof.Machine.execSliceDrainComplete q s
  | .sliceReturn role q v => Sys2Proof.Machine.execSliceReturn role q v s
  | .rebuildRegionAnswered q => Sys2Proof.Machine.execRebuildRegionAnswered q s
  | .blockBind role b nkind scrubm dest => Sys2Proof.Machine.execBlockBind role b nkind scrubm dest s
  | .blockRelease role b forced scrubm => Sys2Proof.Machine.execBlockRelease role b forced scrubm s
  | .blockRebind role b forced nkind scrubm dest => Sys2Proof.Machine.execBlockRebind role b forced nkind scrubm dest s
  | .journalRecordDurable failed => Sys2Proof.Machine.execJournalRecordDurable failed s
  | .releaseCapacityResponse b vcs extent => Sys2Proof.Machine.execReleaseCapacityResponse b vcs extent s
  | .releaseTimeout b => Sys2Proof.Machine.execReleaseTimeout b s
  | .transitSettleTimer b => Sys2Proof.Machine.execTransitSettleTimer b s
  | .scrubComplete b => Sys2Proof.Machine.execScrubComplete b s
  | .scrubAttemptFail b => Sys2Proof.Machine.execScrubAttemptFail b s
  | .sanitizeTimeout b => Sys2Proof.Machine.execSanitizeTimeout b s
  | .addCapacityResponse b vcs accepted => Sys2Proof.Machine.execAddCapacityResponse b vcs accepted s
  | .poolPresentationEnable role n v => Sys2Proof.Machine.execPoolPresentationEnable role n v s
  | .plateLock role space v => Sys2Proof.Machine.execPlateLock role space v s
  | .keyTableCommit role v => Sys2Proof.Machine.execKeyTableCommit role v s
  | .keyCommitComplete => Sys2Proof.Machine.execKeyCommitComplete s
  | .keyShadowCopyComplete => Sys2Proof.Machine.execKeyShadowCopyComplete s
  | .plateBackgroundCheck found => Sys2Proof.Machine.execPlateBackgroundCheck found s
  | .targetRateWrite role p v => Sys2Proof.Machine.execTargetRateWrite role p v s
  | .adaptationManualWrite role l v => Sys2Proof.Machine.execAdaptationManualWrite role l v s
  | .marginingCommand l => Sys2Proof.Machine.execMarginingCommand l s
  | .folioPllLock p => Sys2Proof.Machine.execFolioPllLock p s
  | .folioAlign p m => Sys2Proof.Machine.execFolioAlign p m s
  | .folioLockTimeout p lower upper => Sys2Proof.Machine.execFolioLockTimeout p lower upper s
  | .folioPartnerAligned p e => Sys2Proof.Machine.execFolioPartnerAligned p e s
  | .folioAlignedTimeout p => Sys2Proof.Machine.execFolioAlignedTimeout p s
  | .folioMarkerFail p => Sys2Proof.Machine.execFolioMarkerFail p s
  | .folioRetrainBoundExpiry p => Sys2Proof.Machine.execFolioRetrainBoundExpiry p s
  | .dormantIdleTimeout p => Sys2Proof.Machine.execDormantIdleTimeout p s
  | .dreqReceive p => Sys2Proof.Machine.execDreqReceive p s
  | .dackReceive p => Sys2Proof.Machine.execDackReceive p s
  | .drefReceive p => Sys2Proof.Machine.execDrefReceive p s
  | .dcanReceive p => Sys2Proof.Machine.execDcanReceive p s
  | .electricalIdleDetect p => Sys2Proof.Machine.execElectricalIdleDetect p s
  | .dormantAckTimeout p => Sys2Proof.Machine.execDormantAckTimeout p s
  | .folioDormantExit p => Sys2Proof.Machine.execFolioDormantExit p s
  | .dormantProbe p => Sys2Proof.Machine.execDormantProbe p s
  | .clkreqAssert p => Sys2Proof.Machine.execClkreqAssert p s
  | .loopbackEnable role l v => Sys2Proof.Machine.execLoopbackEnable role l v s
  | .patternGeneratorEnable role l v => Sys2Proof.Machine.execPatternGeneratorEnable role l v s
  | .patternCheckerEnable role l v => Sys2Proof.Machine.execPatternCheckerEnable role l v s
  | .eyeScanStart role l v => Sys2Proof.Machine.execEyeScanStart role l v s
  | .eyeScanComplete l errors => Sys2Proof.Machine.execEyeScanComplete l errors s
  | .folioFlitReceive p fl => Sys2Proof.Machine.execFolioFlitReceive p fl s
  | .folioInitReceive p cb => Sys2Proof.Machine.execFolioInitReceive p cb s
  | .folioRtrnReceive p => Sys2Proof.Machine.execFolioRtrnReceive p s
  | .initResendTimer p => Sys2Proof.Machine.execInitResendTimer p s
  | .controlBlockDue p => Sys2Proof.Machine.execControlBlockDue p s
  | .replayTimerExpiry p => Sys2Proof.Machine.execReplayTimerExpiry p s
  | .leakMonitorInterval p => Sys2Proof.Machine.execLeakMonitorInterval p s
  | .plannedRetrainRequest role p v => Sys2Proof.Machine.execPlannedRetrainRequest role p v s
  | .trackerCompletion p pk => Sys2Proof.Machine.execTrackerCompletion p pk s
  | .trackerTimeout p => Sys2Proof.Machine.execTrackerTimeout p s
  | .accessBlockGet b idx sub p x => Sys2Proof.Machine.execAccessBlockGet b idx sub p x s
  | .accessBlockSet b idx sub p len data x => Sys2Proof.Machine.execAccessBlockSet b idx sub p len data x s
  | .directObjectRead n r wide => Sys2Proof.Machine.execDirectObjectRead n r wide s
  | .bar4Access n p => Sys2Proof.Machine.execBar4Access n p s
  | .impositionWindowOff role k v => Sys2Proof.Machine.execImpositionWindowOff role k v s
  | .interruptEvent n f v => Sys2Proof.Machine.execInterruptEvent n f v s
  | .msixUnmask n f v => Sys2Proof.Machine.execMsixUnmask n f v s
  | .hostDoorbellRing e n => Sys2Proof.Machine.execHostDoorbellRing e n s
  | .configRequest n f r w => Sys2Proof.Machine.execConfigRequest n f r w s
  | .flrInitiate n f => Sys2Proof.Machine.execFlrInitiate n f s
  | .flrComplete n f => Sys2Proof.Machine.execFlrComplete n f s
  | .bmeClear n f => Sys2Proof.Machine.execBmeClear n f s
  | .bmeSet n f => Sys2Proof.Machine.execBmeSet n f s
  | .powerStateD3hot n => Sys2Proof.Machine.execPowerStateD3hot n s
  | .powerStateD0 n => Sys2Proof.Machine.execPowerStateD0 n s
  | .vfEnable n => Sys2Proof.Machine.execVfEnable n s
  | .vfReady n => Sys2Proof.Machine.execVfReady n s
  | .vfDisable n => Sys2Proof.Machine.execVfDisable n s
  | .slotPowerOn n v => Sys2Proof.Machine.execSlotPowerOn n v s
  | .slotPowerOff n v => Sys2Proof.Machine.execSlotPowerOff n v s
  | .slotIndicatorControl n v att pow => Sys2Proof.Machine.execSlotIndicatorControl n v att pow s
  | .vcsHotReset src n v => Sys2Proof.Machine.execVcsHotReset src n v s
  | .ringAssign role r v => Sys2Proof.Machine.execRingAssign role r v s
  | .doorbellSqTail r v => Sys2Proof.Machine.execDoorbellSqTail r v s
  | .doorbellCqHead r v => Sys2Proof.Machine.execDoorbellCqHead r v s
  | .ringPause r => Sys2Proof.Machine.execRingPause r s
  | .ringResume r => Sys2Proof.Machine.execRingResume r s
  | .ringFlush r => Sys2Proof.Machine.execRingFlush r s
  | .ringClear r => Sys2Proof.Machine.execRingClear r s
  | .ringDisable r => Sys2Proof.Machine.execRingDisable r s
  | .ringBaseWrite r cq v => Sys2Proof.Machine.execRingBaseWrite r cq v s
  | .ringEnable r v => Sys2Proof.Machine.execRingEnable r v s
  | .doorbellWriteDiscard n => Sys2Proof.Machine.execDoorbellWriteDiscard n s
  | .platenDescriptorFetch u got => Sys2Proof.Machine.execPlatenDescriptorFetch u got s
  | .platenChunkService u v under => Sys2Proof.Machine.execPlatenChunkService u v under s
  | .platenAccessResponse u => Sys2Proof.Machine.execPlatenAccessResponse u s
  | .descriptorComplete r => Sys2Proof.Machine.execDescriptorComplete r s
  | .ringSquash role r v => Sys2Proof.Machine.execRingSquash role r v s
  | .ringDrainComplete r => Sys2Proof.Machine.execRingDrainComplete r s
  | .engineLoad c a size answers => Sys2Proof.Machine.execEngineLoad c a size answers s
  | .engineStore c a size v stay => Sys2Proof.Machine.execEngineStore c a size v stay s
  | .engineFence c => Sys2Proof.Machine.execEngineFence c s
  | .engineLr c a wide answers => Sys2Proof.Machine.execEngineLr c a wide answers s
  | .engineSc c a wide v answers => Sys2Proof.Machine.execEngineSc c a wide v answers s
  | .engineAmo c op a wide v answers => Sys2Proof.Machine.execEngineAmo c op a wide v answers s
  | .reservationHoldExpiry a => Sys2Proof.Machine.execReservationHoldExpiry a s
  | .mergeLineTimeout k => Sys2Proof.Machine.execMergeLineTimeout k s
  | .mergeLineResponse k => Sys2Proof.Machine.execMergeLineResponse k s
  | .netTargetTimeout t => Sys2Proof.Machine.execNetTargetTimeout t s
  | .netTargetReturn role t v => Sys2Proof.Machine.execNetTargetReturn role t v s
  | .storeFaultClear c => Sys2Proof.Machine.execStoreFaultClear c s
  | .netInterruptMessage e k v => Sys2Proof.Machine.execNetInterruptMessage e k v s
  | .interruptClaim c => Sys2Proof.Machine.execInterruptClaim c s
  | .softwareInterrupt c v => Sys2Proof.Machine.execSoftwareInterrupt c v s
  | .timerInterrupt c => Sys2Proof.Machine.execTimerInterrupt c s
  | .trayPush k n v => Sys2Proof.Machine.execTrayPush k n v s
  | .trayPop c k n => Sys2Proof.Machine.execTrayPop c k n s
  | .trayFlush k n => Sys2Proof.Machine.execTrayFlush k n s
  | .domainDrain role d => Sys2Proof.Machine.execDomainDrain role d s
  | .drainForceTimeout d => Sys2Proof.Machine.execDrainForceTimeout d s
  | .domainReopen role d => Sys2Proof.Machine.execDomainReopen role d s
  | .programLoad role v sigOk => Sys2Proof.Machine.execProgramLoad role v sigOk s
  | .programHalt role c v => Sys2Proof.Machine.execProgramHalt role c v s
  | .engineRunControl role c v => Sys2Proof.Machine.execEngineRunControl role c v s
  | .adsumFrameReceive via f => Sys2Proof.Machine.execAdsumFrameReceive via f s
  | .adsumGet => Sys2Proof.Machine.execAdsumGet s
  | .adsumSet => Sys2Proof.Machine.execAdsumSet s
  | .adsumSnapshot => Sys2Proof.Machine.execAdsumSnapshot s
  | .adsumSubscribe => Sys2Proof.Machine.execAdsumSubscribe s
  | .adsumUnsubscribe => Sys2Proof.Machine.execAdsumUnsubscribe s
  | .adsumEventSend k p => Sys2Proof.Machine.execAdsumEventSend k p s
  | .pValueDurable => Sys2Proof.Machine.execPValueDurable s
  | .spdmGetMeasurements => Sys2Proof.Machine.execSpdmGetMeasurements s
  | .spdmKeyExchange => Sys2Proof.Machine.execSpdmKeyExchange s
  | .spdmFinish => Sys2Proof.Machine.execSpdmFinish s
  | .spdmHeartbeat => Sys2Proof.Machine.execSpdmHeartbeat s
  | .spdmKeyUpdate => Sys2Proof.Machine.execSpdmKeyUpdate s
  | .spdmEndSession => Sys2Proof.Machine.execSpdmEndSession s
  | .sessionIdleTimeout n => Sys2Proof.Machine.execSessionIdleTimeout n s
  | .sessionEnd role n v => Sys2Proof.Machine.execSessionEnd role n v s
  | .i3cDynamicAddress k st a => Sys2Proof.Machine.execI3cDynamicAddress k st a s
  | .faultRaise m => Sys2Proof.Machine.execFaultRaise m s
  | .faultWordAccept => Sys2Proof.Machine.execFaultWordAccept s
  | .faultAckReceive src => Sys2Proof.Machine.execFaultAckReceive src s
  | .vcsRetrainTimer n => Sys2Proof.Machine.execVcsRetrainTimer n s
  | .logReadPointerWrite role v => Sys2Proof.Machine.execLogReadPointerWrite role v s
  | .sourceStatusClear role src v => Sys2Proof.Machine.execSourceStatusClear role src v s
  | .alarmIntervalExpiry src => Sys2Proof.Machine.execAlarmIntervalExpiry src s
  | .alarmSummaryRead role => Sys2Proof.Machine.execAlarmSummaryRead role s
  | .stopPressEntry => Sys2Proof.Machine.execStopPressEntry s
  | .stopPressDiscard => Sys2Proof.Machine.execStopPressDiscard s
  | .stopPressRecordWrite => Sys2Proof.Machine.execStopPressRecordWrite s
  | .stopPressNoticeReceive k => Sys2Proof.Machine.execStopPressNoticeReceive k s
  | .feedQualified f mV => Sys2Proof.Machine.execFeedQualified f mV s
  | .feedDamageTestEnd f bulk rose => Sys2Proof.Machine.execFeedDamageTestEnd f bulk rose s
  | .prechargeComplete f bulk => Sys2Proof.Machine.execPrechargeComplete f bulk s
  | .prechargeTimeout f => Sys2Proof.Machine.execPrechargeTimeout f s
  | .feedOvercurrent f mA => Sys2Proof.Machine.execFeedOvercurrent f mA s
  | .feedFaultTimerExpiry f => Sys2Proof.Machine.execFeedFaultTimerExpiry f s
  | .feedFastTrip f mA => Sys2Proof.Machine.execFeedFastTrip f mA s
  | .feedReverse f => Sys2Proof.Machine.execFeedReverse f s
  | .feedReverseClear f mV => Sys2Proof.Machine.execFeedReverseClear f mV s
  | .feedReversePersist f => Sys2Proof.Machine.execFeedReversePersist f s
  | .feedOvervoltage f mV => Sys2Proof.Machine.execFeedOvervoltage f mV s
  | .feedFaultClear role f v => Sys2Proof.Machine.execFeedFaultClear role f v s
  | .vsbLoss => Sys2Proof.Machine.execVsbLoss s
  | .vsbPresent straps => Sys2Proof.Machine.execVsbPresent straps s
  | .pwrgdQualify => Sys2Proof.Machine.execPwrgdQualify s
  | .vinWarnAssert rate mV => Sys2Proof.Machine.execVinWarnAssert rate mV s
  | .vinWarnDeassert mV => Sys2Proof.Machine.execVinWarnDeassert mV s
  | .slotChannelPowerOn role ch v => Sys2Proof.Machine.execSlotChannelPowerOn role ch v s
  | .slotRampComplete ch => Sys2Proof.Machine.execSlotRampComplete ch s
  | .slotRampOvercurrent ch mA => Sys2Proof.Machine.execSlotRampOvercurrent ch mA s
  | .slotRampTimeout ch mA => Sys2Proof.Machine.execSlotRampTimeout ch mA s
  | .slotSteadyTrip ch mA => Sys2Proof.Machine.execSlotSteadyTrip ch mA s
  | .slotPerstDelay ch => Sys2Proof.Machine.execSlotPerstDelay ch s
  | .slotCoolDownExpiry ch => Sys2Proof.Machine.execSlotCoolDownExpiry ch s
  | .slotLatchClear role ch v => Sys2Proof.Machine.execSlotLatchClear role ch v s
  | .slotbusIbi bus addr got => Sys2Proof.Machine.execSlotbusIbi bus addr got s
  | .slotbusRetry bus addr ack => Sys2Proof.Machine.execSlotbusRetry bus addr ack s
  | .refclkLoss r => Sys2Proof.Machine.execRefclkLoss r s
  | .refclkRelock r => Sys2Proof.Machine.execRefclkRelock r s
  | .refclkHoldoverExpiry => Sys2Proof.Machine.execRefclkHoldoverExpiry s
  | .droopDetect die mV => Sys2Proof.Machine.execDroopDetect die mV s
  | .droopClear => Sys2Proof.Machine.execDroopClear s
  | .ptpSyncReceive off => Sys2Proof.Machine.execPtpSyncReceive off s
  | .ptpSyncLoss => Sys2Proof.Machine.execPtpSyncLoss s
  | .tsyncInEdge => Sys2Proof.Machine.execTsyncInEdge s
  | .tsyncOutPulse => Sys2Proof.Machine.execTsyncOutPulse s
  | .thermalSensorRead temps => Sys2Proof.Machine.execThermalSensorRead temps s
  | .regionMonitor rails => Sys2Proof.Machine.execRegionMonitor rails s
  | .resetAssert => Sys2Proof.Machine.execResetAssert s
  | .resetRelease => Sys2Proof.Machine.execResetRelease s
  | .configurationReady keys routes => Sys2Proof.Machine.execConfigurationReady keys routes s
  | .bootDeadline => Sys2Proof.Machine.execBootDeadline s
  | .failedBootReset => Sys2Proof.Machine.execFailedBootReset s
  | .watchdogExpiry => Sys2Proof.Machine.execWatchdogExpiry s
  | .watchdogRefresh role v => Sys2Proof.Machine.execWatchdogRefresh role v s
  | .warmResetCommand role v => Sys2Proof.Machine.execWarmResetCommand role v s
  | .coldResetCommand role v => Sys2Proof.Machine.execColdResetCommand role v s
  | .bootCountClear role v => Sys2Proof.Machine.execBootCountClear role v s
  | .proofModeRequest role v => Sys2Proof.Machine.execProofModeRequest role v s
  | .debugToken role sigOk owner => Sys2Proof.Machine.execDebugToken role sigOk owner s
  | .retire role v => Sys2Proof.Machine.execRetire role v s
  | .svnFuse role v => Sys2Proof.Machine.execSvnFuse role v s
  | .portLinkRetrain role p => Sys2Proof.Machine.execPortLinkRetrain role p s
  | .portHotReset role p => Sys2Proof.Machine.execPortHotReset role p s
  | .portPerstPulse role p => Sys2Proof.Machine.execPortPerstPulse role p s
  | .clusterReset role k v => Sys2Proof.Machine.execClusterReset role k v s
  | .engineReset role c v => Sys2Proof.Machine.execEngineReset role c v s
  | .unitOffline role u => Sys2Proof.Machine.execUnitOffline role u s
  | .unitReturn role u => Sys2Proof.Machine.execUnitReturn role u s
  | .quireDrainComplete q => Sys2Proof.Machine.execQuireDrainComplete q s
  | .quireDrainLimit q => Sys2Proof.Machine.execQuireDrainLimit q s
  | .quirePowerDown q => Sys2Proof.Machine.execQuirePowerDown q s
  | .imageInstall role sig vals err => Sys2Proof.Machine.execImageInstall role sig vals err s
  | .imageRoll role => Sys2Proof.Machine.execImageRoll role s
  | .rollRejoinTimeout => Sys2Proof.Machine.execRollRejoinTimeout s
  | .heartbeatOut => Sys2Proof.Machine.execHeartbeatOut s
  | .hbInEdge => Sys2Proof.Machine.execHbInEdge s
  | .hbInLoss => Sys2Proof.Machine.execHbInLoss s
  | .bankCommit role v => Sys2Proof.Machine.execBankCommit role v s
  | .bankCommitApply => Sys2Proof.Machine.execBankCommitApply s
  | .snapshotTrigger role v => Sys2Proof.Machine.execSnapshotTrigger role v s
  | .snapshotTake => Sys2Proof.Machine.execSnapshotTake s
  | .traceTimeout r => Sys2Proof.Machine.execTraceTimeout r s
  | .traceReadPointerWrite role v => Sys2Proof.Machine.execTraceReadPointerWrite role v s
  | .tapReset => Sys2Proof.Machine.execTapReset s
  | .idcode => Sys2Proof.Machine.execIdcode s
  | .samplePreload v => Sys2Proof.Machine.execSamplePreload v s
  | .extest v => Sys2Proof.Machine.execExtest v s
  | .extestPulse v => Sys2Proof.Machine.execExtestPulse v s
  | .extestTrain v => Sys2Proof.Machine.execExtestTrain v s
  | .clamp => Sys2Proof.Machine.execClamp s
  | .highz => Sys2Proof.Machine.execHighz s
  | .dbgAccess w answers => Sys2Proof.Machine.execDbgAccess w answers s
  | .dbgChallenge => Sys2Proof.Machine.execDbgChallenge s
  | .dbgToken sigOk owner => Sys2Proof.Machine.execDbgToken sigOk owner s
  | .factoryTest n => Sys2Proof.Machine.execFactoryTest n s
  | .bypass => Sys2Proof.Machine.execBypass s
  | .selfTestStart role u v => Sys2Proof.Machine.execSelfTestStart role u v s
  | .selfTestComplete u r mem spares fails addr row => Sys2Proof.Machine.execSelfTestComplete u r mem spares fails addr row s
  | .dpcRelease n v => Sys2Proof.Machine.execDpcRelease n v s
  | .converterUndervoltageLockout mV => Sys2Proof.Machine.execConverterUndervoltageLockout mV s
  | .mgmtClkLoss => Sys2Proof.Machine.execMgmtClkLoss s
  | .msixEnableWrite n f en mask => Sys2Proof.Machine.execMsixEnableWrite n f en mask s
  | .vcsReady n => Sys2Proof.Machine.execVcsReady n s
  | .blockColourCommitComplete b => Sys2Proof.Machine.execBlockColourCommitComplete b s
  | .partnerCreditReturn p t headers data => Sys2Proof.Machine.execPartnerCreditReturn p t headers data s
  | .indicatorBlink p => Sys2Proof.Machine.execIndicatorBlink p s
  | .rollClusterRejoined => Sys2Proof.Machine.execRollClusterRejoined s

end Sys2Proof.Machine
end

