-- ==== Sys2Proof/Machine/Idle.lean ====
section
/-!
DEFINITION. The block with no command waiting: time passes by one period of its root clock (01 Table ARC-10), and what only waits for
something that has happened goes on.
-/
namespace Sys2Proof.Machine

/-- One tick: posted accesses that have left the device, stores and lines of engines, windows that drain, units whose return goes on,
answers that wait, forme-level changes, host doorbells, and an access of the debug master. [DESIGN CHOICE, log 1] -/
def idle (s : State) : State :=
  let s := advance 1 s
  settleDefer (settleForme (settleRepair (settleWindows (dbgSettle (settleNet s)))))

end Sys2Proof.Machine
end

