-- ==== Sys2Proof/Safety.lean ====
section
/-!
DEFINITION. The terms that claims about the block are made in: what a command leaves as it was, and what counts as a sound state.
-/
namespace Sys2Proof.Machine

/-- Every instance of every object but those named reads as before. -/
def ObjsKept (s t : State) (l : List (Obj × Path)) : Prop :=
  ∀ o p, (∀ e ∈ l, o.code ≠ e.1.code ∨ pathKey p ≠ pathKey e.2) → t.val o p = s.val o p

/-- Nothing but the values of objects and what the block sends has changed. -/
def OnlyStore (s t : State) : Prop := t = { s with store := t.store, out := t.out }

/-- A management write is taken: the instance has the value, every other object reads as before, the write is answered OK, and nothing
else has changed. -/
def Writes (s t : State) (o : Obj) (p : Path) (v : Nat) : Prop :=
  t.val o p = v ∧ ObjsKept s t [(o, p)] ∧ t.out = s.out ++ [.answer .ok none] ∧ OnlyStore s t

/-- A management write is turned away: its answer is the whole effect. -/
def TurnedAway (s t : State) (st : Status) : Prop := t = { s with out := s.out ++ [.answer st none] }

/-- A fault word of a source is on its way to the Proofreader, where none of that source was outstanding; else the source holds it back
(16 R446). -/
def FaultSent (s t : State) (source kind : Nat) : Prop :=
  (Tbl.look {} s.fsrc source).outstanding = false → ∃ w, t.fnet = s.fnet ++ [w] ∧ w.source = source ∧ w.kind = kind

/-- Nothing but alignment markers of a Folio port goes out: those that have fallen due (10 R296). -/
def MarkersOnly (s t : State) (p : Nat) : Prop :=
  ∃ ms : List Output, (∀ m ∈ ms, ∃ n ws, m = .markers p n ws) ∧ t.out = s.out ++ ms

/-- A flit of a type goes out at a Folio port, with no sorts and with a control block, behind the markers that have fallen due. -/
def FlitSent (s t : State) (p ty : Nat) : Prop :=
  ∃ u : State, MarkersOnly s u p ∧ ∃ c n cb w, t.out = u.out ++ [.flit p ty c n [] (some cb) w]

/-- Nothing keeps a packet of one sort that quire `q` originates toward a port from frame assembly: no bulk sort waits at a launch or in
frame assembly, no originated packet waits, no map bit holds it, its accounts have room, and so has the MGT egress queue (04 R123, R125). -/
def OriginFree (s : State) (q port : Nat) : Prop :=
  s.stg.frames = [] ∧ s.stg.closed = [] ∧ s.stg.bulkQ = [] ∧ s.gal.orig = [] ∧ mgtInside s port < 64 ∧
  (∀ e, eqBit s q port e = false) ∧ sqBit s q port = false ∧ ∀ c, originOk s q c (port / 16) 1 = true

/-- A bulk packet of one sort is originated at a quire toward a port: where nothing holds it, it is the one frame that waits for the quire
of that port (03 R84); behind a packet of its stream that waits for admission, it waits too (04 R126). -/
def SentBulk (s t : State) (q port cls : Nat) (p : Packet) : Prop :=
  ∃ x : DSort, x.srcq = q ∧ x.dport = port ∧ x.cls = cls ∧ x.pkt = p ∧
    (OriginFree s q port → Tbl.look [] t.stg.closed (8 * q + port / 16) = [[x]]) ∧
    ((∃ y ∈ Tbl.look [] s.gal.orig q, streamKey y = streamKey x) → Tbl.look [] t.gal.orig q = Tbl.look [] s.gal.orig q ++ [x])

/-- Every byte of the block's memory outside a span reads as before. -/
def MemKept (s t : State) (a len : Nat) : Prop := ∀ b, b < a ∨ a + len ≤ b → memByte t.mem b = memByte s.mem b

/-- The home of a quire has nothing of its own to do at the end of a command: no line is kicked, no slot is leaving, no poison or internal write
waits to leave, and no unicast snoop waits to be issued. -/
def HomeQuiet (s : State) (q : Nat) : Prop :=
  s.home.kick = [] ∧ s.home.leaving = [] ∧ Tbl.look [] s.home.toPoison q = [] ∧ (∀ o ∈ opsOf s q, o.todo = []) ∧
  ∀ e ∈ s.home.lines, ¬ (e.2.q = q ∧ e.2.begun = true ∧ e.2.sent = false ∧ innerWrite e.2 = true)

/-- A domain slot of this word is of no enabled VCS of this member: no Imprint table changes with it (12 R351). -/
def ImprintKept (s : State) (w : Nat) : Prop :=
  bits w 11 8 ≠ ownPos s ∨ w = 0xFFFF ∨ s.flag o4100_02 [pVCS (bits w 5 0)] = false

/-- A device that carries a forme-level change out when it is told to: it stands alone, or another member is the lead (02 R67, R68). -/
def NoLead (s : State) : Prop := formed s = true → s.val o4200_07 [] ≠ ownPos s

/-- The lead of a forme has its standby record a change before it carries it out (02 R67, R68): the standby is told, the change waits, and
nothing else happens yet. -/
def RecordedFirst (s t : State) (c : FChange) (who : ChangeFor) : Prop :=
  t = { s with
    out := s.out ++ [.forme (s.val o4200_09 []) (.record s.forme.nextChange c)]
    forme := { s.forme with
      waits := s.forme.waits ++ [⟨s.forme.nextChange, c, who, false⟩], nextChange := s.forme.nextChange + 1 } }

/-- The lead can take a change now: none like it waits, it can be done, and there is a standby. -/
def LeadTakes (s : State) (c : FChange) : Prop :=
  formed s = true ∧ s.val o4200_07 [] = ownPos s ∧ (s.forme.waits.any fun w => !w.done && sameChange w.c c) = false ∧
  (carryOut c none s).1 = .ok ∧ s.val o4200_09 [] ≠ 0xFF

/-- A configuration request of the host of a VCS to a function completes (12 R364): the VCS is enabled and its link up, and the function is there
and ready. -/
def HostTakes (s : State) (n : Nat) (f : Func) : Prop :=
  s.flag o4100_02 [pVCS n] = true ∧ s.val o4100_05 [pVCS n] = 2 ∧ hasFunc s n f = true ∧ retryStatus s n f = false

/-- Nothing of the engines is under way but the command itself: no merge line, no hold, no drain, no doorbell that waits, and no engine has a
store in its buffer, an access or a halt under way. -/
def NetQuiet (s : State) : Prop :=
  s.net.merge = [] ∧ s.net.holds = [] ∧ s.net.drainAt = [] ∧ s.host.bells = [] ∧
  ∀ e ∈ s.net.eng, e.2.sb = [] ∧ e.2.wait = none ∧ e.2.halting = false

/-- An address of the spine's SRAM or of a cluster's shared SRAM, by its network target (14 Table CMP-2). -/
def SramAt (a tg : Nat) : Prop := (placeOf a).map targetOf = some tg ∧ (tg = 241 ∨ 192 ≤ tg ∧ tg < 204)

/-- The sound states: the block's memory is in its canonical form. -/
def Sound (s : State) : Prop := Memory.wf s.mem = true

end Sys2Proof.Machine
end

