-- ==== Sys2Proof/Certificates/Slice0/Obligations.lean ====
section
/-!
DEFINITION. The statements about this model. Each quantifies over every state and every operand that meets its hypotheses; what it says
of the state after a command is the model's reading of the rules it cites.
-/
open Sys2Proof Sys2Proof.Machine

/-- A step runs the command at the front of the queue. For every command c and every state s, a step of s with c at the front of its queue
is exec of c on s with the queue's rest. The queue itself is the model's own (assumption 1), no state of the manual. -/
def Obligations.StepRunsFrontCommand : Prop :=
  ∀ (c : Instr) (rest : List Instr) (s : State),
    step { s with pending := c :: rest } = exec c { s with pending := rest }

/-- What reset leaves in each kind of state. After reset every engine is HALTED, every network target is OK, no virtual switch is enabled,
every queue of the Galley is empty at generation 0 with its flags clear, each collation window has 64 credits, no fault is in the
network, no command waits, and the memory lists no byte. That memory reads 0 before it is written, and the state of the supplies and
pins at reset, are the model's choices (assumptions 2 and 3). -/
def Obligations.ResetLeavesBlockUnconfigured : Prop :=
  (∀ c : Fin 192, State.reset.val o7000_01 [pC c.val] = 0) ∧
  (∀ t : Fin 256, State.reset.val o7030_01 [pNT t.val] = 0) ∧
  (∀ n : Fin 64, State.reset.val o4100_02 [pVCS n.val] = 0) ∧
  (∀ q : QRef, queueOf State.reset q = {}) ∧
  (∀ i e : Fin 8, State.reset.val o4022_01 [pQ i.val, pQ e.val] = 64) ∧
  State.reset.fnet = [] ∧ State.reset.pending = [] ∧ (∀ a, memByte State.reset.mem a = 0)

/-- The memory is in its canonical form after reset. The memory of the state after reset is in its canonical form: addresses strictly
rising, and no byte listed that an unlisted address would read as. The form is the model's own. -/
def Obligations.ResetIsSound : Prop :=
  Sound State.reset

/-- Every step keeps the memory in its canonical form. From every state whose memory is in its canonical form (addresses strictly rising,
no entry at the value an unlisted byte reads as), whatever command is at the front of the queue or none, a step that answers a next
state leaves the memory in that form: so two states whose memories read alike at every address hold equal memories, after every store
of an engine, a Platen unit or the debug master, every load of a program, every reset and every test. -/
def Obligations.EveryStepKeepsMemoryCanonical : Prop :=
  ∀ s t : State, Sound s → step s = .next t → Sound t

/-- No command stops the block. Every command answers a next state in every state: none ends in a fault or a refusal, since every condition
that the manual describes is an effect on the state or an answer. -/
def Obligations.EveryCommandIsTaken : Prop :=
  ∀ (c : Instr) (s : State), ∃ t, exec c s = .next t

/-- Bytes of memory read back as written, lowest byte first, and no other byte changes. After n bytes of a value are written at an address,
those n bytes read back as the value modulo 256 to the n, lowest byte at the lowest address; every byte outside them reads as before;
and the canonical form is kept where it held. -/
def Obligations.MemoryReadsBackWhatWasWritten : Prop :=
  ∀ (m : List Host.Cell) (a n v : Nat),
    memRead (memWrite m a n v) a n = v % 256 ^ n ∧
    (∀ b, b < a ∨ a + n ≤ b → memByte (memWrite m a n v) b = memByte m b)

/-- A slot of stage 1 launches a waiting express sort, a slot of stage 2 delivers one, and a second slot of a stage advances the slot
counter. STAGE1_SLOT, in a slot not served yet, with one sort in all launch queues and no originated packet waiting, toward quire m =
(i + t + sheet) mod 8, not held by live repair and with no dark quire: the launch queue is empty afterwards and the sort is in its
stage queue at m, ready 18 ns later. STAGE2_SLOT, with one ready express sort in all Galley queues and fewer than 64 of its class on
their way to its port, on the sheet of (m, egress quire): the sort leaves its queue and is on its way to the egress quire, arriving 7
ns later. A slot of stage 1 asked for again in a slot already served begins the next slot: the slot counter is one higher. The
latencies are those of Tables ARC-7 and PLN-3. -/
def Obligations.SlotsCarrySortsAcrossTheSheets : Prop :=
  (∀ (s : State) (i : Fin 8) (sh : Fin 5) (c : Fin 4) (p : Fin 128) (x : DSort),
      let m := (i.val + s.clk.slot + sh.val) % 8
      s.clk.done1 = false → s.stg.expQ = [(creditKey i.val m c.val, [x])] → s.stg.bulkQ = [] → s.gal.orig = [] →
      (∀ q, quireDark s q = false) → expressHeld s x = false → x.home = false →
      x.cls = c.val → x.srcq = i.val → x.dport = p.val → queueOf s (stageRef m p.val c.val) = {} →
      ∃ t, exec (.stage1Slot none) s = .next t ∧ t.stg.expQ = [] ∧ t.clk = { s.clk with done1 := true } ∧
        ∃ g : GEnt, (queueOf t (stageRef m p.val c.val)).ents = [g] ∧ g.x = x ∧ g.ready = s.clk.now + ns 18) ∧
  (∀ (s : State) (m : Fin 8) (sh : Fin 5) (c : Fin 4) (p : Fin 128) (g : GEnt),
      let e := p.val / 16
      e = (m.val + s.clk.slot + sh.val) % 8 → s.clk.done2 = false →
      s.gal.queues = [((stageRef m.val p.val c.val).key, { ents := [g] })] → g.ready ≤ s.clk.now →
      (∀ q, quireDark s q = false) → g.x.home = false → g.x.cls = c.val → comingDepth s p.val c.val < 64 →
      ∃ t, exec (.stage2Slot none) s = .next t ∧ (queueOf t (stageRef m.val p.val c.val)).ents = [] ∧
        Tbl.look [] t.stg.toEgress e = Tbl.look [] s.stg.toEgress e ++ [⟨s.clk.now + ns 7, g.x⟩] ∧
        t.clk = { s.clk with done2 := true }) ∧
  (∀ s : State, s.clk.done1 = true → 0 < cycle s → s.clk.now < s.clk.slotAt + cycle s → s.clk.slotAt ≤ s.clk.now →
      s.stg.expQ = [] → s.stg.bulkQ = [] → s.gal.orig = [] →
      ∃ t, exec (.stage1Slot none) s = .next t ∧ t.clk.slot = s.clk.slot + 1 ∧ t.clk.now = s.clk.slotAt + cycle s)

/-- The frame timer closes the oldest open frame, and a closed frame is spread over the intermediates in rotation. FRAME_TIMER_EXPIRY of a
quire with an open frame: time has reached the frame's first sort plus the quire's frame timer, the frame is no longer open, and its
sorts are the last closed frame toward their egress quire. FRAME_SPREAD of a pair of quires with a closed frame of at most 8 sorts,
with no quire contained or under repair: sort j of the frame enters the bulk launch queue of intermediate (pointer + j) mod 8, with its
place j and the frame's length less one, and the pointer moves on by the frame's length. -/
def Obligations.FramesCloseAndSpread : Prop :=
  (∀ (s : State) (q : Fin 8) (k : Nat) (x : DSort) (r : List DSort) (f : Frame),
      oldestFrame s q.val = some (k, f) → Tbl.look {} s.stg.frames k = f → f.sorts = x :: r →
      ∃ t, exec (.frameTimerExpiry q) s = .next t ∧
        f.since + ns (s.val o4020_01 [pQ q.val]) ≤ t.clk.now ∧
        Tbl.look {} t.stg.frames k = {} ∧
        Tbl.look [] t.stg.closed (8 * x.srcq + x.dstq) = Tbl.look [] s.stg.closed (8 * x.srcq + x.dstq) ++ [x :: r] ∧
        t = { s with clk := t.clk, stg := t.stg }) ∧
  (∀ (s : State) (i e : Fin 8) (f : List DSort) (r : List (List DSort)),
      let rot := Tbl.look 0 s.stg.rot (8 * i.val + e.val)
      Tbl.look [] s.stg.closed (8 * i.val + e.val) = f :: r → f.length ≤ 8 → (∀ m, bulkQuire s m = m) →
      ∃ t, exec (.frameSpread i e) s = .next t ∧
        Tbl.look 0 t.stg.rot (8 * i.val + e.val) = (rot + f.length) % 8 ∧
        (∀ (j : Nat) (x : DSort), f[j]? = some x →
          let k := 64 * i.val + 8 * ((rot + j) % 8) + e.val
          Tbl.look [] t.stg.bulkQ k = Tbl.look [] s.stg.bulkQ k ++
            [⟨s.stg.nextFid, { x with midq := (rot + j) % 8, fidx := j, flen := f.length - 1 }⟩]) ∧
        (r ≠ [] → Tbl.look [] t.stg.closed (8 * i.val + e.val) = r))

/-- A sort that arrives at its egress quire is queued, held or passed over, and a gap that does not fill is closed. STAGE2_ARRIVAL, header
good: an express sort for a port whose link is not lost joins the port's class queue, where no flush or reset is at work there; a bulk
sort ahead of the expected number of its stream is held in collation; one whose number was passed over is counted in 0x403A.03 and
discarded. COLLATION_GAP_TIMEOUT of a quire that holds one sort, which begins no packet, and none of whose packet was queued: the
buffer is empty, the abandoned packet is counted in 0x4022.03, a fault collation-gap is raised at the quire, and the stream
resynchronises at one past the highest number received. -/
def Obligations.SortsArriveAndCollate : Prop :=
  (∀ (s : State) (e : Fin 8) (w : TSort) (r : List TSort) (p : Fin 128) (c : Fin 4),
      Tbl.look [] s.stg.toEgress e.val = w :: r → w.x.cls = c.val → w.x.dport = p.val → w.x.unit = none → portLost s p.val = false →
      let q := queueOf s (classRef p.val c.val)
      q.broken = false → q.drop = [] → q.flush = none →
      ∃ t, exec (.stage2Arrival e none) s = .next t ∧ Tbl.look [] t.stg.toEgress e.val = r ∧ w.at_ ≤ t.clk.now ∧
        ∃ g : GEnt, (queueOf t (classRef p.val c.val)).ents = (queueOf s (classRef p.val c.val)).ents ++ [g] ∧ g.x = w.x) ∧
  (∀ (s : State) (e : Fin 8) (w : TSort) (r : List TSort),
      Tbl.look [] s.stg.toEgress e.val = w :: r → 4 ≤ w.x.cls →
      0 < seqAhead s (streamKey w.x) w.x.seq → seqAhead s (streamKey w.x) w.x.seq < 512 →
      ∃ t, exec (.stage2Arrival e none) s = .next t ∧
        Tbl.look [] t.stg.coll e.val = Tbl.look [] s.stg.coll e.val ++ [⟨max s.clk.now w.at_, w.x⟩] ∧
        derived t o4022_04 [pQ e.val] = some ((Tbl.look [] s.stg.coll e.val).length + 1)) ∧
  (∀ (s : State) (e : Fin 8) (w : TSort) (r : List TSort),
      Tbl.look [] s.stg.toEgress e.val = w :: r → 4 ≤ w.x.cls → 512 ≤ seqAhead s (streamKey w.x) w.x.seq →
      ∃ t, exec (.stage2Arrival e none) s = .next t ∧ t.stg.coll = s.stg.coll ∧ t.gal.queues = s.gal.queues ∧
        t.val o403A_03 [pQ e.val] = min (s.val o403A_03 [pQ e.val] + 1) 0xFFFFFFFF) ∧
  (∀ (s : State) (e : Fin 8) (w : TSort),
      let k := streamKey w.x
      Tbl.look [] s.stg.coll e.val = [w] → w.x.sop = false → (s.gal.queues.any fun g => g.2.pushing.any (·.1 == k)) = false →
      ∃ t, exec (.collationGapTimeout e) s = .next t ∧ Tbl.look [] t.stg.coll e.val = [] ∧
        t.val o4022_03 [pQ e.val] = min (s.val o4022_03 [pQ e.val] + 1) 0xFFFFFFFF ∧
        FaultSent s t (0x2A8 + e.val) 0x03 ∧
        Tbl.look 0 t.stg.expect k = Tbl.look 0 s.stg.highest k ∧ Tbl.look false t.stg.resync k = true ∧
        w.at_ + us (s.val o4022_02 [pQ e.val]) ≤ t.clk.now)

/-- An elastic buffer that drifts, returns or overruns shows it, and raises its fault. ELASTIC_DRIFT of a crossing neither drifted nor
failed: its occupancy is 1, or 7, it is drifted, its bit of 0x4024.03 is set, and elastic-drift is raised at the quire's crossing
source. ELASTIC_DRIFT_END of a drifted crossing whose occupancy has come back to 2-6: it is not drifted, and at least 1 us has passed
since it came back. ELASTIC_OVERRUN of a crossing that has not failed: its occupancy is 0, or 8, it has failed, and elastic-overrun is
raised. In each case nothing but the crossing, the clock, that object and the fault changes. -/
def Obligations.CrossingsDriftAndOverrun : Prop :=
  (∀ (s : State) (q : Fin 8) (x : Fin 20) (high : Bool),
      (crossOf s q.val x.val).drifted = false → (crossOf s q.val x.val).failed = false →
      ∃ t, exec (.elasticDrift q x high) s = .next t ∧
        crossOf t q.val x.val = { crossOf s q.val x.val with occ := if high then 7 else 1, drifted := true } ∧
        t.val o4024_03 [pQ q.val] = s.val o4024_03 [pQ q.val] ||| 2 ^ x.val ∧ ObjsKept s t [(o4024_03, [pQ q.val])] ∧
        FaultSent s t (0x2B0 + q.val) 0x04 ∧
        t = { s with stg := t.stg, store := t.store, fsrc := t.fsrc, fnet := t.fnet }) ∧
  (∀ (s : State) (q : Fin 8) (x : Fin 20),
      let c := crossOf s q.val x.val
      c.drifted = true → c.failed = false → 2 ≤ c.occ → c.occ ≤ 6 →
      ∃ t, exec (.elasticDriftEnd q x) s = .next t ∧ crossOf t q.val x.val = { c with drifted := false } ∧
        c.since + us 1 ≤ t.clk.now ∧ t = { s with stg := t.stg, clk := t.clk }) ∧
  (∀ (s : State) (q : Fin 8) (x : Fin 20) (high : Bool),
      (crossOf s q.val x.val).failed = false →
      ∃ t, exec (.elasticOverrun q x high) s = .next t ∧
        (crossOf t q.val x.val).occ = (if high then 8 else 0) ∧ (crossOf t q.val x.val).failed = true ∧
        FaultSent s t (0x2B0 + q.val) 0x05 ∧
        t = { s with stg := t.stg, fsrc := t.fsrc, fnet := t.fnet })

/-- A space is locked, a key-table commit activates the shadow bank whole and copies it back, and damage to a plate closes it. PLATE_LOCK
with 1, admitted by the gate of management writes: the space is locked where no plate breaks R262, else the write is refused.
KEY_TABLE_COMMIT with the next generation, no commit under way and a sound shadow bank: the commit state is 1; any other value is
refused. KEY_COMMIT_COMPLETE of that commit: the generation advances by one modulo 65,536, every initiator's active key set is its
shadow key set, and the state is 2. KEY_SHADOW_COPY_COMPLETE: every shadow key set is the active one, and the state is 0.
PLATE_BACKGROUND_CHECK that finds nothing changes nothing; an uncorrectable error of a plate in the master copy sets its DENYALL,
counts it, and raises plate-failed at the key-table source of the plates. A single-bit error in a colour slot of a key set raises
keyset-corrected and changes no object; a double-bit error in an active slot makes that slot read as 0 and raises keyset-failed. -/
def Obligations.FrisketPlatesAndKeys : Prop :=
  (∀ (role : Role) (sp : Fin 2) (s : State), writeGate role o6001_00 [pSPACE sp.val] s = none →
      ∃ t, exec (.plateLock role sp 1) s = .next t ∧
        (if lockFaulty s sp.val then TurnedAway s t .refused else Writes s t o6001_01 [pSPACE sp.val] 1)) ∧
  (∀ (role : Role) (v : Nat) (s : State), writeGate role o6020_01 [] s = none →
      ∃ t, exec (.keyTableCommit role v) s = .next t ∧
        (if v = (s.val o6020_02 [] + 1) % 65536 ∧ s.val o6020_03 [] = 0 ∧ shadowFaulty s = false
          then Writes s t o6020_03 [] 1 else TurnedAway s t .refused)) ∧
  (∀ s : State, s.val o6020_03 [] = 1 →
      ∃ t, exec .keyCommitComplete s = .next t ∧ t.val o6020_02 [] = (s.val o6020_02 [] + 1) % 65536 ∧ t.val o6020_03 [] = 2 ∧
        (∀ i : Fin 6432, t.val o6010_02 [pIN i.val] = s.val o6010_01 [pIN i.val]) ∧ t = { s with store := t.store, frisk := { s.frisk with changed := [] } }) ∧
  (∀ s : State, s.val o6020_03 [] = 2 →
      ∃ t, exec .keyShadowCopyComplete s = .next t ∧ t.val o6020_02 [] = s.val o6020_02 [] ∧ t.val o6020_03 [] = 0 ∧
        (∀ i : Fin 6432, t.val o6010_01 [pIN i.val] = s.val o6010_02 [pIN i.val]) ∧ t = { s with store := t.store }) ∧
  (∀ s : State, exec (.plateBackgroundCheck none) s = .next s) ∧
  (∀ (s : State) (sp : Fin 2) (pl : Fin 4096) (g : Option (Fin 4096)),
      plateDenyall (s.val o6000_01 [pSPACE sp.val, pPL pl.val]) = false →
      ∃ t, exec (.plateBackgroundCheck (some (.plate ⟨sp, pl, none, some .double, g⟩))) s = .next t ∧
        plateDenyall (t.val o6000_01 [pSPACE sp.val, pPL pl.val]) = true ∧
        t.val o6001_02 [pSPACE sp.val] = s.val o6001_02 [pSPACE sp.val] + 1 ∧ FaultSent s t 0x504 0x24 ∧
        ObjsKept s t [(o6000_01, [pSPACE sp.val, pPL pl.val]), (o6001_02, [pSPACE sp.val])]) ∧
  (∀ (s : State) (i : Fin 8192) (k : Fin 16) (a : Bool), ∃ t, exec (.plateBackgroundCheck (some (.key i k a .single))) s = .next t ∧
      FaultSent s t 0x503 0x26 ∧ ObjsKept s t []) ∧
  (∀ (s : State) (i : Fin 8192) (k : Fin 16), ∃ t, exec (.plateBackgroundCheck (some (.key i k true .double))) s = .next t ∧
      bits (t.val o6010_02 [pIN i.val]) (16 * k.val + 15) (16 * k.val) = 0 ∧ FaultSent s t 0x503 0x27 ∧
      ObjsKept s t [(o6010_02, [pIN i.val])])

/-- A packet that enters at a port waits in its intake once it is routed and Frisket allows it; a refused one is counted.
INGRESS_PACKET_RECEIVE at an upstream or downstream port whose link is up, in a quire that carries sorts, outside stop-press, of a
packet (no link management packet) that names an address, routed to a port, with no DPC trigger and no viral host in its way and Bus
Master Enable where it needs it. One that needs no check, or that the port's checker allows and whose range takes it, is the last of
its intake FIFO with the address and the source that the device gave it. One that the checker refuses counts a refusal at the quire's
checker, and no intake changes. -/
def Obligations.IngressRoutesAndChecks : Prop :=
  ∀ (s : State) (port : Fin 128) (p : Packet) (a d l : Nat),
    let q := markSource s port.val { p with addr := a }
    let u := if q.op.channel = 6 then nameTag port.val q s else s
    let at_ := checkAddr u port.val q (.port d l)
    let asks := (friskAsk (ckPort port.val) (initOf u port.val q.ld.val) q.pasid 0 at_ (accessLen q) false u).1
    (roleOf s port.val = 1 ∨ roleOf s port.val = 2) → linkOf s port.val = 2 → quireDark s (quireOf port.val) = false →
    inStopPress s = false → p.op ≠ .dllp → innerAddr s port.val p = some a → a < 2 ^ 64 → at_ < 2 ^ 64 →
    (q.op.channel ≠ 1 ∨ ∀ n, vcsOfUp s port.val = some n → s.flag o9030_02 [pVCS n] = false) →
    routePacket u port.val q = (.port d l, u) →
    (roleOf s port.val = 2 → dpcAt s port.val q.ld.val = false) → (roleOf s d = 2 → dpcAt s d l = false) →
    busMasterOk u port.val q (.port d l) = true →
    ((checkedOp q.op = false ∨ (asks = .allow ∧ ∀ v, cacheOutside v q = false)) →
      ∃ t, exec (.ingressPacketReceive port p) s = .next t ∧ t.out = s.out ∧
        ∃ r : Routed, intakeOf t port.val (fifoOf s port.val q q.op.cls) = intakeOf s port.val (fifoOf s port.val q q.op.cls) ++ [r] ∧
          r.pkt = q ∧ r.dport = d ∧ r.sport = port.val) ∧
    (∀ reason pl, checkedOp q.op = true → asks = .refuse reason pl →
      ∃ t, exec (.ingressPacketReceive port p) s = .next t ∧ t.gal.intake = s.gal.intake ∧
        t.val o6030_01 [pQ (quireOf port.val)] = min (s.val o6030_01 [pQ (quireOf port.val)] + 1) o6030_01.hi)

/-- Admission charges a bulk packet to its port's account, and takes a class credit for an express message. INTAKE_ADMISSION of a bulk
packet at the head of its FIFO that may ask, has asked before, carries no check, and that nothing holds: it leaves the FIFO, its port's
account toward the egress quire is charged with its sorts, its stream's sequence number has moved on by them, and the intake state is
0; where its account holds it and no flow limiter is bound, it stays, the intake state is 2 and the sheets are as before.
EXPRESS_ADMISSION of a message: with a class credit, and room for its answers where it draws any, it leaves the FIFO, takes one credit,
and is last in the launch queue of its intermediate; else it stays and the intake state is 4. That room is asked for at admission is
the model's choice (assumption 182). -/
def Obligations.IntakeAdmitsPacketsAndMessages : Prop :=
  (∀ (s : State) (p : Fin 128) (f : Fin 64) (r : Routed) (rest : List Routed),
      let x := onVc s (routedSort r (substQuire s r.midq) r.trace)
      intakeOf s p.val f.val = r :: rest → 4 ≤ r.cls → mayAsk s p.val f.val r = true → r.chk = none → r.asked = true →
      (bulkHold s x = none →
        ∃ t, exec (.intakeAdmission p f) s = .next t ∧ intakeOf t p.val f.val = rest ∧
          t.val o4034_03 [pP x.sport, pQ x.dstq] = s.val o4034_03 [pP x.sport, pQ x.dstq] + x.pkt.sorts ∧
          Tbl.look 0 t.stg.seq (streamKey x) = (Tbl.look 0 s.stg.seq (streamKey x) + x.pkt.sorts) % 1024 ∧
          t.val o4034_06 [pP p.val] = 0) ∧
      (bulkHold s x = some .account → limiterOf s 2 x.sport x.dport = none →
        ∃ t, exec (.intakeAdmission p f) s = .next t ∧ intakeOf t p.val f.val = r :: rest ∧
          t.val o4034_06 [pP p.val] = 2 ∧ t.stg = s.stg ∧ ObjsKept s t [(o4034_06, [pP p.val])])) ∧
  (∀ (s : State) (p : Fin 128) (f : Fin 64) (r : Routed) (rest : List Routed),
      let m := substQuire s r.midq
      let i := quireOf r.sport
      let room := entryRoom s (routedSort r m r.trace)
      intakeOf s p.val f.val = r :: rest → r.cls < 4 → mayAsk s p.val f.val r = true → r.chk = none → r.asked = true →
      (0 < creditOf s i m r.cls → room = true →
        ∃ t, exec (.expressAdmission p f) s = .next t ∧ intakeOf t p.val f.val = rest ∧
          creditOf t i m r.cls = creditOf s i m r.cls - 1 ∧ t.val o4034_06 [pP p.val] = 0 ∧
          ∃ y : DSort, Tbl.look [] t.stg.expQ (creditKey i m r.cls) = Tbl.look [] s.stg.expQ (creditKey i m r.cls) ++ [y] ∧
            y.pkt = r.pkt) ∧
      (creditOf s i m r.cls = 0 ∨ room = false →
        ∃ t, exec (.expressAdmission p f) s = .next t ∧ intakeOf t p.val f.val = r :: rest ∧
          t.val o4034_06 [pP p.val] = 4 ∧ t.stg = s.stg))

/-- A flush empties a queue or waits, a failed check resets one under the next generation, and the end of its sweep shows. QUEUE_FLUSH with
1, admitted by the gate, of a bulk egress queue no packet of which is being popped or pushed: the queue holds nothing; with one being
popped or pushed the flush waits for it and the queue stays; the write is answered OK. DESCRIPTOR_CHECK_TIMER that finds a mismatch on
a queue, no other queue being broken: the queue is at its reset values with the next generation modulo 4, keeping only that the rest of
a packet being pushed is discarded (the model's choice, assumption 35); the reset is counted, the quire sweeps, queue-reset is raised
at it, and the old list waits for the sweep. QUEUE_SWEEP_COMPLETE of the only sweep of a quire: it is over, and 0x403A.02 reads 0. -/
def Obligations.GalleyQueuesFlushResetAndSweep : Prop :=
  (∀ (role : Role) (p : Fin 128) (e : Fin 256) (s : State), writeGate role o4032_05 [pP p.val, pEQ e.val] s = none →
      let v := queueOf s (egressRef p.val e.val)
      ∃ t, exec (.queueFlush role p e 1) s = .next t ∧ t.out.getLast? = some (.answer .ok none) ∧
        (v.popping = none → v.pushing = [] → (queueOf t (egressRef p.val e.val)).ents = []) ∧
        (v.popping.isSome = true ∨ v.pushing ≠ [] → (queueOf t (egressRef p.val e.val)).ents = v.ents ∧
          (queueOf t (egressRef p.val e.val)).flush = some (.completerAbort, v.pushing))) ∧
  (∀ (s : State) (q : QRef), (∀ e ∈ s.gal.queues, e.2.broken = false) →
      ∃ t, exec (.descriptorCheckTimer (some q)) s = .next t ∧
        queueOf t q = { gen := ((queueOf s q).gen + 1) % 4, drop := (queueOf s q).drop ++ (queueOf s q).pushing } ∧
        t.gal.swept = s.gal.swept ++ [⟨q, (queueOf s q).gen, (queueOf s q).ents⟩] ∧
        t.val o403A_01 [pQ q.quire] = min (s.val o403A_01 [pQ q.quire] + 1) o403A_01.hi ∧ t.val o403A_02 [pQ q.quire] = 1 ∧
        FaultSent s t (0x2A0 + q.quire) 0x08) ∧
  (∀ (s : State) (q : Fin 8) (w : Swept) (r : List Swept),
      s.gal.swept = w :: r → w.queue.quire = q.val → (∀ v ∈ r, v.queue.quire ≠ q.val) →
      ∃ t, exec (.queueSweepComplete q) s = .next t ∧ t.gal.swept = r ∧ t.val o403A_02 [pQ q.val] = 0)

/-- The audit latches counts everywhere at one instant, and quires exchange congestion maps. CREDIT_AUDIT: every intermediate has latched
its received counts of every source and express class, and nothing but the Galley and the clock changes. CONGESTION_MAP_SEND of a
quire: one map, with the quire's map sequence number, its bulk egress queues and its ports under back-pressure, is last on its way to
every quire, and the sequence number moves on modulo 4,096. CONGESTION_MAP_RECEIVE of the oldest map of a sender: with a good CRC and
the expected number it is the map the receiver acts on, and its bits hold; with a bad CRC every bit of that sender counts as set, and
map-lost is raised at the receiver. -/
def Obligations.CreditAuditAndCongestionMaps : Prop :=
  (∀ s : State, ∃ t, exec .creditAudit s = .next t ∧ s.clk.now ≤ t.clk.now ∧ t = { s with gal := t.gal, clk := t.clk } ∧
      (∀ (m i : Fin 8) (c : Fin 4), (Tbl.look none t.gal.latched m.val).map (fun l => Tbl.look 0 l (4 * i.val + c.val)) =
        some (Tbl.look 0 s.gal.received (creditKey i.val m.val c.val)))) ∧
  (∀ (s : State) (q : Fin 8), ∃ t, exec (.congestionMapSend q) s = .next t ∧
      (∀ r : Fin 8, ∃ m : CMap, Tbl.look [] t.gal.maps (8 * r.val + q.val) = Tbl.look [] s.gal.maps (8 * r.val + q.val) ++ [m] ∧
        m.mseq = Tbl.look 0 s.gal.mseq q.val ∧ m.eqbp = eqbpOf s q.val ∧ m.sqbp = sqbpOf s q.val) ∧
      Tbl.look 0 t.gal.mseq q.val = (Tbl.look 0 s.gal.mseq q.val + 1) % 4096 ∧ t = { s with gal := t.gal, clk := t.clk }) ∧
  (∀ (s : State) (r e : Fin 8) (m : CMap) (l : List CMap), let k := 8 * r.val + e.val
      Tbl.look [] s.gal.maps k = m :: l → m.mseq = (Tbl.look {} s.gal.mapIn k).next →
      ∃ t, exec (.congestionMapReceive r e false) s = .next t ∧ Tbl.look [] t.gal.maps k = l ∧
        (Tbl.look {} t.gal.mapIn k).map = m ∧ (Tbl.look {} t.gal.mapIn k).good = true ∧
        (Tbl.look {} t.gal.mapIn k).next = (m.mseq + 1) % 4096) ∧
  (∀ (s : State) (r e : Fin 8) (m : CMap) (l : List CMap), let k := 8 * r.val + e.val
      Tbl.look [] s.gal.maps k = m :: l →
      ∃ t, exec (.congestionMapReceive r e true) s = .next t ∧ Tbl.look [] t.gal.maps k = l ∧
        (Tbl.look {} t.gal.mapIn k).good = false ∧ FaultSent s t (0x2C8 + r.val) 0x09 ∧
        t = { s with gal := t.gal, fsrc := t.fsrc, fnet := t.fnet })

/-- A port sends the express message that wins its arbiter, partner credits add up, a limiter starts eligible, and the wheel turns.
EGRESS_GRANT of a PCIe or CXL port with a sendable express head and nothing waiting in the lower tiers or sent in part: the message,
alone in its queue and not changed by a viral host, is sent on the link (at a downstream port with the LD it goes to), and one partner
credit of its channel is spent. PARTNER_CREDIT_RETURN at such a port with nothing staged in the VC: the credits of the type grow by
what the partner gave. LIMITER_TARGET_WRITE of a free target in the limiter's quire, the limiter not on the wheel: the record is taken
with its reserved bits dropped and the limiter is eligible at once. WHEEL_SLOT: the wheel's slot is the next, or that of the time where
it has passed, its time has come, and no entry of the quire due by then is left on the near wheel. -/
def Obligations.EgressPortsGrantAndLimit : Prop :=
  (∀ (s : State) (p : Fin 128) (c : Fin 4) (g : GEnt), roleOf s p.val ≠ 3 → Tbl.look none s.egr.rest p.val = none →
      tier1 s p.val = some (classRef p.val c.val) → tier2 s p.val = none → tier3 s p.val = false →
      (queueOf s (classRef p.val c.val)).ents = [g] → (queueOf s (classRef p.val c.val)).broken = false → g.x.cls = c.val →
      let k0 := { g.x.pkt with poison := g.x.pkt.poison || g.x.poison }
      viralData s p.val { g.x with pkt := k0 } = { g.x with pkt := k0 } →
      let k := p.val * 32 + 12 + g.x.pkt.op.channel
      ∃ t, exec (.egressGrant p none) s = .next t ∧ (queueOf t (classRef p.val c.val)).ents = [] ∧
        t.out = s.out ++ [Output.link p.val (if roleOf s p.val = 2 then { k0 with ld := Fin.ofNat 16 g.x.dld } else k0)] ∧ credHOf t k = credHOf s k - 1) ∧
  (∀ (s : State) (p : Fin 128) (ty : Fin 24) (h d : Nat), (roleOf s p.val = 1 ∨ roleOf s p.val = 2) →
      (12 ≤ ty.val ∨ Tbl.look [] s.egr.staging (p.val * 4 + ty.val / 3) = []) →
      let k := p.val * 32 + ty.val
      ∃ t, exec (.partnerCreditReturn p ty h d) s = .next t ∧ credHOf t k = credHOf s k + h ∧ credDOf t k = credDOf s k + d ∧
        (∀ j, j ≠ k → credHOf t j = credHOf s j ∧ credDOf t j = credDOf s j) ∧ t = { s with egr := t.egr }) ∧
  (∀ (role : Role) (q : Fin 8) (n : Fin 8192) (v : Nat) (s : State), v < 2 ^ 32 →
      writeGate role o4044_01 [pQ q.val, pRL n.val] s = none →
      let kind := bits v 31 30
      let l := q.val * 8192 + n.val
      (kind = 1 ∨ kind = 2) → quireOf (bits v 29 23) = q.val →
      limiterOf s kind (bits v 29 23) (if kind = 1 then bits v 22 15 else bits v 14 8) = none → onWheel s l = false →
      ∃ t, exec (.limiterTargetWrite role q n v) s = .next t ∧ t.val o4044_01 [pQ q.val, pRL n.val] = setBits v 7 0 0 ∧
        eligible t l = true ∧ t.out = s.out ++ [Output.answer .ok none] ∧ ObjsKept s t [(o4044_01, [pQ q.val, pRL n.val])]) ∧
  (∀ (s : State) (q : Fin 8), let m := max (Tbl.look 0 s.egr.wslot q.val + 1) (s.clk.now / 64)
      ∃ t, exec (.wheelSlot q) s = .next t ∧ Tbl.look 0 t.egr.wslot q.val = m ∧ 64 * m ≤ t.clk.now ∧
        ∀ k, k / 4096 = q.val → ∀ e ∈ Tbl.look [] t.egr.near k, m < (e.time + 4095) / 4096)

/-- Writing the keying mode resets the shadow map, and a commit takes effect when the moved queues have drained, or is given up.
KEYING_MODE_WRITE of 0 or 1, admitted by the gate: the mode is taken and every key of the shadow map is at the default of that mode.
KEY_MAP_COMMIT with 1: BUSY while a commit is pending; else a commit is pending whose mode and map are the shadow's, until the remap
timeout. REMAP_APPLIED once no packet that moves is left: mode and map in effect are those of the commit, the result is 1 and no commit
is pending. REMAP_TIMEOUT of a pending commit: the result is 2, no commit is pending, its time has passed, and the map in effect stays. -/
def Obligations.KeysAndRemapsOfAPort : Prop :=
  (∀ (role : Role) (p : Fin 128) (v : Nat) (s : State), v ≤ 1 → writeGate role o4040_01 [pP p.val] s = none →
      ∃ t, exec (.keyingModeWrite role p v) s = .next t ∧ t.val o4040_01 [pP p.val] = v ∧
        (∀ k : Fin 1024, t.val o4040_02 [pP p.val, pKEY k.val] = defaultKey v k.val) ∧
        t.out = s.out ++ [Output.answer .ok none] ∧ OnlyStore s t) ∧
  (∀ (role : Role) (p : Fin 128) (s : State), writeGate role o4040_04 [pP p.val] s = none →
      ∃ t, exec (.keyMapCommit role p 1) s = .next t ∧
        (s.flag o4040_05 [pP p.val] = true → TurnedAway s t .busy) ∧
        (s.flag o4040_05 [pP p.val] = false → t.val o4040_05 [pP p.val] = 1 ∧ t.out = s.out ++ [Output.answer .ok none] ∧
          ∃ r, Tbl.look none t.egr.remap p.val = some r ∧ r.mode = s.val o4040_01 [pP p.val] ∧
            (∀ k : Fin 1024, Tbl.look 0 r.map k.val = s.val o4040_02 [pP p.val, pKEY k.val]) ∧
            r.until_ = s.clk.now + us (s.val o4040_06 [pP p.val]))) ∧
  (∀ (s : State) (p : Fin 128) (r : Remap), Tbl.look none s.egr.remap p.val = some r → remapDrained s p.val r = true →
      ∃ t, exec (.remapApplied p) s = .next t ∧ t.val o4040_08 [pP p.val] = r.mode ∧
        (∀ k : Fin 1024, t.val o4040_09 [pP p.val, pKEY k.val] = Tbl.look 0 r.map k.val) ∧
        t.val o4040_07 [pP p.val] = 1 ∧ t.val o4040_05 [pP p.val] = 0 ∧ Tbl.look none t.egr.remap p.val = none ∧
        t = { s with egr := t.egr, store := t.store }) ∧
  (∀ (s : State) (p : Fin 128) (r : Remap), Tbl.look none s.egr.remap p.val = some r →
      ∃ t, exec (.remapTimeout p) s = .next t ∧ t.val o4040_07 [pP p.val] = 2 ∧ t.val o4040_05 [pP p.val] = 0 ∧
        Tbl.look none t.egr.remap p.val = none ∧ r.until_ ≤ t.clk.now ∧
        ObjsKept s t [(o4040_07, [pP p.val]), (o4040_05, [pP p.val])])

/-- A sample counts a queue's depth in its bucket, a read clears what it reads, and sampling is enabled and disabled. SAMPLE_INSTANT of a
quire with one sampled queue: the bucket of the queue's depth counts once, and the greatest depth is the greater of the old and the
present. HISTOGRAM_READ of an existing queue: the value is answered and the object reads 0 afterwards, no other changes.
SAMPLING_ENABLE_WRITE of an existing queue, admitted by the gate: enabling one that is not sampled, with fewer than 1,024 sampled in
its quire, sets it, and the queue is one of those sampled; disabling a sampled one clears it and its four objects. -/
def Obligations.QueuesAreSampled : Prop :=
  (∀ (s : State) (q : Fin 8) (r : QRef), sampledQueues s q.val = [r] →
      ∃ t, exec (.sampleInstant q) s = .next t ∧
        t.val o4048_03 r.path = bumpBucket (s.val o4048_03 r.path) (depthBucket (depthOf s r)) ∧
        t.val o4048_05 r.path = max (s.val o4048_05 r.path) (depthOf s r) ∧ t = { s with store := t.store, clk := t.clk }) ∧
  (∀ (s : State) (q : QRef) (what : Fin 4), q.real = true → let o := histObj what.val
      ∃ t, exec (.histogramRead q what) s = .next t ∧ t.out = s.out ++ [Output.answer .ok (some (s.val o q.path))] ∧
        t.val o q.path = 0 ∧ ObjsKept s t [(o, q.path)] ∧ OnlyStore s t) ∧
  (∀ (role : Role) (q : QRef) (s : State), q.real = true → writeGate role o4048_02 q.path s = none →
      (s.flag o4048_02 q.path = false → (sampledQueues s q.quire).length < 1024 →
        ∃ t, exec (.samplingEnableWrite role q 1) s = .next t ∧ t.val o4048_02 q.path = 1 ∧
          q ∈ sampledQueues t q.quire ∧ t.out = s.out ++ [Output.answer .ok none] ∧ ObjsKept s t [(o4048_02, q.path)]) ∧
      (s.flag o4048_02 q.path = true →
        ∃ t, exec (.samplingEnableWrite role q 0) s = .next t ∧ t.val o4048_02 q.path = 0 ∧
          t.val o4048_03 q.path = 0 ∧ t.val o4048_04 q.path = 0 ∧
          t.val o4048_05 q.path = 0 ∧ t.val o4048_06 q.path = 0 ∧ t.out = s.out ++ [Output.answer .ok none]))

/-- Target rate, manual equaliser values, loopback, patterns and eye scans of a lane. Admitted by the gate of management writes.
TARGET_RATE_WRITE up to 6 is taken, a higher one is refused; a PCIe or CXL port whose link is up then runs at a rate up to the target,
at any other nothing else changes. ADAPTATION_MANUAL_WRITE keeps the values, and in manual mode they are in effect at once.
LOOPBACK_ENABLE and PATTERN_GENERATOR_ENABLE on a lane that may be tested take the value, and the lane shows loopback, or pattern; on
any other lane a value but 0 is refused. PATTERN_CHECKER_ENABLE locks where a near-end loopback returns the same pattern.
EYE_SCAN_START in range begins a scan of 2 to the dwell exponent bits, and EYE_SCAN_COMPLETE gives the errors, at most that many, and
the bits compared. MARGINING_COMMAND aborts the scan of its lane, and does nothing without one. -/
def Obligations.LaneTestsAndEqualisers : Prop :=
  (∀ (role : Role) (p : Fin 128) (v : Nat) (s : State), writeGate role o3000_01 [pP p.val] s = none →
      ∃ t, exec (.targetRateWrite role p v) s = .next t ∧
        (6 < v → TurnedAway s t .refused) ∧
        (v ≤ 6 → t.val o3000_01 [pP p.val] = v ∧ t.out = s.out ++ [Output.answer .ok none] ∧
          (if (roleOf s p.val = 1 ∨ roleOf s p.val = 2) ∧ linkOf s p.val = 2 then t.val o3000_02 [pP p.val] ≤ v
            else Writes s t o3000_01 [pP p.val] v))) ∧
  (∀ (role : Role) (l : Fin 512) (v : Nat) (s : State), v < 2 ^ 136 → writeGate role o3012_03 [pL l.val] s = none →
      ∃ t, exec (.adaptationManualWrite role l v) s = .next t ∧ Tbl.look 0 t.lane.manual l.val = v ∧
        (s.val o3012_02 [pL l.val] = 2 → t.val o3012_03 [pL l.val] = v) ∧
        (s.val o3012_02 [pL l.val] ≠ 2 → t.store = s.store) ∧
        ObjsKept s t [(o3012_03, [pL l.val])] ∧ t.out = s.out ++ [Output.answer .ok none]) ∧
  (∀ (role : Role) (l : Fin 512) (v : Nat) (s : State), writeGate role o3020_01 [pL l.val] s = none →
      ∃ t, exec (.loopbackEnable role l v) s = .next t ∧
        (if v ≤ 3 ∧ (v = 0 ∨ testable s l.val = true) then
          t.val o3020_01 [pL l.val] = v ∧ (v ≠ 0 → t.val o3014_01 [pL l.val] = 5) ∧
          t.out = s.out ++ [Output.answer .ok none] ∧ ObjsKept s t [(o3020_01, [pL l.val]), (o3014_01, [pL l.val])] ∧ OnlyStore s t
        else TurnedAway s t .refused)) ∧
  (∀ (role : Role) (l : Fin 512) (v : Nat) (s : State), writeGate role o3020_02 [pL l.val] s = none →
      ∃ t, exec (.patternGeneratorEnable role l v) s = .next t ∧
        (if v ≤ 4 ∧ (v = 0 ∨ testable s l.val = true) then
          t.val o3020_02 [pL l.val] = v ∧ (v ≠ 0 → s.flag o3020_01 [pL l.val] = false → t.val o3014_01 [pL l.val] = 6) ∧
          t.out = s.out ++ [Output.answer .ok none] ∧ ObjsKept s t [(o3020_02, [pL l.val]), (o3014_01, [pL l.val])] ∧ OnlyStore s t
        else TurnedAway s t .refused)) ∧
  (∀ (role : Role) (l : Fin 512) (v : Nat) (s : State), writeGate role o3020_03 [pL l.val] s = none →
      ∃ t, exec (.patternCheckerEnable role l v) s = .next t ∧
        (if v ≤ 4 ∧ (v = 0 ∨ testable s l.val = true) then
          t.val o3020_03 [pL l.val] = v ∧ t.val o3020_05 [pL l.val] ≤ 1 ∧ (v = 0 → t.val o3020_05 [pL l.val] = 0) ∧
          (v ≠ 0 → (s.val o3020_01 [pL l.val] = 1 ∨ s.val o3020_01 [pL l.val] = 2) → s.val o3020_02 [pL l.val] = v →
            t.val o3020_05 [pL l.val] = 1) ∧
          t.out = s.out ++ [Output.answer .ok none] ∧
          ObjsKept s t [(o3020_03, [pL l.val]), (o3014_01, [pL l.val]), (o3020_05, [pL l.val])]
        else TurnedAway s t .refused)) ∧
  (∀ (role : Role) (l : Fin 512) (v : Nat) (s : State), writeGate role o3022_01 [pL l.val] s = none →
      20 ≤ bits v 63 58 → bits v 63 58 ≤ 40 → bits v 57 56 ≤ 2 → (bits v 55 48 ≤ 63 ∨ 193 ≤ bits v 55 48) →
      (bits v 47 40 ≤ 31 ∨ 224 ≤ bits v 47 40) →
      ∃ t, exec (.eyeScanStart role l v) s = .next t ∧ Tbl.look none t.lane.scan l.val = some (2 ^ bits v 63 58) ∧
        t.val o3022_02 [pL l.val] = scanResult 1 0 0 ∧ ObjsKept s t [(o3022_02, [pL l.val])] ∧
        t.out = s.out ++ [Output.answer .ok none]) ∧
  (∀ (s : State) (l : Fin 512) (n errors : Nat), Tbl.look none s.lane.scan l.val = some n →
      ∃ t, exec (.eyeScanComplete l errors) s = .next t ∧ Tbl.look none t.lane.scan l.val = none ∧
        t.val o3022_02 [pL l.val] = scanResult 2 (min errors n) n ∧ ObjsKept s t [(o3022_02, [pL l.val])] ∧
        t = { s with lane := t.lane, store := t.store }) ∧
  (∀ (s : State) (l : Fin 512), ∃ t, exec (.marginingCommand l) s = .next t ∧
      (Tbl.look none s.lane.scan l.val = none → t = s) ∧
      (Tbl.look none s.lane.scan l.val ≠ none → Tbl.look none t.lane.scan l.val = none ∧
        t.val o3022_02 [pL l.val] = scanResult 3 0 0 ∧ ObjsKept s t [(o3022_02, [pL l.val])] ∧
        t = { s with lane := t.lane, store := t.store }))

/-- A Folio port locks, aligns and becomes active, retrains on failed markers, and a missed bound takes the link down. For a Folio port.
FOLIO_PLL_LOCK in PLL, where nothing bars the port from training: LOCK, every lane training, the lock timeout running. FOLIO_ALIGN in
LOCK on good markers with its own settings and skew up to 64: ALIGNED; with other settings, not noticed before: still LOCK, and folio-
mismatch is raised at the port. FOLIO_LOCK_TIMEOUT in LOCK: with degrading allowed, width 8 or more and the lower half locked, ALIGNED
on that half, and folio-degraded is raised; with neither half, LOCK again, counted, and folio-no-lock raised where none was in the last
second. FOLIO_PARTNER_ALIGNED in ALIGNED by a partner of the same forme and stepping at a position that no other device holds, where
the port is not withdrawn: ACTIVE, the link is up, the position has joined, and INIT goes out. FOLIO_ALIGNED_TIMEOUT: LOCK again.
FOLIO_MARKER_FAIL in ACTIVE: LOCK, with 20 us to be ACTIVE again. FOLIO_RETRAIN_BOUND_EXPIRY before that: the link is down since the
retrain began. -/
def Obligations.FolioLinksComeUpAndRetrain : Prop :=
  (∀ (s : State) (p : Fin 128), roleOf s p.val = 3 → folioState s p.val = 1 → noTraining s p.val = false →
      ∃ t, exec (.folioPllLock p) s = .next t ∧ folioState t p.val = 2 ∧ linkOf t p.val ≠ 2 ∧
        (∀ l ∈ lanesOf s p.val, t.val o3014_01 [pL l] = 2) ∧
        (portLink t p.val).until_ = s.clk.now + us (s.val o3030_03 [pP p.val]) ∧
        ObjsKept s t ([(o3030_06, [pP p.val]), (o2020_02, [pP p.val])] ++ (lanesOf s p.val).map fun l => (o3014_01, [pL l]))) ∧
  (∀ (s : State) (p : Fin 128) (m : Markers), roleOf s p.val = 3 → folioState s p.val = 2 →
      (ownSettings s p.val m = true → m.order = true → m.same = true →
        m.arrivals.foldl max 0 - m.arrivals.foldl min (m.arrivals.foldl max 0) ≤ 64 →
        ∃ t, exec (.folioAlign p m) s = .next t ∧ folioState t p.val = 3 ∧ t.val o3000_07 [pP p.val] = b2n m.reversed ∧
          (portLink t p.val).until_ = s.clk.now + us (s.val o3030_03 [pP p.val])) ∧
      (ownSettings s p.val m = false → (portLink s p.val).mismatch = false →
        ∃ t, exec (.folioAlign p m) s = .next t ∧ t.store = s.store ∧ (portLink t p.val).mismatch = true ∧
          FaultSent s t p.val 0x32)) ∧
  (∀ (s : State) (p : Fin 128) (upper : Bool), roleOf s p.val = 3 → folioState s p.val = 2 →
      (s.flag o3030_0A [pP p.val] = true → 8 ≤ widthOf s p.val → (portLink s p.val).degraded = false →
        ∃ t, exec (.folioLockTimeout p true upper) s = .next t ∧ folioState t p.val = 3 ∧
          t.val o3030_08 [pP p.val] % 4 = 1 ∧ (portLink t p.val).degraded = true ∧
          (portLink s p.val).until_ ≤ t.clk.now ∧ FaultSent s t p.val 0x34) ∧
      ((portLink s p.val).noLockAt = none →
        ∃ t, exec (.folioLockTimeout p false false) s = .next t ∧ folioState t p.val = 2 ∧
          t.val o3030_07 [pP p.val] = min (s.val o3030_07 [pP p.val] + 1) o3030_07.hi ∧
          (portLink s p.val).until_ ≤ t.clk.now ∧ FaultSent s t p.val 0x33)) ∧
  (∀ (s : State) (p : Fin 128) (e : Peer), let own := s.val o4200_01 []
      roleOf s p.val = 3 → folioState s p.val = 3 → own < 16 → e.forme = s.val o4200_02 [] → e.stepping = s.val o1002_00 [] →
      posTaken s e.pos.val e.ident = false → s.flag o4200_06 [pP p.val] = false →
      ∃ t, exec (.folioPartnerAligned p e) s = .next t ∧ folioState t p.val = 4 ∧ linkOf t p.val = 2 ∧
        (portLink t p.val).joined = true ∧ joinedAt t e.pos.val = true ∧ joinedAt t own = true ∧
        ∃ pre c n cb w, t.out = s.out ++ pre ++ [.flit p.val 3 c n [] (some cb) w]) ∧
  (∀ (s : State) (p : Fin 128), roleOf s p.val = 3 → folioState s p.val = 3 →
      ∃ t, exec (.folioAlignedTimeout p) s = .next t ∧ folioState t p.val = 2 ∧ (portLink s p.val).until_ ≤ t.clk.now ∧
        (portLink t p.val).until_ = t.clk.now + us (s.val o3030_03 [pP p.val])) ∧
  (∀ (s : State) (p : Fin 128), roleOf s p.val = 3 → folioState s p.val = 4 →
      ∃ t, exec (.folioMarkerFail p) s = .next t ∧ folioState t p.val = 2 ∧ (folioOf t p.val).inited = false ∧
        (portLink t p.val).bound = some (s.clk.now, s.clk.now + us 20) ∧ t.val o3030_08 [pP p.val] = 0 ∧ MarkersOnly s t p.val) ∧
  (∀ (s : State) (p : Fin 128) (a b : Nat), (portLink s p.val).bound = some (a, b) → folioState s p.val ≠ 4 →
      folioState s p.val ≠ 5 →
      ∃ t, exec (.folioRetrainBoundExpiry p) s = .next t ∧ linkOf t p.val = 0 ∧ (portLink t p.val).downSince = some a ∧
        (portLink t p.val).bound = none ∧ b ≤ t.clk.now ∧ ObjsKept s t [(o2020_02, [pP p.val])])

/-- A Folio link asks for Dormant, is acknowledged, refused or cancelled, sleeps, probes and wakes. DORMANT_IDLE_TIMEOUT of an initialised
ACTIVE port with an idle time, nothing to send and no request under way: DREQ goes out. DREQ_RECEIVE in ACTIVE with none of its own:
DACK goes out and the port waits 2 us for idle where it is ready, else DREF goes out. DACK_RECEIVE by a requester with no traffic:
DORMANT; with traffic: DCAN goes out and it stays in ACTIVE. DREF_RECEIVE and DCAN_RECEIVE drop the request or the acknowledgement, and
nothing else changes. ELECTRICAL_IDLE_DETECT by an acknowledging port: DORMANT. DORMANT_ACK_TIMEOUT: the acknowledgement is dropped.
FOLIO_DORMANT_EXIT in DORMANT: PLL, with 60 us to be ACTIVE. DORMANT_PROBE: after the probe interval the end with the lower forme
position exits, the other stays. CLKREQ_ASSERT at a PCIe or CXL port in L1.2 with a CLKREQ source: its lanes up to the width in effect
are up, the others idle. -/
def Obligations.FolioLinksGoDormant : Prop :=
  (∀ (s : State) (p : Fin 128), roleOf s p.val = 3 → folioState s p.val = 4 → s.val o3030_04 [pP p.val] ≠ 0 →
      (folioOf s p.val).inited = true → dormantReady s p.val = true → (portLink s p.val).dreq = false →
      (portLink s p.val).dackUntil = none →
      ∃ t, exec (.dormantIdleTimeout p) s = .next t ∧ (portLink t p.val).dreq = true ∧
        (portLink s p.val).lastAt + us (s.val o3030_04 [pP p.val]) ≤ t.clk.now ∧ t.store = s.store ∧
        FlitSent s t p.val 5) ∧
  (∀ (s : State) (p : Fin 128), roleOf s p.val = 3 → folioState s p.val = 4 → (portLink s p.val).dreq = false →
      ∃ t, exec (.dreqReceive p) s = .next t ∧ t.store = s.store ∧
        (dormantReady s p.val = true → (portLink t p.val).dackUntil = some (s.clk.now + us 2) ∧
          FlitSent s t p.val 6) ∧
        (dormantReady s p.val = false → (portLink t p.val).dreq = false ∧
          (portLink t p.val).dackUntil = (portLink s p.val).dackUntil ∧ FlitSent s t p.val 7)) ∧
  (∀ (s : State) (p : Fin 128), roleOf s p.val = 3 → folioState s p.val = 4 → (portLink s p.val).dreq = true →
      ∃ t, exec (.dackReceive p) s = .next t ∧ (portLink t p.val).dreq = false ∧
        (trafficWaits s p.val = false → folioState t p.val = 5 ∧ linkOf t p.val = 2 ∧ MarkersOnly s t p.val ∧
          (portLink t p.val).until_ = s.clk.now + us (s.val o3030_05 [pP p.val])) ∧
        (trafficWaits s p.val = true → t.store = s.store ∧ FlitSent s t p.val 8)) ∧
  (∀ (s : State) (p : Fin 128),
      ∃ t, exec (.drefReceive p) s = .next t ∧ portLink t p.val = { portLink s p.val with dreq := false } ∧
        (∀ x, x ≠ p.val → portLink t x = portLink s x) ∧ t = { s with lane := { s.lane with ports := t.lane.ports } }) ∧
  (∀ (s : State) (p : Fin 128),
      ∃ t, exec (.dcanReceive p) s = .next t ∧ portLink t p.val = { portLink s p.val with dackUntil := none } ∧
        (∀ x, x ≠ p.val → portLink t x = portLink s x) ∧ t = { s with lane := { s.lane with ports := t.lane.ports } }) ∧
  (∀ (s : State) (p : Fin 128), folioState s p.val = 4 → (portLink s p.val).dackUntil ≠ none →
      ∃ t, exec (.electricalIdleDetect p) s = .next t ∧ folioState t p.val = 5 ∧ (portLink t p.val).dackUntil = none ∧
        (∀ l ∈ lanesOf s p.val, t.val o3014_01 [pL l] = 4) ∧ MarkersOnly s t p.val) ∧
  (∀ (s : State) (p : Fin 128) (u : Nat), (portLink s p.val).dackUntil = some u →
      ∃ t, exec (.dormantAckTimeout p) s = .next t ∧ (portLink t p.val).dackUntil = none ∧ u ≤ t.clk.now ∧
        t = { s with lane := t.lane, clk := t.clk }) ∧
  (∀ (s : State) (p : Fin 128), folioState s p.val = 5 →
      ∃ t, exec (.folioDormantExit p) s = .next t ∧ folioState t p.val = 1 ∧
        (portLink t p.val).bound = some (s.clk.now, s.clk.now + us 60) ∧ t.out = s.out) ∧
  (∀ (s : State) (p : Fin 128) (k : Nat), folioState s p.val = 5 → Tbl.look none s.forme.peer p.val = some k →
      ∃ t, exec (.dormantProbe p) s = .next t ∧ (portLink s p.val).until_ ≤ t.clk.now ∧
        folioState t p.val = (if s.val o4200_01 [] < k then 1 else 5)) ∧
  (∀ (s : State) (p : Fin 128), (roleOf s p.val = 1 ∨ roleOf s p.val = 2) → s.val o3000_06 [pP p.val] = 1 →
      s.val o3014_01 [pL (4 * p.val)] = 4 →
      ∃ t, exec (.clkreqAssert p) s = .next t ∧ (∀ l ∈ lanesOf s p.val,
          t.val o3014_01 [pL l] = if l - 4 * p.val < s.val o3000_03 [pP p.val] then 3 else 1) ∧
        ObjsKept s t ((lanesOf s p.val).map fun l => (o3014_01, [pL l])) ∧ t = { s with store := t.store })

/-- A Folio port takes good flits in sequence, refuses bad and stray ones, and exchanges INIT and control blocks. At a joined Folio port in
ACTIVE, no change of the forme waiting. FOLIO_FLIT_RECEIVE: a good DATA flit in sequence without sorts advances the expected count by
one modulo 4,096 and returns its header credits; one that carries one whole packet which is no answer, no message of the fabric
manager, in no trace and not void, and has a way, puts it in the intake toward the port of its route; one out of sequence is counted
and leaves the expected count; a bad flit is counted, and the first draws a NAK; a reserved type raises folio-protocol.
FOLIO_INIT_RECEIVE of the first INIT, whose ACK counts no more flits than are held: the port is initialised, the flits below its ACK
are released, and windows and credits are those of its WIN. FOLIO_RTRN_RECEIVE: the port retrains at once. INIT_RESEND_TIMER before
INIT is received: INIT goes out again 64 ns after the last. CONTROL_BLOCK_DUE: an IDLE with a control block goes out, and none is due. -/
def Obligations.FolioFlitsAreTakenInSequence : Prop :=
  (∀ (s : State) (p : Fin 128) (fl : Flit), let f := folioOf s p.val
      roleOf s p.val = 3 → folioState s p.val = 4 → (portLink s p.val).joined = true → fl.good = true → fl.ty = 1 →
      f.bad = false → s.forme.waits = [] → s.forme.inbox = [] →
      (f.incoming = f.e → fl.slots = [] →
        ∃ t, exec (.folioFlitReceive p fl) s = .next t ∧ (folioOf t p.val).e = (f.e + 1) % 4096 ∧
          (folioOf t p.val).incoming = (f.e + 1) % 4096 ∧ (folioOf t p.val).held = f.held ∧
          (∀ c : Fin 6, folioCredit t p.val c.val = folioCredit s p.val c.val + if c.val = fl.crcls.val then fl.crcnt.val else 0)) ∧
      (∀ (w : WireSlot) (d ld b : Nat) (h : Bool), f.incoming = f.e → fl.slots = [w] → w.sop = true → w.eop = true → w.void = false →
        w.trace = false → isAnswer w.pkt.op = false → w.pkt.op ≠ .msg → w.pkt.forme = none → folioRoute s w w.pkt = some (d, ld, b, h) →
        farMasterOk s d w.spbr.val w.pkt = true →
        ∃ t, exec (.folioFlitReceive p fl) s = .next t ∧ (folioOf t p.val).e = (f.e + 1) % 4096 ∧
          ∃ r : Routed, intakeOf t p.val (40 + w.cls.val) = intakeOf s p.val (40 + w.cls.val) ++ [r] ∧
            r.dport = d ∧ r.dld = ld ∧ r.home = h ∧ r.cls = w.cls.val ∧ r.sport = p.val) ∧
      (f.incoming ≠ f.e →
        ∃ t, exec (.folioFlitReceive p fl) s = .next t ∧ (folioOf t p.val).e = f.e ∧
          (folioOf t p.val).incoming = (f.incoming + 1) % 4096 ∧ t.gal = s.gal ∧
          t.val o2110_0A [pP p.val] = min (s.val o2110_0A [pP p.val] + 1) o2110_0A.hi)) ∧
  (∀ (s : State) (p : Fin 128) (fl : Flit), roleOf s p.val = 3 → folioState s p.val = 4 → (portLink s p.val).joined = true →
      s.forme.waits = [] → s.forme.inbox = [] →
      (fl.good = false →
        ∃ t, exec (.folioFlitReceive p fl) s = .next t ∧ (folioOf t p.val).bad = true ∧ t.gal = s.gal ∧
          t.val o2110_05 [pP p.val] = min (s.val o2110_05 [pP p.val] + 1) o2110_05.hi ∧
          (if (folioOf s p.val).nakSent then t.out = s.out else FlitSent s t p.val 0)) ∧
      (fl.good = true → 10 ≤ fl.ty.val →
        ∃ t, exec (.folioFlitReceive p fl) s = .next t ∧ t.gal = s.gal ∧ t.lnk = s.lnk ∧ FaultSent s t p.val 0x35)) ∧
  (∀ (s : State) (p : Fin 128) (cb : CtrlBlock), let f := folioOf s p.val
      let n := (cb.ack + 4096 - oldestCount f) % 4096
      roleOf s p.val = 3 → folioState s p.val = 4 → (portLink s p.val).joined = true → f.inited = false → n ≤ f.held.length →
      ∃ t, exec (.folioInitReceive p cb) s = .next t ∧ (folioOf t p.val).inited = true ∧ (folioOf t p.val).held = f.held.drop n ∧
        (∀ c : Fin 6, folioCredit t p.val c.val = Tbl.look 0 cb.win c.val ∧
          t.val o2100_02 [pP p.val, pCLS c.val] = Tbl.look 0 cb.win c.val ∧
          t.val o2100_03 [pP p.val, pCLS c.val] = Tbl.look 0 cb.win c.val)) ∧
  (∀ (s : State) (p : Fin 128), roleOf s p.val = 3 → folioState s p.val = 4 →
      ∃ t, exec (.folioRtrnReceive p) s = .next t ∧ folioState t p.val = 2 ∧ (folioOf t p.val).inited = false ∧
        (portLink t p.val).bound = some (s.clk.now, s.clk.now + us 20) ∧ MarkersOnly s t p.val) ∧
  (∀ (s : State) (p : Fin 128), roleOf s p.val = 3 → folioState s p.val = 4 → (portLink s p.val).joined = true →
      (folioOf s p.val).inited = false →
      ∃ t, exec (.initResendTimer p) s = .next t ∧ FlitSent s t p.val 3 ∧ (folioOf t p.val).initAt = t.clk.now ∧
        (folioOf s p.val).initAt + ns 64 ≤ t.clk.now ∧ t = { s with clk := t.clk, lnk := t.lnk, lane := t.lane, out := t.out, counts := t.counts }) ∧
  (∀ (s : State) (p : Fin 128), roleOf s p.val = 3 → folioState s p.val = 4 → (folioOf s p.val).cbDue ≠ 0 →
      ∃ t, exec (.controlBlockDue p) s = .next t ∧ FlitSent s t p.val 0 ∧ (folioOf t p.val).cbDue = 0 ∧
        (folioOf s p.val).cbDue ≤ t.clk.now ∧ t = { s with clk := t.clk, lnk := t.lnk, lane := t.lane, out := t.out, counts := t.counts })

/-- A Folio port replays, watches for lost credits and retrains on request; a port's tracker ends each request once. At an initialised
Folio port in ACTIVE. REPLAY_TIMER_EXPIRY with flits held: below the limit of misses, RSTART and every held flit go out again and the
replay is counted; at the limit, a planned retrain. LEAK_MONITOR_INTERVAL: the effective window of a class is its window less the
smallest difference seen, and a window below the threshold starts a planned retrain. PLANNED_RETRAIN_REQUEST by a role that may: 1
sends RTRN and retrains, at a port not in ACTIVE nothing happens, a value above 1 is refused. TRACKER_COMPLETION: the last answer of a
request of a port frees its entry and goes on to that port, or to the one the PBR ID of its requester routes to; an answer without an
entry is counted and discarded. TRACKER_TIMEOUT: the entry that expires first is gone, and counted. FOLIO_LINK_DOWN: the port is in
PLL, its link not up, no longer initialised, and what it holds for replay is kept. -/
def Obligations.FolioReplaysAndTracksRequests : Prop :=
  (∀ (s : State) (p : Fin 128), let f := folioOf s p.val
      roleOf s p.val = 3 → folioState s p.val = 4 → f.held ≠ [] → f.inited = true →
      ∃ t, exec (.replayTimerExpiry p) s = .next t ∧ f.replayAt ≤ t.clk.now ∧
        t.val o2110_04 [pP p.val] = min (s.val o2110_04 [pP p.val] + 1) o2110_04.hi ∧ (folioOf t p.val).held = f.held ∧
        (f.misses + 1 < s.val o2110_02 [pP p.val] → (folioOf t p.val).misses = f.misses + 1 ∧
          (∃ u : State, MarkersOnly s u p.val ∧ t.out.length = u.out.length + 1 + f.held.length) ∧ folioState t p.val = 4) ∧
        (s.val o2110_02 [pP p.val] ≤ f.misses + 1 → (folioOf t p.val).misses = 0 ∧ folioState t p.val = 2 ∧
          t.val o2120_02 [pP p.val] = min (s.val o2120_02 [pP p.val] + 1) o2120_02.hi ∧ FlitSent s t p.val 9)) ∧
  (∀ (s : State) (p : Fin 128), let f := folioOf s p.val
      roleOf s p.val = 3 → folioState s p.val = 4 → f.inited = true →
      ∃ t, exec (.leakMonitorInterval p) s = .next t ∧ f.monitorAt + us (s.val o2100_06 [pP p.val]) ≤ t.clk.now ∧
        (folioOf t p.val).minDiff = [] ∧
        (∀ (c : Fin 6) (d : Nat), Tbl.look none f.minDiff c.val = some d →
          t.val o2100_03 [pP p.val, pCLS c.val] = s.val o2100_02 [pP p.val, pCLS c.val] - d ∧
          ((s.val o2100_02 [pP p.val, pCLS c.val] - d) * 100 <
              s.val o2100_05 [pP p.val] * s.val o2100_02 [pP p.val, pCLS c.val] → folioState t p.val = 2)) ∧
        (s.val o2100_05 [pP p.val] = 0 → folioState t p.val = 4)) ∧
  (∀ (role : Role) (p : Fin 128) (v : Nat) (s : State), writeGate role o2120_01 [pP p.val] s = none →
      (∀ n, role = .host n → hostBound s n.val p.val = true) →
      ∃ t, exec (.plannedRetrainRequest role p v) s = .next t ∧
        (1 < v → TurnedAway s t .refused) ∧
        (v = 0 ∨ (v = 1 ∧ (roleOf s p.val ≠ 3 ∨ folioState s p.val ≠ 4)) → TurnedAway s t .ok) ∧
        (v = 1 → roleOf s p.val = 3 → folioState s p.val = 4 → folioState t p.val = 2 ∧
          t.val o2120_02 [pP p.val] = min (s.val o2120_02 [pP p.val] + 1) o2120_02.hi ∧
          (∃ u : State, MarkersOnly s u p.val ∧ t.out.length = u.out.length + 2) ∧ t.out.getLast? = some (.answer .ok none))) ∧
  (∀ (s : State) (p : Fin 128) (pk : Packet), (roleOf s p.val = 1 ∨ roleOf s p.val = 2) → linkOf s p.val = 2 →
      isAnswer pk.op = true → quireDark s (quireOf p.val) = false →
      let mine := fun t : Track => t.x.pkt.tag == pk.tag && answers t.x.pkt.op pk.op
      (takeFirst mine (tracksOf s p.val) = none →
        ∃ t, exec (.trackerCompletion p pk) s = .next t ∧ t.lnk = s.lnk ∧ t.gal = s.gal ∧ ObjsKept s t [(o2130_06, [pP p.val])] ∧
          t.val o2130_06 [pP p.val] = min (s.val o2130_06 [pP p.val] + 1) o2130_06.hi) ∧
      (∀ (e : Track) (r : List Track), takeFirst mine (tracksOf s p.val) = some (e, r) → e.x.fromHome = false →
        e.x.orig = false → pk.last = true →
        ∃ t, exec (.trackerCompletion p pk) s = .next t ∧ tracksOf t p.val = r ∧
          let f := fifoOf s p.val { pk with addr := e.x.pkt.addr, ld := e.x.pkt.ld } pk.op.cls
          ∃ a : Routed, intakeOf t p.val f = intakeOf s p.val f ++ [a] ∧ a.dport = replyPort s e.x.sport e.x.spbr ∧ a.pkt.tag = pk.tag ∧ a.pkt.data = pk.data)) ∧
  (∀ (s : State) (p : Fin 128) (e : Track), firstTrack (tracksOf s p.val) = some e → e.x.fromHome = false → e.x.orig = false →
      ∃ t, exec (.trackerTimeout p) s = .next t ∧ tracksOf t p.val = (tracksOf s p.val).filter (fun u => u.id != e.id) ∧
        t.val o2130_04 [pP p.val] = min (s.val o2130_04 [pP p.val] + 1) o2130_04.hi ∧ e.until_ ≤ t.clk.now) ∧
  (∀ (s : State) (p : Fin 128), roleOf s p.val = 3 → folioState s p.val ≠ 0 →
      ∃ t, exec (.folioLinkDown p) s = .next t ∧ folioState t p.val = 1 ∧ linkOf t p.val ≠ 2 ∧
        (portLink t p.val).downSince = some s.clk.now ∧ (folioOf t p.val).inited = false ∧
        (folioOf t p.val).held = (folioOf s p.val).held ∧ t.gal = s.gal ∧ MarkersOnly s t p.val)

/-- A home takes requests, writes and answers in order, refuses outsiders, and passes snoops round the ring. At a quire that is not dark,
whose home has nothing left to do and no write buffered, the oldest message, a request with room for its answers. HOME_REQUEST in a
homed range from no member: home-outside at the home's source, no line changes. MemSpecRd of a member: counted and discarded. MemRdData
of a member for a line in I that nothing tracks, with a free way: an entry is made, the line begins with E for the member, and the
request goes on to its port. HOME_WRITE of a member where no directory serves and the line is idle: the write is buffered.
DEVICE_RESPONSE_RECEIVE of the completion of a host's write: the buffer is empty; of one with no transaction at a substitute: counted.
RING_NODE_PASS of a message with one slot left whose port is at the node, its snoop queue empty: the snoop is queued and the position
is empty; of an empty position with nothing to inject: no message. REMOTE_RING_PART_RECEIVE of a snoop: it waits for injection.
HOME_INSPECT of a 64-bit address, of a standalone device with DEV 0: address and line are shown; else refused. -/
def Obligations.HomesServeTheirLines : Prop :=
  (∀ (s : State) (q : Fin 8) (w : TSort) (r : List TSort) (rg word n : Nat), let x := w.x
      let a := x.pkt.addr
      let l := a / 64
      quireDark s q.val = false → HomeQuiet s q.val → wbufOf s q.val = [] → Tbl.look [] s.stg.toHome q.val = w :: r →
      x.home = false → x.orig = false → x.pkt.inner = false → answerRoom s x = true → x.pkt.op.channel = 0 →
      rangeAt s a = some (rg, word) → rangeMode word ≠ 3 →
      (slotFrom s (rangeDom word) x.pkt false = none →
        ∃ t, exec (.homeRequest q none) s = .next t ∧ t.home.lines = s.home.lines ∧ Tbl.look [] t.stg.toHome q.val = r ∧
          w.at_ + ns 12 ≤ t.clk.now ∧ FaultSent s t (0x2B8 + q.val) 0x10) ∧
      (slotFrom s (rangeDom word) x.pkt false = some n → homeView s (rangeDom word) n ≠ 3 → x.pkt.op = .memSpecRd →
        ∃ t, exec (.homeRequest q none) s = .next t ∧ t.home.lines = s.home.lines ∧ Tbl.look [] t.stg.toHome q.val = r ∧
          Tbl.look 0 t.home.spec q.val = Tbl.look 0 s.home.spec q.val + 1 ∧ t.store = s.store) ∧
      (∀ k, slotFrom s (rangeDom word) x.pkt false = some n → homeView s (rangeDom word) n ≠ 3 → x.pkt.op = .memRdData →
        x.trace = false → fenced s a = none → lineOf s l = {} → regionHeld s q.val (l * 64) = false →
        dirServed s q.val (l * 64) = true → findReg s q.val (l * 64) = none → s.dir.wait = [] →
        freeWay s q.val (regionSet (l * 64)) = some k → queueOf s (stageRef q.val x.dport x.cls) = {} →
        ∃ t, exec (.homeRequest q none) s = .next t ∧ (lineOf t l).begun = true ∧ (lineOf t l).next = 2 ∧
          (lineOf t l).nextHeld = 2 ^ n ∧ (lineOf t l).reqs = [{ x := x, slot := some n }] ∧
          findReg t q.val (l * 64) = some k ∧
          ∃ g, (queueOf t (stageRef q.val x.dport x.cls)).ents = [g] ∧ g.x.pkt = x.pkt ∧ g.x.fromHome = true)) ∧
  (∀ (s : State) (q : Fin 8) (w : TSort) (r : List TSort) (rg word n : Nat), let x := w.x
      let l := x.pkt.addr / 64
      quireDark s q.val = false → HomeQuiet s q.val → wbufOf s q.val = [] → Tbl.look [] s.stg.toHome q.val = w :: r →
      x.home = false → x.orig = false → x.pkt.inner = false → answerRoom s x = true → x.pkt.op.channel = 1 →
      isLate s l (rangeDom word) n = false →
      rangeAt s x.pkt.addr = some (rg, word) → rangeMode word ≠ 3 → slotFrom s (rangeDom word) x.pkt true = some n →
      homeView s (rangeDom word) n ≠ 3 → (lineOf s l).begun = false → (lineOf s l).op = none →
      dirServed s q.val x.pkt.addr = false → fenced s x.pkt.addr = none →
      ∃ t, exec (.homeWrite q none) s = .next t ∧ Tbl.look [] t.stg.toHome q.val = r ∧ t.home.lines = s.home.lines ∧
        ∃ b, wbufOf t q.val = [b] ∧ b.line = l ∧ b.x = x) ∧
  (∀ (s : State) (q : Fin 8) (w : TSort) (r : List TSort), let x := w.x
      quireDark s q.val = false → HomeQuiet s q.val → Tbl.look [] s.stg.toHome q.val = w :: r →
      (x.pkt.op.channel = 3 ∨ x.pkt.op.channel = 4) →
      (∀ b, wbufOf s q.val = [b] → b.hid = x.hid → b.x.hown = false → b.x.orig = false → x.cls = 0 →
        ∃ t, exec (.deviceResponseReceive q) s = .next t ∧ wbufOf t q.val = [] ∧ Tbl.look [] t.stg.toHome q.val = r ∧
          w.at_ ≤ t.clk.now ∧ t.home.lines = s.home.lines) ∧
      (wbufOf s q.val = [] → (lineOf s (x.pkt.addr / 64)).begun = false → homeQuire x.pkt.addr ≠ q.val →
        ∃ t, exec (.deviceResponseReceive q) s = .next t ∧ Tbl.look [] t.stg.toHome q.val = r ∧ t.home.lines = s.home.lines ∧
          t.val o9050_02 [pQ q.val] = min (s.val o9050_02 [pQ q.val] + 1) o9050_02.hi)) ∧
  (∀ (s : State) (k : Fin 16),
      let t0 := max (Tbl.look 0 s.home.ringAt k.val) ((s.clk.now + 3) / 4)
      let t1 := t0 + (t0 + k.val) % 2
      let n := (t1 + k.val) / 2 % 8
      HomeQuiet s n → wbufOf s n = [] → s.blocks = [] →
      (∀ (m : RMsg) (j p : Nat), Tbl.look none s.home.ring k.val = some m → slotsOf m.mask = [j] → m.mask = 2 ^ j →
        slotPort s m.dom j = some p → quireOf p = n → queueOf s (classRef p 2) = {} → portLost s p = false →
        ∃ t, exec (.ringNodePass k) s = .next t ∧ Tbl.look none t.home.ring k.val = none ∧ ns t1 ≤ t.clk.now ∧
          ∃ g, (queueOf t (classRef p 2)).ents = [g] ∧ g.x.pkt.op = m.op ∧ g.x.pkt.addr = m.addr) ∧
      (Tbl.look none s.home.ring k.val = none → Tbl.look [] s.home.parts n = [] → opsOf s n = [] →
        ∃ t, exec (.ringNodePass k) s = .next t ∧ t.home.ring = s.home.ring ∧ ns t1 ≤ t.clk.now ∧
          t = { s with clk := t.clk, home := t.home })) ∧
  (∀ (s : State) (q hq : Fin 8) (d : Fin 16) (p : Packet), p.op.channel = 5 → p.data % 2 ^ 64 ≠ 0 →
      ∃ t, exec (.remoteRingPartReceive q hq d p) s = .next t ∧ t = { s with home := { s.home with parts := t.home.parts } } ∧
        ∃ m : RMsg, Tbl.look [] t.home.parts q.val = Tbl.look [] s.home.parts q.val ++ [m] ∧ m.op = p.op ∧ m.addr = p.addr ∧
          m.tag = p.tag ∧ m.hq = hq.val ∧ m.dom = d.val ∧ m.mask = p.data % 2 ^ 64) ∧
  (∀ (role : Role) (q : Fin 8) (a : Nat) (s : State), writeGate role o5042_01 [pQ q.val] s = none →
      ∃ t, exec (.homeInspect role q a) s = .next t ∧
        (2 ^ 64 ≤ a ∨ (16 ≤ s.val o4200_01 [] ∧ caDev a ≠ 0) → TurnedAway s t .refused) ∧
        (a < 2 ^ 64 → (16 ≤ s.val o4200_01 [] → caDev a = 0) → t.val o5042_01 [pQ q.val] = a ∧ t.val o5042_02 [pQ q.val] = inspectLine s q.val a ∧
          ObjsKept s t [(o5042_01, [pQ q.val]), (o5042_02, [pQ q.val])] ∧ t.out = s.out ++ [Output.answer .ok none] ∧ OnlyStore s t))

/-- Slots of a domain are assigned, leave and are free again, and sweeps and releases end their isolation. Admitted by the gate, at a
device that leads no forme. DOMAIN_SLOT_ASSIGN of a value but 0xFFFF to a FREE slot, of a member that holds none in the domain: the
slot is MEMBER, its suspect count 0, and its view NORMAL where its VCS is active, else ABSENT, and the Imprint table of its VCS here
advances; to a slot not FREE: refused. DOMAIN_SLOT_REMOVE: a MEMBER slot is LEAVING and still names its member; an ISOLATED one is
FREE; a FREE one stays; in LEAVING it is refused. The lead of a forme with a standby has it record either first. LEAVING_COMPLETE once
no entry holds the slot and no invalidation of it runs: FREE. RELEASE_ISOLATION of a swept isolated member whose VCS is active: NORMAL
with suspect count 0; of any other slot refused. SUSPECT_COUNT_CLEAR takes only 0. SLOT_SWEEP_END: no region entry of the domain holds
the slot, a SWEEPING slot is NORMAL, and the sweep is over. -/
def Obligations.DomainSlotsAndTheirViews : Prop :=
  (∀ (role : Role) (d : Fin 16) (n : Fin 64) (v : Nat) (s : State), writeGate role o5010_01 (slotPath d.val n.val) s = none →
      v ≠ 0xFFFF → NoLead s → let w := v &&& 0x0F3F
      let p := slotPath d.val n.val
      ∃ t, exec (.domainSlotAssign role d n v) s = .next t ∧
        (slotState s d.val n.val ≠ 0 → TurnedAway s t .refused) ∧
        (slotState s d.val n.val = 0 → v < 0xFFFF → (16 ≤ s.val o4200_01 [] → bits w 11 8 = 0) →
          domSlot s d.val (bits w 11 8) (bits w 5 0) true = none →
          t.val o5010_01 p = w ∧ slotState t d.val n.val = 1 ∧ t.val o5030_01 p = 0 ∧
          homeView t d.val n.val = (if wordActive s w then 0 else 1) ∧
          t.out = s.out ++ [Output.answer .ok none] ∧
          (ImprintKept s w → OnlyStore s t ∧ ObjsKept s t [(o5010_01, p), (o5010_02, p), (o5030_01, p), (o5030_06, p)]) ∧
          (¬ ImprintKept s w →
            t.val o4400_03 [pVCS (bits w 5 0)] = (s.val o4400_03 [pVCS (bits w 5 0)] + 1) % 2 ^ 32))) ∧
  (∀ (role : Role) (d : Fin 16) (n : Fin 64) (s : State), writeGate role o5010_01 (slotPath d.val n.val) s = none →
      (∀ v, LeadTakes s (.slot d.val n.val v) →
        ∃ t, exec (.domainSlotAssign role d n v) s = .next t ∧ RecordedFirst s t (.slot d.val n.val v) .command) ∧
      (LeadTakes s (.slot d.val n.val 0xFFFF) →
        ∃ t, exec (.domainSlotRemove role d n) s = .next t ∧ RecordedFirst s t (.slot d.val n.val 0xFFFF) .command)) ∧
  (∀ (role : Role) (d : Fin 16) (n : Fin 64) (s : State), writeGate role o5010_01 (slotPath d.val n.val) s = none →
      NoLead s → let p := slotPath d.val n.val
      ∃ t, exec (.domainSlotRemove role d n) s = .next t ∧
        (slotState s d.val n.val = 2 → TurnedAway s t .refused) ∧
        (slotState s d.val n.val = 0 → TurnedAway s t .ok) ∧
        (slotState s d.val n.val = 1 → t.val o5010_01 p = 0xFFFF ∧ t.out = s.out ++ [Output.answer .ok none] ∧
          (if homeView s d.val n.val = 3 then slotState t d.val n.val = 0
            else slotState t d.val n.val = 2 ∧ slotWord t d.val n.val = slotWord s d.val n.val ∧
              ObjsKept s t [(o5010_01, p), (o5010_02, p)]))) ∧
  (∀ (s : State) (d : Fin 16) (n : Fin 64), slotState s d.val n.val = 2 →
      (∀ q : Fin 8, regsWith s q.val d.val n.val = [] ∧ ∀ o ∈ opsOf s q.val, ∀ k, o.why ≠ .leave d.val n.val k) →
      ∃ t, exec (.leavingComplete d n) s = .next t ∧ slotState t d.val n.val = 0 ∧
        (ImprintKept s (slotWord s d.val n.val) →
          ObjsKept s t [(o5010_02, slotPath d.val n.val)] ∧ t = { s with store := t.store, home := t.home })) ∧
  (∀ (role : Role) (d : Fin 16) (n : Fin 64) (s : State), writeGate role o5030_03 (slotPath d.val n.val) s = none →
      let p := slotPath d.val n.val
      ∃ t, exec (.releaseIsolation role d n 1) s = .next t ∧
        (if homeView s d.val n.val = 3 ∧ (∀ x ∈ s.home.sweeps, ¬ (x.dom = d.val ∧ x.slot = n.val)) ∧ slotState s d.val n.val = 1 ∧
            wordActive s (slotWord s d.val n.val) = true
          then homeView t d.val n.val = 0 ∧ t.val o5030_01 p = 0 ∧ t.out = s.out ++ [Output.answer .ok none] ∧ OnlyStore s t ∧
            ObjsKept s t [(o5030_06, p), (o5030_01, p)]
          else TurnedAway s t .refused)) ∧
  (∀ (role : Role) (d : Fin 16) (n : Fin 64) (v : Nat) (s : State), writeGate role o5030_01 (slotPath d.val n.val) s = none →
      ∃ t, exec (.suspectCountClear role d n v) s = .next t ∧
        (if v = 0 then Writes s t o5030_01 (slotPath d.val n.val) 0 else TurnedAway s t .refused)) ∧
  (∀ (s : State) (d : Fin 16) (n : Fin 64) (w : SlotSweep) (r : List SlotSweep),
      takeFirst (fun w : SlotSweep => w.dom == d.val && w.slot == n.val) s.home.sweeps = some (w, r) →
      ∃ t, exec (.slotSweepEnd d n) s = .next t ∧ t.home.sweeps = r ∧ w.since ≤ t.clk.now ∧
        (∀ q : Fin 8, regsWith t q.val d.val n.val = []) ∧
        homeView t d.val n.val = if homeView s d.val n.val = 2 then 0 else homeView s d.val n.val)

/-- The walker ages entries, demotion keeps blocks free, and a slice goes out of service and is rebuilt. With no line kicked (and, where a
slice goes out, no request that waits for an entry). WALKER_VISIT, slice in service, no error: an entry not promoted loses HITS and
REF; a promoted one below the demotion threshold counts QUIET up to 15 from REF, and loses REF; the walker is past it.
BACKGROUND_DEMOTION with fewer free blocks than the reserve and one demotable region: its entry is being demoted; with 64 more than the
reserve free, none starts. SLICE_OUT_OF_SERVICE with 1: a slice in service drains, any other is out; 0 does nothing, more is refused.
SLICE_DRAIN_COMPLETE of a drained slice on which nothing waits: it is out, and its arrays are empty. SLICE_RETURN with 1: refused
unless the slice is out and its last self-test has not failed; then, with a homed region to rebuild, it rebuilds from the lowest, with
none it is in service. REBUILD_REGION_ANSWERED: the pointer moves on to the next homed region, or the slice is in service. -/
def Obligations.DirectorySlicesAreWalkedDrainedAndRebuilt : Prop :=
  (∀ (s : State) (q : Fin 8) (k : Nat), let e := regEnt s q.val k
      let quiet := if e.ref then 0 else min 15 (e.quiet + 1)
      sliceState s q.val = 0 → s.home.kick = [] →
      (validRegs s q.val).find? (fun k => decide (Tbl.look 0 s.dir.walk q.val ≤ k)) = some k → e.valid = true →
      (e.prom = false →
        ∃ t, exec (.walkerVisit q []) s = .next t ∧ Tbl.look 0 t.dir.walk q.val = k + 1 ∧
          regEnt t q.val k = { e with hits := 0, ref := false }) ∧
      (e.prom = true → quiet < s.val o5110_02 [pDOM (domAt s (regionAddr s k e))] →
        ∃ t, exec (.walkerVisit q []) s = .next t ∧ Tbl.look 0 t.dir.walk q.val = k + 1 ∧
          regEnt t q.val k = { e with quiet := quiet, ref := false })) ∧
  (∀ (s : State) (q : Fin 8), let free := 16384 - blocksUsed s q.val
      s.home.kick = [] →
      (∀ k, sliceState s q.val = 0 → free < s.val o5120_01 [pQ q.val] → (validRegs s q.val).filter (demotable s q.val) = [k] →
        ∃ t, exec (.backgroundDemotion q) s = .next t ∧ (regEnt t q.val k).busy = 3 ∧
          (opsOf t q.val).any (fun o => o.why == .demote k (demoteLines s q.val k)) = true) ∧
      (s.val o5120_01 [pQ q.val] + 64 ≤ free →
        ∃ t, exec (.backgroundDemotion q) s = .next t ∧ Tbl.look false t.dir.bg q.val = false ∧
          t = { s with dir := { s.dir with bg := t.dir.bg } })) ∧
  (∀ (role : Role) (q : Fin 8) (v : Nat) (s : State), writeGate role o5100_02 [pQ q.val] s = none → s.home.kick = [] →
      s.dir.wait = [] →
      ∃ t, exec (.sliceOutOfService role q v) s = .next t ∧
        (v = 0 → TurnedAway s t .ok) ∧ (1 < v → TurnedAway s t .refused) ∧
        (v = 1 → t.val o5100_04 [pQ q.val] = 1 ∧ sliceState t q.val = (if sliceState s q.val = 0 then 1 else 2) ∧
          t.out.getLast? = some (.answer .ok none))) ∧
  (∀ (s : State) (q : Fin 8), sliceState s q.val = 1 → drained s q.val = true → s.home.kick = [] → s.dir.wait = [] →
      ∃ t, exec (.sliceDrainComplete q) s = .next t ∧ sliceState t q.val = 2 ∧ validRegs t q.val = [] ∧ blocksUsed t q.val = 0) ∧
  (∀ (role : Role) (q : Fin 8) (s : State), writeGate role o5100_03 [pQ q.val] s = none → s.home.kick = [] →
      ∃ t, exec (.sliceReturn role q 1) s = .next t ∧
        (if sliceState s q.val = 2 ∧ bits (s.val oE010_02 [pQ q.val, pDIR]) 63 61 ≠ 4 then
          t.out.getLast? = some (.answer .ok none) ∧ validRegs t q.val = [] ∧
          (nextHomed s q.val 0 = none → sliceState t q.val = 0) ∧
          (∀ r, nextHomed s q.val 0 = some r → sliceState t q.val = 3 ∧ t.val o5100_05 [pQ q.val] = r ∧
            Tbl.look none t.dir.rebuild q.val = some r)
        else TurnedAway s t .refused)) ∧
  (∀ (s : State) (q : Fin 8) (o : SnoopOp) (a : Nat), s.home.kick = [] → s.home.lines = [] →
      firstDone s q.val (fun w => w == .rebuild) = some o → Tbl.look none s.dir.rebuild q.val = some a →
      ∃ t, exec (.rebuildRegionAnswered q) s = .next t ∧
        (nextHomed s q.val (a + 4096) = none → sliceState t q.val = 0 ∧ Tbl.look none t.dir.rebuild q.val = none) ∧
        (∀ r, nextHomed s q.val (a + 4096) = some r → t.val o5100_05 [pQ q.val] = r ∧
          Tbl.look none t.dir.rebuild q.val = some r ∧ sliceState t q.val = sliceState s q.val))

/-- A block command takes its operation and asks for the journal record of its first step; a durable record starts the step. Admitted by
the gate, with fewer than 256 operations running and no sanitize asked. BLOCK_BIND of a FREE block with none running, to an owner that
may hold it and has a free DPA slot, in a pooled plate: the operation is running, its owner and the lowest free slot are reserved, and
the record of step 5 is requested; BLOCK_RELEASE and BLOCK_REBIND of a BOUND block: the same with that of step 1, a release to no
owner. A block that runs an operation, or is not in that state, is refused. JOURNAL_RECORD_DURABLE of a live record of step 5 outside
input warning: the block is BOUND to its new owner under that owner's colour and served again, and the record is the last durable one;
with one failed copy journal-failed is raised too; with both failed the step does not start and a commanded operation ends with status
3. POOL_PRESENTATION_ENABLE: 0 is taken, 1 where the vPPB is UNBOUND, else refused; a change advances GEN of an enabled VCS. -/
def Obligations.BlocksAreBoundReleasedAndRebound : Prop :=
  (∀ (role : Role) (b : Fin 65536) (nkind : Bool) (dest : Fin 4096) (s : State) (v : Block),
      writeGate role o5220_01 [pCB b.val] s = none → blk s b.val = some v →
      (v.run = true ∨ v.state ≠ 0 → ∃ t, exec (.blockBind role b nkind 0 dest) s = .next t ∧ TurnedAway s t .refused) ∧
      (∀ k, v.run = false → v.state = 0 → opsRunning s < 256 → dest.val ≠ 0xFFF → ownerOk s v (b2n nkind) dest.val = true →
        inPooledPlate s v = true → freeSlot s (b2n nkind) dest.val = some k →
        ∃ t, exec (.blockBind role b nkind 0 dest) s = .next t ∧ t.val o5220_02 [pCB b.val] = 1 ∧ t.val o5220_03 [pCB b.val] = 0 ∧
          t.out = s.out ++ [Output.answer .ok none] ∧
          (∃ w, blk t b.val = some w ∧ w.run = true ∧ w.cmd = true ∧ w.next = dest.val ∧ w.nkind = b2n nkind ∧ w.slot = some k ∧
            w.waitRec = true ∧ w.state = v.state) ∧
          ∃ r : JRec, t.pool.wait = s.pool.wait ++ [r] ∧ r.block = b.val ∧ r.step = 5)) ∧
  (∀ (role : Role) (b : Fin 65536) (forced : Bool) (s : State) (v : Block),
      writeGate role o5220_01 [pCB b.val] s = none → blk s b.val = some v →
      (v.run = true ∨ (v.state ≠ 1 ∧ v.state ≠ 4) → ∃ t, exec (.blockRelease role b forced 0) s = .next t ∧ TurnedAway s t .refused) ∧
      (v.run = false → v.state = 1 → opsRunning s < 256 →
        ∃ t, exec (.blockRelease role b forced 0) s = .next t ∧ t.val o5220_02 [pCB b.val] = 1 ∧ t.out = s.out ++ [Output.answer .ok none] ∧
          (∃ w, blk t b.val = some w ∧ w.run = true ∧ w.next = 0xFFF ∧ w.forced = forced ∧ w.owner = v.owner ∧ w.waitRec = true) ∧
          ∃ r : JRec, t.pool.wait = s.pool.wait ++ [r] ∧ r.block = b.val ∧ r.step = 1)) ∧
  (∀ (role : Role) (b : Fin 65536) (forced nkind : Bool) (dest : Fin 4096) (s : State) (v : Block),
      writeGate role o5220_01 [pCB b.val] s = none → blk s b.val = some v →
      (v.run = true ∨ v.state ≠ 1 → ∃ t, exec (.blockRebind role b forced nkind 0 dest) s = .next t ∧ TurnedAway s t .refused) ∧
      (∀ k, v.run = false → v.state = 1 → opsRunning s < 256 → dest.val ≠ 0xFFF → ownerOk s v (b2n nkind) dest.val = true →
        inPooledPlate s v = true → freeSlot s (b2n nkind) dest.val = some k →
        ∃ t, exec (.blockRebind role b forced nkind 0 dest) s = .next t ∧ t.val o5220_02 [pCB b.val] = 1 ∧
          t.out = s.out ++ [Output.answer .ok none] ∧
          (∃ w, blk t b.val = some w ∧ w.run = true ∧ w.next = dest.val ∧ w.forced = forced ∧ w.owner = v.owner ∧ w.slot = some k) ∧
          ∃ r : JRec, t.pool.wait = s.pool.wait ++ [r] ∧ r.block = b.val ∧ r.step = 1)) ∧
  (∀ (s : State) (r : JRec) (rest : List JRec) (v : Block), s.pool.wait = r :: rest → r.begun = true → r.step = 5 →
      blk s r.block = some v → v.base = r.rec_.base → v.opid = r.rec_.opid → v.run = true →
      (∀ failed : Fin 3, failed ≠ 2 → vinWarn s = false →
        ∃ t, exec (.journalRecordDurable failed) s = .next t ∧ t.pool.wait = rest ∧ t.val o5240_01 [] = r.seq ∧
          Tbl.look none t.pool.last r.block = some r ∧ (failed = 1 → FaultSent s t 0x505 0x19) ∧
          ∃ w, blk t r.block = some w ∧ w.step = 5 ∧ w.state = 1 ∧ w.owner = v.next ∧ w.kind = v.nkind ∧ w.fenced = false ∧
            w.colour = ownerColour s v.nkind v.next) ∧
      (∃ t, exec (.journalRecordDurable 2) s = .next t ∧ t.pool.last = s.pool.last ∧ FaultSent s t 0x505 0x19 ∧
        (v.cmd = true → t.val o5220_02 [pCB r.block] = 3) ∧
        ∃ w, blk t r.block = some w ∧ w.run = false ∧ w.state = v.state ∧ w.owner = v.owner)) ∧
  (∀ (role : Role) (n : Fin 64) (v : Nat) (s : State), writeGate role o5230_01 [pVCS n.val] s = none →
      ∃ t, exec (.poolPresentationEnable role n v) s = .next t ∧
        (if v = 0 ∨ (v = 1 ∧ s.val o5230_02 [pVCS n.val] ≤ 127 ∧ recState (bindRec s n.val (s.val o5230_02 [pVCS n.val])) = 0)
          then t.val o5230_01 [pVCS n.val] = v ∧ t.out = s.out ++ [Output.answer .ok none] ∧
            (s.flag o4100_02 [pVCS n.val] = false → Writes s t o5230_01 [pVCS n.val] v) ∧
            (s.flag o4100_02 [pVCS n.val] = true → s.val o5230_01 [pVCS n.val] ≠ v →
              t.val o4400_03 [pVCS n.val] = (s.val o4400_03 [pVCS n.val] + 1) % 2 ^ 32)
          else TurnedAway s t .refused))

/-- Answers, timers and scrubs carry a block's operation on, end it, or quarantine the block. RELEASE_CAPACITY_RESPONSE of a VCS of this
member that step 1 waits for: without the extent a commanded operation ends with status 3; with it and others to answer, only its bit
goes; with it as the last, the record of step 2 is requested. RELEASE_TIMEOUT in step 1: status 3 at the deadline.
BLOCK_COLOUR_COMMIT_COMPLETE once every other member has applied it: the checkers apply the colour, and in step 5 the record of step 6
is requested. TRANSIT_SETTLE_TIMER in step 3: 10 us after that, the record of step 4 once the home holds nothing of the block.
SCRUB_COMPLETE while the memory port's link is up, a zero-fill's lines invalidated: with no next owner the block is FREE and the
operation over, with one the record of step 5 is requested. SCRUB_ATTEMPT_FAIL and SANITIZE_TIMEOUT: below the limit of attempts the
fail is counted and step 4 recorded again; at it the block is in QUARANTINE and scrub-failed is raised. ADD_CAPACITY_RESPONSE of an
owner of a BOUND block: the answer is recorded. A response to the event of another member goes to that member. -/
def Obligations.BlockOperationsGoOnStepByStep : Prop :=
  (∀ (s : State) (b : Fin 65536) (vcs : Fin 64) (v : Block), blk s b.val = some v → v.run = true → v.step = 1 → v.waitRec = false →
      (∀ a ∈ s.forme.asked, a.2 ≠ (b.val, vcs.val, 0)) → let n := askBit s v (ownPos s) vcs.val
      bit v.ask n = true →
      (∃ t, exec (.releaseCapacityResponse b vcs false) s = .next t ∧ (v.cmd = true → t.val o5220_02 [pCB b.val] = 3) ∧
        ∃ w, blk t b.val = some w ∧ w.run = false ∧ w.state = v.state ∧ w.owner = v.owner) ∧
      (dropSlot v.ask n ≠ 0 →
        ∃ t, exec (.releaseCapacityResponse b vcs true) s = .next t ∧ t = { s with blocks := t.blocks } ∧
          blk t b.val = some { v with ask := dropSlot v.ask n }) ∧
      (dropSlot v.ask n = 0 →
        ∃ t, exec (.releaseCapacityResponse b vcs true) s = .next t ∧
          ∃ r : JRec, t.pool.wait = s.pool.wait ++ [r] ∧ r.block = b.val ∧ r.step = 2)) ∧
  (∀ (s : State) (b : Fin 65536) (v : Block), blk s b.val = some v → v.run = true → v.step = 1 → v.ask ≠ 0 →
      ∃ t, exec (.releaseTimeout b) s = .next t ∧ v.until_ ≤ t.clk.now ∧ (v.cmd = true → t.val o5220_02 [pCB b.val] = 3) ∧
        ∃ w, blk t b.val = some w ∧ w.run = false ∧ w.state = v.state ∧ w.owner = v.owner) ∧
  (∀ (s : State) (b : Fin 65536) (v : Block), blk s b.val = some v → v.colourDone = none →
      (∀ k ∈ otherMembers s, bit v.behind k = false) →
      ∃ t, exec (.blockColourCommitComplete b) s = .next t ∧
        (∃ w, blk t b.val = some w ∧ w.applied = v.colour ∧ w.colourDone = some s.clk.now ∧ w.state = v.state) ∧
        (if v.run = true ∧ v.step = 5 ∧ v.waitRec = false
          then ∃ r : JRec, t.pool.wait = s.pool.wait ++ [r] ∧ r.block = b.val ∧ r.step = 6
          else t = { s with blocks := t.blocks })) ∧
  (∀ (s : State) (b : Fin 65536) (v : Block) (u : Nat), blk s b.val = some v → v.run = true → v.step = 3 → v.waitRec = false →
      v.colourDone = some u →
      ∃ t, exec (.transitSettleTimer b) s = .next t ∧ u + us 10 ≤ t.clk.now ∧
        (blockSettled s v = true → ∃ r : JRec, t.pool.wait = s.pool.wait ++ [r] ∧ r.block = b.val ∧ r.step = 4) ∧
        (blockSettled s v = false → t = { s with clk := t.clk })) ∧
  (∀ (s : State) (b : Fin 65536) (v : Block) (u : Nat), blk s b.val = some v → v.scrubAt = some u →
      linkOf s (blockPort v) = 2 → (v.scrubm = 0 → recalling s b.val = false) →
      ∃ t, exec (.scrubComplete b) s = .next t ∧ (v.scrubm = 0 → u + ns scrubNs ≤ t.clk.now) ∧
        (v.next = 0xFFF → ∃ w, blk t b.val = some w ∧ w.state = 0 ∧ w.owner = 0xFFF ∧ w.fenced = false ∧ w.run = false) ∧
        (v.next ≠ 0xFFF → ∃ r : JRec, t.pool.wait = s.pool.wait ++ [r] ∧ r.block = b.val ∧ r.step = 5)) ∧
  (∀ (s : State) (b : Fin 65536) (v : Block) (u : Nat), blk s b.val = some v → v.scrubAt = some u →
      (∃ t, exec (.scrubAttemptFail b) s = .next t ∧
        (v.fails + 1 < s.val o5210_05 [] → (∃ w, blk t b.val = some w ∧ w.fails = min (v.fails + 1) 7 ∧ w.scrubAt = none) ∧
          ∃ r : JRec, t.pool.wait = s.pool.wait ++ [r] ∧ r.block = b.val ∧ r.step = 4) ∧
        (s.val o5210_05 [] ≤ v.fails + 1 → FaultSent s t 0x505 0x18 ∧
          ∃ w, blk t b.val = some w ∧ w.state = 4 ∧ w.run = false ∧ w.colour = s.val o5210_04 [])) ∧
      (v.scrubm = 1 →
        ∃ t, exec (.sanitizeTimeout b) s = .next t ∧ u + sec (s.val o5210_02 []) ≤ t.clk.now ∧
          (v.fails + 1 < s.val o5210_05 [] → ∃ r : JRec, t.pool.wait = s.pool.wait ++ [r] ∧ r.block = b.val ∧ r.step = 4) ∧
          (s.val o5210_05 [] ≤ v.fails + 1 → FaultSent s t 0x505 0x18 ∧ ∃ w, blk t b.val = some w ∧ w.state = 4 ∧ w.run = false))) ∧
  (∀ (s : State) (b : Fin 65536) (vcs : Fin 64) (accepted : Bool) (v : Block), blk s b.val = some v → v.state = 1 →
      (∀ a ∈ s.forme.asked, a.2 ≠ (b.val, vcs.val, 2)) → (ownersOf s v.kind v.owner).any (fun o => o.2 == (ownPos s, vcs.val)) = true →
      ∃ t, exec (.addCapacityResponse b vcs accepted) s = .next t ∧ t.val o5220_03 [pCB b.val] = (if accepted then 1 else 2) ∧
        ObjsKept s t [(o5220_03, [pCB b.val])] ∧ t = { s with store := t.store }) ∧
  (∀ (s : State) (b : Fin 65536) (vcs : Fin 64) (ok : Bool) (a : Nat × Nat × Nat × Nat) (r : List (Nat × Nat × Nat × Nat)),
      (takeFirst (fun a : Nat × Nat × Nat × Nat => a.2 == (b.val, vcs.val, 0)) s.forme.asked = some (a, r) →
        exec (.releaseCapacityResponse b vcs ok) s = .next { s with
          out := s.out ++ [.forme a.1 (.capacityAnswer vcs.val 0 b.val ok)], forme := { s.forme with asked := r } }) ∧
      (takeFirst (fun a : Nat × Nat × Nat × Nat => a.2 == (b.val, vcs.val, 2)) s.forme.asked = some (a, r) →
        exec (.addCapacityResponse b vcs ok) s = .next { s with
          out := s.out ++ [.forme a.1 (.capacityAnswer vcs.val 2 b.val ok)], forme := { s.forme with asked := r } }))

/-- A range entry takes a new mode, by conversion where it leaves one, and answered or expired snoops end their operations. Admitted by the
gate. RANGE_ENTRY_WRITE: busy while it converts; a word R158 does not allow is refused; an off range that becomes active with no record
in use takes a record in SCRUB under the transit colour for each block; broadcast to another mode, or homed to off or pass-through,
begins a conversion; the present mode again changes nothing, but for the domain of a pass-through entry. RANGE_CONVERSION_COMPLETE with
every block answered and, where the range leaves its domain, nothing under way on it: the entry has its new mode, and no conversion
runs. With nothing else at the home: BIRSP_RECEIVE of the last answer an operation of a failed entry waits for ends it; one that
answers nothing is counted late. BI_TIMEOUT of such an operation: it ends at the deadline, the line is written with poison or waits for
that, the timeout counted, bi-timeout raised. REGION_RECALL_COMPLETE: the entry of a homed range, no holder isolated, takes state and
holders; EVICTION_COMPLETE: it is empty; DEMOTION_COMPLETE, every owner snooped: it is no longer promoted; each operation is gone. -/
def Obligations.RangesConvertAndSnoopsEnd : Prop :=
  (∀ (role : Role) (rg : Fin 1024) (v : Nat) (s : State), writeGate role o5020_01 [pRG rg.val] s = none →
      let new := setBits v 1 0 0
      let old := s.val o5020_01 [pRG rg.val]
      ∃ t, exec (.rangeEntryWrite role rg v) s = .next t ∧
        (s.val o5020_02 [pRG rg.val] = 2 → TurnedAway s t .busy) ∧
        (s.val o5020_02 [pRG rg.val] ≠ 2 →
          (2 ^ 64 ≤ v ∨ rangeBad s rg.val old new = true → TurnedAway s t .refused) ∧
          (v < 2 ^ 64 → rangeBad s rg.val old new = false →
            (rangeMode old = rangeMode new → rangeMode old = 1 ∨ rangeMode old = 2 → TurnedAway s t .ok) ∧
            (rangeMode old = rangeMode new → rangeMode old = 3 → Writes s t o5020_01 [pRG rg.val] new) ∧
            (rangeMode old = 0 → rangeMode new ≠ 0 → s.blocks = [] → rangeBlocks new ≤ 65536 →
              t.out.getLast? = some (Output.answer .ok none) ∧ rangeMode (t.val o5020_01 [pRG rg.val]) = rangeMode new ∧
              ∀ j, j < rangeBlocks new → ∃ w, blk t j = some w ∧ w.base = rangeBase new + j ∧ w.state = 3 ∧
                w.colour = s.val o5210_04 [] ∧ w.range = rg.val ∧ w.run = true) ∧
            ((rangeMode old = 2 ∧ rangeMode new ≠ 2) ∨ (rangeMode old = 1 ∧ (rangeMode new = 0 ∨ rangeMode new = 3)) →
              t.out = s.out ++ [Output.answer .ok none] ∧ t.val o5020_02 [pRG rg.val] = 2 ∧ Tbl.look none t.home.conv rg.val = some new)))) ∧
  (∀ (s : State) (rg : Fin 1024) (new : Nat), let w := s.val o5020_01 [pRG rg.val]
      Tbl.look none s.home.conv rg.val = some new →
      (∀ q : Fin 8, ∀ o ∈ opsOf s q.val, o.why = .convert rg.val → SnoopOp.done o = true) →
      (rangeMode new = 0 ∨ rangeMode new = 3 → rangeQuiet s rg.val (rangeBase w) (rangeBlocks w) = true) →
      ∃ t, exec (.rangeConversionComplete rg) s = .next t ∧ rangeMode (t.val o5020_01 [pRG rg.val]) = rangeMode new ∧
        Tbl.look none t.home.conv rg.val = none ∧ t.val o5020_02 [pRG rg.val] ≠ 2) ∧
  (∀ (s : State) (q : Fin 8), quireDark s q.val = false → HomeQuiet s q.val → s.blocks = [] →
      wbufOf s q.val = [] →
      (∀ (w : TSort) (r : List TSort), Tbl.look [] s.stg.toHome q.val = w :: r → w.x.home = true → w.x.pkt.op.channel = 2 →
        (∀ (o : SnoopOp) (n u : Nat), opsOf s q.val = [o] → o.id = w.x.pkt.tag % 2 ^ 32 → o.why = .failed → o.next = o.count →
          o.waits = [⟨n, w.x.pkt.addr, u⟩] → slotFrom s o.dom w.x.pkt true = some n →
          ∃ t, exec (.birspReceive q) s = .next t ∧ opsOf t q.val = [] ∧ Tbl.look [] t.stg.toHome q.val = r ∧ w.at_ ≤ t.clk.now) ∧
        (∀ n, opsOf s q.val = [] → homedHere s w.x.pkt.addr = true → slotFrom s (domAt s w.x.pkt.addr) w.x.pkt true = some n →
          ∃ t, exec (.birspReceive q) s = .next t ∧ Tbl.look [] t.stg.toHome q.val = r ∧
            let p := slotPath (domAt s w.x.pkt.addr) n
            t.val o5030_05 p = min (s.val o5030_05 p + 1) o5030_05.hi ∧ ObjsKept s t [(o5030_05, p)])) ∧
      (∀ (o : SnoopOp) (w : SnoopWait), opsOf s q.val = [o] → o.waits = [w] → o.why = .failed → o.next = o.count → o.dom < 16 →
        ∃ t, exec (.biTimeout q) s = .next t ∧ opsOf t q.val = [] ∧ w.until_ ≤ t.clk.now ∧ FaultSent s t (0x2B8 + q.val) 0x12 ∧
          t.val o5030_04 (slotPath o.dom w.slot) = min (s.val o5030_04 (slotPath o.dom w.slot) + 1) o5030_04.hi ∧
          ((wbufOf t q.val).any (fun b => b.line == w.addr / 64 && b.x.pkt.poison) = true ∨
            w.addr / 64 ∈ Tbl.look [] t.home.toPoison q.val))) ∧
  (∀ (s : State) (q : Fin 8) (o : SnoopOp) (k : Nat), HomeQuiet s q.val → s.home.lines = [] → s.blocks = [] → s.dir.wait = [] →
      let e := regEnt s q.val k
      let clean := (slotsOf e.sharers).all fun n => homeView s o.dom n != 3
      let rest := (opsOf s q.val).filter (·.id != o.id)
      (∀ st u, firstDone s q.val (fun w => match w with | .recallOf .. => true | _ => false) = some o → o.why = .recallOf k st u →
        clean = true → homedStill s (regionAddr s k e) = true → let u := if st = 1 then u ||| e.sharers else u
        ∃ t, exec (.regionRecallComplete q) s = .next t ∧ opsOf t q.val = rest ∧
          regEnt t q.val k = { e with state := if u = 0 ∧ st ≠ 3 then 0 else st, sharers := u, busy := 0 }) ∧
      (firstDone s q.val (fun w => match w with | .evict _ => true | _ => false) = some o → o.why = .evict k →
        ∃ t, exec (.evictionComplete q) s = .next t ∧ opsOf t q.val = rest ∧ regEnt t q.val k = {}) ∧
      (firstDone s q.val (fun w => match w with | .demote .. => true | _ => false) = some o →
        ∀ js, o.why = .demote k js → clean = true → (∀ j ∈ demoteLines s q.val k, j ∈ js) →
        ∃ t, exec (.demotionComplete q) s = .next t ∧ opsOf t q.val = rest ∧ (regEnt t q.val k).prom = false ∧
          (regEnt t q.val k).busy = 0 ∧ (regEnt t q.val k).hits = 0))

/-- A ring is assigned, enabled, published to, paused, flushed, cleared, disabled, squashed and drained. In a quire that is not contained.
Admitted by the gate, RING_ASSIGN of an allowed owner and a unit of the ring's quire: a DISABLED ring takes the word, any other is
squashed and the word waits; a unit of another quire is refused. Where the ring's page takes writes: RING_BASE_WRITE and RING_ENABLE of
a DISABLED ring set a base, or make it ACTIVE with its indices 0, or set CFGERR; DOORBELL_SQ_TAIL and DOORBELL_CQ_HEAD of one that is
not DISABLED take an index in rule, else set BADIDX, and an ACTIVE ring goes to ERROR; RING_PAUSE and RING_RESUME move between ACTIVE
and PAUSED; RING_FLUSH discards what is not started; RING_CLEAR clears the error bits, and an ERROR ring is DISABLED; RING_DISABLE
disables it once nothing runs. DOORBELL_WRITE_DISCARD is counted. RING_SQUASH with 1: a ring not DISABLED is SQUASHED with nothing
running. RING_DRAIN_COMPLETE: with nothing left it is at its reset values or takes the word that waited; a write still in the device
raises residue at 5 ms, once for a reset. -/
def Obligations.RingsAreAssignedEnabledAndSquashed : Prop :=
  (∀ (role : Role) (r : Fin 65536) (v : Nat) (s : State), writeGate role o8000_01 [pRI r.val] s = none → v < 2 ^ 32 →
      ownerAllowed (ringOwner v) = true → (ringInside v = true → isFnOwner (ringOwner v) = false) →
      ∃ t, exec (.ringAssign role r v) s = .next t ∧
        (ringUnit v / 4 ≠ r.val / 8192 → TurnedAway s t .refused) ∧
        (ringUnit v / 4 = r.val / 8192 →
          (ringValid v = true → 0x840 ≤ ringOwner v → ringOwner v < 0x1840 →
            ((ringsOf s (ringOwner v)).filter (· != r.val)).length < 256) →
          v &&& 0xFFFFFF00 ≠ ringWord s r.val → t.out.getLast? = some (.answer .ok none) ∧
          (if (ringOf s r.val).state = 0 then ringWord t r.val = v &&& 0xFFFFFF00
            else ringWord t r.val = ringWord s r.val ∧ (ringOf t r.val).state = 5 ∧ (ringOf t r.val).assign = some (v &&& 0xFFFFFF00)))) ∧
  (∀ (s : State) (r : Fin 65536) (v : Nat), pageTakes s r.val = true → ringDark s r.val = false → let x := ringOf s r.val
      (∀ cq : Bool, x.state = 0 →
        ∃ t, exec (.ringBaseWrite r cq v) s = .next t ∧
          ringOf t r.val = (if cq then { x with cqBase := v % 2 ^ 64 } else { x with sqBase := v % 2 ^ 64 }) ∧
          t = { s with plat := { s.plat with ring := t.plat.ring } }) ∧
      (x.state = 0 → bit v 63 = true →
        ∃ t, exec (.ringEnable r v) s = .next t ∧ t = { s with plat := { s.plat with ring := t.plat.ring } } ∧
          (if enableOk (ringOwner (ringWord s r.val)) x v = true
            then (ringOf t r.val).state = 1 ∧ (ringOf t r.val).sqTail = 0 ∧ (ringOf t r.val).cqHead = 0 ∧ (ringOf t r.val).phase = true
            else (ringOf t r.val).state = 0 ∧ (ringOf t r.val).cfgerr = true)) ∧
      (x.state ≠ 0 →
        ∃ t, exec (.doorbellSqTail r v) s = .next t ∧ t.store = s.store ∧ t.out = s.out ∧
          (if v < sqSize x ∧ sqDepth x ≤ sqDepth { x with sqTail := v }
            then (ringOf t r.val).sqTail = v ∧ (ringOf t r.val).state = x.state
            else (ringOf t r.val).badidx = true ∧ (ringOf t r.val).state = (if x.state = 1 then 4 else x.state))) ∧
      (x.state ≠ 0 →
        ∃ t, exec (.doorbellCqHead r v) s = .next t ∧
          (if v < cqSize x ∧ cqDepth { x with cqHead := v } ≤ cqDepth x
            then (ringOf t r.val).cqHead = v ∧ (ringOf t r.val).state = x.state
            else (ringOf t r.val).badidx = true ∧ (ringOf t r.val).state = (if x.state = 1 then 4 else x.state))) ∧
      (x.state = 1 → ∃ t, exec (.ringPause r) s = .next t ∧ ringOf t r.val = { x with state := 2 } ∧
        t = { s with plat := { s.plat with ring := t.plat.ring } }) ∧
      (x.state = 2 → ∃ t, exec (.ringResume r) s = .next t ∧ ringOf t r.val = { x with state := 1 } ∧
        t = { s with plat := { s.plat with ring := t.plat.ring } }) ∧
      (1 ≤ x.state → x.state ≤ 3 → ∃ t, exec (.ringFlush r) s = .next t ∧ (ringOf t r.val).fifo = [] ∧
        (ringOf t r.val).sqHead = x.sqTail ∧ (ringOf t r.val).run = x.run ∧ t = { s with plat := t.plat }) ∧
      (∃ t, exec (.ringClear r) s = .next t ∧ (ringOf t r.val).badidx = false ∧ (ringOf t r.val).cfgerr = false ∧
        (ringOf t r.val).undr = false ∧ (ringOf t r.val).memerr = false ∧
        (ringOf t r.val).state = (if x.state = 4 then 0 else x.state) ∧ t = { s with plat := t.plat }) ∧
      ((x.state = 1 ∨ x.state = 2) → ∃ t, exec (.ringDisable r) s = .next t ∧ (ringOf t r.val).fifo = [] ∧
        (if x.run = [] then (ringOf t r.val).state = 0 else (ringOf t r.val).state = x.state ∧ (ringOf t r.val).disabling = true) ∧
        t = { s with plat := t.plat })) ∧
  (∀ (s : State) (n : Fin 64),
      (∃ t, exec (.doorbellWriteDiscard (some n)) s = .next t ∧ t = { s with store := t.store } ∧
        t.val o4450_01 [pVCS n.val] = min (s.val o4450_01 [pVCS n.val] + 1) o4450_01.hi ∧ ObjsKept s t [(o4450_01, [pVCS n.val])]) ∧
      (∃ t, exec (.doorbellWriteDiscard none) s = .next t ∧ t = { s with store := t.store } ∧
        t.val o8030_01 [] = min (s.val o8030_01 [] + 1) o8030_01.hi ∧ ObjsKept s t [(o8030_01, [])])) ∧
  (∀ (role : Role) (r : Fin 65536) (s : State), writeGate role o8000_06 [pRI r.val] s = none →
      (∀ n, role = .host n → (viewVcs s (ringWord s r.val)).contains n.val = true) →
      ∃ t, exec (.ringSquash role r 1) s = .next t ∧ t.out = s.out ++ [Output.answer .ok none] ∧ t.store = s.store ∧
        (if (ringOf s r.val).state = 0 then t.plat = s.plat
          else (ringOf t r.val).state = 5 ∧ ((ringOf s r.val).state ≠ 5 → (ringOf t r.val).run = [] ∧ (ringOf t r.val).fifo = []))) ∧
  (∀ (s : State) (r : Fin 65536), let v := ringOf s r.val
      v.state = 5 →
      (v.left = [] → ∃ t, exec (.ringDrainComplete r) s = .next t ∧ ringOf t r.val = {} ∧ t.clk = s.clk ∧
        (∀ w, v.assign = some w → ringWord t r.val = w)) ∧
      (∀ a, v.left = [a] → a.write = true → pidInside s a.pid = true → v.assign = none →
        Tbl.look none s.plat.residue (ringOwner (ringWord s r.val)) ≠ some v.squashAt →
        ∃ t, exec (.ringDrainComplete r) s = .next t ∧ ringOf t r.val = {} ∧ v.squashAt + ms 5 ≤ t.clk.now ∧
          FaultSent s t (0x2D0 + ringUnit (ringWord s r.val)) 0x40 ∧
          let i := ringOwner (ringWord s r.val)
          t.val o8020_02 [pIN i] = min (s.val o8020_02 [pIN i] + 1) o8020_02.hi))

/-- Platen fetches a descriptor, serves a chunk, takes an answer and writes a completion. At a unit in a quire that is not dark.
PLATEN_DESCRIPTOR_FETCH for the ring whose turn it is: where its owner's access is allowed (and host memory answers), the descriptor
joins the FIFO and SQ head moves on; else the ring is in ERROR with MEMERR. PLATEN_CHUNK_SERVICE of a ring with one descriptor running,
a FILL with bytes left in the internal space that Frisket allows, where the unit may write and no granule is held: those bytes read as
the pattern, every other byte as before, and the descriptor is that much further. PLATEN_ACCESS_RESPONSE to a write: it waits for it no
longer, and an error response fails it with status 4 at that offset; an answer nothing waits for is discarded. DESCRIPTOR_COMPLETE of a
FILL that is over on a ring in the internal space whose record may be written: the record stands at CQ tail, the tail moves on, the
completion is counted; where it may not, ERROR with MEMERR. -/
def Obligations.PlatenFetchesServesAndCompletes : Prop :=
  (∀ (s : State) (u : Fin 32) (got : Option Nat) (r : Nat) (l : List Nat), quireDark s (u.val / 4) = false →
      unitRings s u.val (Tbl.look 0 s.plat.fetched u.val) (fun _ v =>
        v.state == 1 && v.hasFifo && !v.disabling && sqDepth v != 0 && decide (v.fifo.length < 16)) = r :: l →
      let v := ringOf s r
      let inside := ringInside (ringWord s r)
      let s1 : State := { s with plat := { s.plat with fetched := Tbl.upd 0 s.plat.fetched u.val r } }
      let ok := (ownAccess (ctxOf s r) inside (v.sqBase + 64 * v.sqHead) 64 false s1).1
      ∃ t, exec (.platenDescriptorFetch u got) s = .next t ∧
        (ok = true → (inside = true ∨ got ≠ none) → (ringOf t r).sqHead = (v.sqHead + 1) % sqSize v ∧ (ringOf t r).state = v.state ∧
          ∃ d, (ringOf t r).fifo = v.fifo ++ [d] ∧ d.2 = v.sqHead ∧ (inside = false → some d.1 = got.map (· % 2 ^ 512))) ∧
        (ok = false ∨ (inside = false ∧ got = none) → (ringOf t r).state = 4 ∧ (ringOf t r).memerr = true ∧ (ringOf t r).run = [])) ∧
  (∀ (s : State) (u : Fin 32) (r : Nat) (low : Bool) (e : PExec) (vs vd : Option Nat) (under : Bool),
      let n := min 4096 (dLen e.word - e.next)
      let a := dDst e.word + e.next
      quireDark s (u.val / 4) = false → nextRing s u.val = some (r, low) → (ringOf s r).run = [e] → hasWork e = true →
      dOp e.word = 2 → dasp e.word = 3 →
      (friskAsk (ckUnit u.val) (ringOwner (ringWord s r)) none 1 a n false s).1 = .allow → insideOk s a n true = true → heldIn s a n = none →
      ∃ t, exec (.platenChunkService u (vs, vd) under) s = .next t ∧ (ringOf t r).run = [{ e with next := e.next + n, vs := vs, vd := vd }] ∧
        memRead t.mem a n = fillData (dPattern e.word) e.next n ∧ MemKept s t a n ∧ t.store = s.store ∧ t.stg = s.stg) ∧
  (∀ (s : State) (u : Fin 32) (w : TSort) (rest : List TSort),
      takeFirst (fun t : TSort => t.x.orig && t.x.srcq == u.val / 4 && t.x.sport == 0x10 + u.val % 4) s.stg.toUnit = some (w, rest) →
      ∃ t, exec (.platenAccessResponse u) s = .next t ∧ t.stg.toUnit = rest ∧
        (ringWaits s w.x.pid = none → t = { s with stg := { s.stg with toUnit := rest } }) ∧
        (∀ (r : Nat) (e : PExec) (a : PAcc), ringWaits s w.x.pid = some r → (ringOf s r).run = [e] → e.accs = [a] →
          a.pid = w.x.pid → a.write = true → e.fail = none →
          (ringOf t r).run = [{ e with accs := [], fail := if w.x.pkt.err then some (4, a.off) else none }])) ∧
  (∀ (s : State) (r : Fin 65536) (e : PExec) (rest : List PExec), let v := ringOf s r.val
      let a := v.cqBase + 32 * v.cqTail
      quireDark s (r.val / 8192) = false → (v.state = 1 ∨ v.state = 2) → v.run = e :: rest → v.disabling = false →
      e.accs = [] → hasWork e = false → e.sent = [] → dOp e.word = 2 → ringInside (ringWord s r.val) = true → heldIn s a 32 = none →
      ∃ t, exec (.descriptorComplete r) s = .next t ∧
        (if (ownAccess (ctxOf s r.val) true a 32 true s).1 = true then
          (ringOf t r.val).run = rest ∧ (ringOf t r.val).cqTail = (v.cqTail + 1) % cqSize v ∧
          t.val o8000_05 [pRI r.val] = min (s.val o8000_05 [pRI r.val] + 1) o8000_05.hi ∧
          memRead t.mem a 32 = execRecord v e 0 (tbNs s) % 256 ^ 32 ∧ MemKept s t a 32
        else (ringOf t r.val).state = 4 ∧ (ringOf t r.val).memerr = true))

/-- A slot power channel ramps, becomes good, comes ON, trips, cools down, latches and is cleared. SLOT_CHANNEL_POWER_ON with 1 for an OFF
channel of a port that is not bound: the gate opens, RAMP, attempt 1; of a bound port or with another value it is refused.
SLOT_RAMP_COMPLETE in RAMP marks the output good and measures it. SLOT_RAMP_OVERCURRENT above the ramp limit, SLOT_RAMP_TIMEOUT, and
SLOT_STEADY_TRIP above the steady limit close the gate: the channel COOLS, or is LATCHED when its attempts exceed its retries; where
the port has no link, fault 0x56 is sent. SLOT_PERST_DELAY 100 ms after the output is good: PERST# deasserted, ON, and the link of a
device that is present comes up. SLOT_COOL_DOWN_EXPIRY after the cool-down: RAMP, one attempt more. SLOT_LATCH_CLEAR with 1: a LATCHED
channel is OFF. -/
def Obligations.SlotChannelsRampTripAndRestart : Prop :=
  (∀ (role : Role) (ch : Fin 32) (v : Nat) (s : State), writeGate role oA010_0B [pSP ch.val] s = none →
      let free := (chanPort s ch.val).all fun p => (vppbsOf s p).isEmpty && !boundFar s p
      ∃ t, exec (.slotChannelPowerOn role ch v) s = .next t ∧
        (1 < v ∨ (v = 1 ∧ free = false) → TurnedAway s t .refused) ∧
        (v = 0 ∨ (v = 1 ∧ free = true ∧ chanState s ch.val ≠ 0) → TurnedAway s t .ok) ∧
        (v = 1 → free = true → chanState s ch.val = 0 → chanState t ch.val = 1 ∧ t.val oA010_0A [pSP ch.val] = 1 ∧
          chanOf t ch.val = { since := s.clk.now } ∧ t.out = s.out ++ [Output.gate ch.val true, Output.answer .ok none] ∧
          ObjsKept s t [(oA010_01, [pSP ch.val]), (oA010_0A, [pSP ch.val])] ∧
          t = { s with store := t.store, out := t.out, slots := { s.slots with chan := t.slots.chan } })) ∧
  (∀ (ch : Fin 32) (s : State), let c := chanOf s ch.val
      (chanState s ch.val = 1 → c.goodAt = none →
        ∃ t, exec (.slotRampComplete ch) s = .next t ∧ chanOf t ch.val = { c with goodAt := some s.clk.now } ∧
          t.val oA010_09 [pSP ch.val] / 2 ^ 16 = 10800 ∧ ObjsKept s t [(oA010_09, [pSP ch.val])] ∧
          t = { s with store := t.store, slots := { s.slots with chan := t.slots.chan } }) ∧
      (chanState s ch.val = 1 → ∀ g, c.goodAt = some g →
        ∃ t, exec (.slotPerstDelay ch) s = .next t ∧ g + ms 100 ≤ t.clk.now ∧ chanState t ch.val = 2 ∧
          (∀ p, chanPort s ch.val = some p → present s p = true → noTraining s p = false → foreignSwitch s p = false →
            linkOf t p = 2) ∧
          (∀ p, chanPort s ch.val = some p → present s p = false → expanderOf s p = none →
            t.out = s.out ++ [Output.reset 3 p 0] ∧ ObjsKept s t [(oA010_01, [pSP ch.val])] ∧ bit (outsOf t p) 0 = true)) ∧
      (chanState s ch.val = 3 →
        ∃ t, exec (.slotCoolDownExpiry ch) s = .next t ∧ c.since + ms (s.val oA010_06 [pSP ch.val]) ≤ t.clk.now ∧
          chanState t ch.val = 1 ∧ t.val oA010_0A [pSP ch.val] = s.val oA010_0A [pSP ch.val] + 1 ∧
          chanOf t ch.val = { since := t.clk.now } ∧ t.out = s.out ++ [Output.gate ch.val true] ∧
          ObjsKept s t [(oA010_01, [pSP ch.val]), (oA010_0A, [pSP ch.val])])) ∧
  (∀ (ch : Fin 32) (mA : Nat) (s : State), let c := chanOf s ch.val
      let next := if s.val oA010_07 [pSP ch.val] < s.val oA010_0A [pSP ch.val] then 4 else 3
      let down := (chanPort s ch.val).all fun p => linkOf s p == 0
      let cut := fun t : State => (chanState t ch.val = 3 ∨ chanState t ch.val = 4) ∧
        (down = true → chanState t ch.val = next ∧ FaultSent s t (0x610 + ch.val) 0x56 ∧
          t.val oA010_0A [pSP ch.val] = s.val oA010_0A [pSP ch.val] ∧
          t.val oA010_09 [pSP ch.val] % 2 ^ 16 = min mA 65535 ∧ ObjsKept s t [(oA010_01, [pSP ch.val]), (oA010_09, [pSP ch.val])] ∧
          t.out.contains (.gate ch.val false) = true)
      (chanState s ch.val = 1 → c.goodAt = none → s.val oA010_03 [pSP ch.val] < mA →
        ∃ t, exec (.slotRampOvercurrent ch mA) s = .next t ∧ t.clk = s.clk ∧ cut t) ∧
      (chanState s ch.val = 1 → c.goodAt = none →
        ∃ t, exec (.slotRampTimeout ch mA) s = .next t ∧ c.since + ms 18000 / s.val oA010_02 [pSP ch.val] ≤ t.clk.now ∧ cut t) ∧
      ((chanState s ch.val = 2 ∨ (chanState s ch.val = 1 ∧ c.goodAt ≠ none)) → s.val oA010_04 [pSP ch.val] < mA →
        ∃ t, exec (.slotSteadyTrip ch mA) s = .next t ∧ cut t ∧
          (mA < 2 * s.val oA010_04 [pSP ch.val] → s.clk.now + us (s.val oA010_05 [pSP ch.val]) ≤ t.clk.now))) ∧
  (∀ (role : Role) (ch : Fin 32) (v : Nat) (s : State), writeGate role oA010_0C [pSP ch.val] s = none →
      ∃ t, exec (.slotLatchClear role ch v) s = .next t ∧
        (1 < v → TurnedAway s t .refused) ∧
        (v = 0 ∨ (v = 1 ∧ chanState s ch.val ≠ 4) → TurnedAway s t .ok) ∧
        (v = 1 → chanState s ch.val = 4 → chanState t ch.val = 0 ∧ t.val oA010_0A [pSP ch.val] = 0 ∧
          t.out = s.out ++ [Output.answer .ok none] ∧ OnlyStore s t ∧
          ObjsKept s t [(oA010_01, [pSP ch.val]), (oA010_0A, [pSP ch.val])]))

/-- Slot power, indicators, the attention button and the slot sideband bus act as the host and the slots see them. Each completes to the
host of a vPPB it can reach. SLOT_POWER_ON clears Power Controller Control and SLOT_POWER_OFF sets it where nothing or a target without
a link is bound, and each sets Command Completed; an OFF channel of a whole port ramps, a ramping one is OFF. SLOT_INDICATOR_CONTROL
sets the two indicator fields and Command Completed, and drives a whole port that has a slot channel. INDICATOR_BLINK inverts the
outputs of the blinking indicators at half the period. ATTENTION_BUTTON of a PCIe or CXL port sets Attention Button Pressed in its
vPPB, or sends an event when nothing is bound; of a port bound on another member it tells that member. SLOTBUS_IBI: an answer clears
the count of failures; without one they are counted, and the third is logged and marks the expander. SLOTBUS_RETRY 10 ms later: an
acknowledged expander takes its outputs; else it is tried again. -/
def Obligations.SlotControlsActAndAreShown : Prop :=
  (∀ (n : Fin 64) (v : Fin 128) (s : State), HostTakes s n.val (.vppb v) →
      let fin := fun t : State => t.out.getLast? = some (.config (vppbFn n.val v.val) 0 0)
      let r := bindRec s n.val v.val
      let p := recPort r
      let away := recState r = 0 ∨ recDev r ≠ ownPos s
      (∃ t, exec (.slotPowerOn n v) s = .next t ∧ fin t ∧ bit (cfgOf t (vppbFn n.val v.val) .slotStatus) 4 = true ∧
        (away → slotPowered t n.val v.val = true ∧ t = { s with host := t.host, out := t.out } ∧
          (recState r ≠ 0 → t.out.contains (.forme (recDev r) (.power r true)) = true)) ∧
        (¬ away → recKind r = 1 → slotPowered t n.val v.val = true ∧ t.out.contains (.reset 1 p (recLd r)) = true ∧
          t = { s with host := t.host, out := t.out }) ∧
        (¬ away → recKind r ≠ 1 → ∀ ch, channelOf s p = some ch → slotPowered t n.val v.val = true ∧
          (if chanState s ch = 0 then chanState t ch = 1 ∧ t.out.contains (.gate ch true) = true else chanState t ch = chanState s ch)) ∧
        (¬ away → recKind r ≠ 1 → channelOf s p = none → present s p = true → noTraining s p = false → foreignSwitch s p = false → linkOf t p = 2)) ∧
      (∃ t, exec (.slotPowerOff n v) s = .next t ∧ fin t ∧ bit (cfgOf t (vppbFn n.val v.val) .slotStatus) 4 = true ∧
        (away ∨ recKind r = 1 → slotPowered t n.val v.val = false ∧ t = { s with host := t.host, out := t.out }) ∧
        (¬ away → recKind r ≠ 1 → linkOf s p = 0 → slotPowered t n.val v.val = false ∧
          ∀ ch, channelOf s p = some ch → chanState t ch = 0)) ∧
      (∀ att pow : Fin 4, ∃ t, exec (.slotIndicatorControl n v att pow) s = .next t ∧ fin t ∧
        t = { s with host := t.host, slots := t.slots, out := t.out } ∧
        bits (cfgOf t (vppbFn n.val v.val) .slotCtl) 7 6 = att.val ∧ bits (cfgOf t (vppbFn n.val v.val) .slotCtl) 9 8 = pow.val ∧
        bit (cfgOf t (vppbFn n.val v.val) .slotStatus) 4 = true ∧ slotPowered t n.val v.val = slotPowered s n.val v.val ∧
        (¬ away → recKind r = 0 → (channelOf s p).isSome = true →
          bit (outsOf t p) 1 = (indicatorOut att.val == 1) ∧ bit (outsOf t p) 2 = (indicatorOut pow.val == 1) ∧
          bit (outsOf t p) 0 = bit (outsOf s p) 0))) ∧
  (∀ (p : Fin 128) (n v : Nat) (s : State), wholeVppb s p.val = some (n, v) → (channelOf s p.val).isSome = true →
      let a := bits (cfgOf s (vppbFn n v) .slotCtl) 7 6 = 2
      let b := bits (cfgOf s (vppbFn n v) .slotCtl) 9 8 = 2
      (a ∨ b) →
      ∃ t, exec (.indicatorBlink p) s = .next t ∧ Tbl.look 0 s.slots.blinkAt p.val + us 333333 ≤ t.clk.now ∧
        outsOf t p.val = (outsOf s p.val ^^^ (if a then 2 else 0)) ^^^ (if b then 4 else 0) ∧
        t = { s with clk := t.clk, slots := t.slots, out := t.out }) ∧
  (∀ (p : Fin 128) (s : State), roleOf s p.val = 2 →
      ∃ t, exec (.attentionButton p) s = .next t ∧
        (boundFar s p.val = true → t = { s with host := t.host, out := t.out }) ∧
        (boundFar s p.val = false → vppbsOf s p.val = [] → t = { s with out := s.out ++ [Output.event o2020_03.code (pathKey [pP p.val])] }) ∧
        (∀ x, vppbsOf s p.val = [x] → bit (cfgOf t (vppbFn x.1 x.2) .slotStatus) 0 = true ∧ t = { s with host := t.host, out := t.out })) ∧
  (∀ (bus : Fin 4) (addr : Fin 128) (s : State), let e := bus.val * 128 + addr.val
      (expanderPorts s e = [] → ∀ w, ∃ t, exec (.slotbusIbi bus addr (some w)) s = .next t ∧
        t = { s with slots := { s.slots with fails := t.slots.fails } } ∧ Tbl.look 0 t.slots.fails e = 0) ∧
      (∀ p g w, expanderPorts s e = [(p, g)] → bits w (4 * g + 2) (4 * g + 1) = 3 → ∃ t, exec (.slotbusIbi bus addr (some w)) s = .next t ∧
        Tbl.look 0xF t.slots.ins p = bits w (4 * g + 3) (4 * g) ∧ t.store = s.store ∧
        (∀ x, vppbsOf s p = [x] → bit (Tbl.look 0xF s.slots.ins p) 0 ≠ bit w (4 * g) →
          bit (cfgOf t (vppbFn x.1 x.2) .slotStatus) 6 = !bit w (4 * g) ∧ bit (cfgOf t (vppbFn x.1 x.2) .slotStatus) 3 = true)) ∧
      (∃ t, exec (.slotbusIbi bus addr none) s = .next t ∧ t.slots.ins = s.slots.ins ∧
        Tbl.look 0 t.slots.fails e = min (Tbl.look 0 s.slots.fails e + 1) 3 ∧
        (Tbl.look 0 s.slots.fails e = 2 → FaultSent s t (0x630 + bus.val) 0x58 ∧ Tbl.look none t.slots.bad e = some s.clk.now) ∧
        (Tbl.look 0 s.slots.fails e ≠ 2 → t = { s with slots := { s.slots with fails := t.slots.fails } })) ∧
      (∀ at_ ack, Tbl.look none s.slots.bad e = some at_ → ∃ t, exec (.slotbusRetry bus addr ack) s = .next t ∧
        at_ + ms 10 ≤ t.clk.now ∧
        (if ack = true then Tbl.look none t.slots.bad e = none ∧ Tbl.look 0 t.slots.fails e = 0 ∧
            t.out = s.out ++ (expanderPorts s e).map fun x => .slotbus x.1 (outsOf s x.1)
          else Tbl.look none t.slots.bad e = some t.clk.now ∧ t.out = s.out)))

/-- A BAR4 request no window of the VCS serves completes with Unsupported Request and is logged in AER. Of an enabled VCS whose link is up,
its management function in D0 without FLR, no access being under translation: a BAR4 read or write at an offset that no valid window of
the VCS covers, or in a direction that the window does not allow, completes with Unsupported Request (status 1) toward the host; a
posted write is discarded with nothing sent; either sets the Unsupported Request bit of the management function's AER. Offsets of one 4
KB page lie in one window, because every window of 4 KB or more is aligned to its size. -/
def Obligations.ImpositionMissIsUnsupported : Prop :=
  (∀ (n : Fin 64) (p : Packet) (port : Nat) (s : State), s.flag o4100_02 [pVCS n.val] = true → upOf s n.val = some port →
      linkOf s port = 2 → (p.op = .mRd ∨ p.op = .mWr) → inD3 s (n.val * 1024) = false → flrRuns s (n.val * 1024) = false → s.net.imp = [] →
      (windowAt s 1 n.val p.addr = none ∨ (∃ x, windowAt s 1 n.val p.addr = some x ∧ (if p.op = .mWr then winWrite x.2 else winRead x.2) = false)) →
      ∃ t, exec (.bar4Access n p) s = .next t ∧ bit (Tbl.look 0 t.host.aer (n.val * 1024)) 20 = true ∧
        t.net = s.net ∧ t.mem = s.mem ∧
        (p.op = .mWr → t = { s with host := t.host } ∧ t.host = { s.host with aer := t.host.aer, aerHdr := t.host.aerHdr }) ∧
        (p.op = .mRd → SentBulk s t (quireOf port) port 5
          { p with op := .cpl, len := 0, data := 0, status := 1, err := true, dst := some (Fin.ofNat 128 port) })) ∧
  (∀ (w a b : Nat), 12 ≤ winSize w → winBase w % 2 ^ winSize w = 0 → a / 4096 = b / 4096 →
      winBase w ≤ a → a < winBase w + 2 ^ winSize w → winBase w ≤ b ∧ b < winBase w + 2 ^ winSize w)

/-- A BAR4 access goes to the translated address; a window turned off answers when its accesses are over. BAR4_ACCESS of at most 64 bytes
in one line, in a window that allows its direction, where Frisket allows the initiator of the VCS the translated address TARGET +
(offset - BASE), the target is on this device and the quire's path is in service: to a homed line it leaves, while a credit is free, as
one REQ message for the line's home; else as one bulk packet toward the target port. The access is under translation in its window.
IMPOSITION_WINDOW_OFF, admitted: BUSY while the window drains; else its entry is written with OKIND 0, and without an access under way
the answer is OK and the state 0; with one, there is no answer yet and the state is 2. -/
def Obligations.ImpositionTranslatesAndWindowsTurnOff : Prop :=
  (∀ (n : Fin 64) (p : Packet) (port k w : Nat) (s : State), s.flag o4100_02 [pVCS n.val] = true → upOf s n.val = some port →
      linkOf s port = 2 → (p.op = .mRd ∨ p.op = .mWr) → inD3 s (n.val * 1024) = false → flrRuns s (n.val * 1024) = false → s.net.imp = [] →
      windowAt s 1 n.val p.addr = some (k, w) → (if p.op = .mWr then winWrite w else winRead w) = true →
      let a := winAddr w p.addr
      1 ≤ p.len → a % 64 + p.len ≤ 64 → p.addr + p.len ≤ winBase w + 2 ^ winSize w → caDev a = ownPos s →
      s.val o9050_01 [pQ (impQuire a)] ≠ 1 → s.val oD060_02 [pQ (impQuire a)] ≠ 2 → s.val o7040_02 [pQ (impQuire a)] = 0 →
      (friskAsk (ckImp (impQuire a)) n.val none 0 a p.len false s).1 = .allow →
      ∃ t, exec (.bar4Access n p) s = .next t ∧ t.mem = s.mem ∧ t.out = s.out ∧
        (∃ x, Tbl.look none t.net.imp s.net.nextPid = some x ∧ x.window = k ∧ x.len = p.len ∧ x.write = (p.op == .mWr) ∧ x.status = 0) ∧
        (homedHere s a = true → let m := substQuire s (homeQuire a)
          creditOf s (impQuire a) m 3 ≠ 0 →
          ∃ y : DSort, Tbl.look [] t.stg.expQ (creditKey (impQuire a) m 3) = Tbl.look [] s.stg.expQ (creditKey (impQuire a) m 3) ++ [y] ∧
            y.pkt.op = (if p.op = .mRd then .memRd else if p.len = 64 then .memWr else .memWrPtl) ∧ y.pkt.addr = a ∧ y.home = true ∧
            y.init = n.val ∧ y.cls = 3) ∧
        (homedHere s a = false → firstCut a p.len (if p.op = .mWr then mpsOf s (caPort a) (caLd a) else readCut s (caPort a)) = p.len →
          SentBulk s t (impQuire a) (caPort a) 4
            { op := p.op, addr := a, len := p.len, data := (if p.op = .mWr then p.data % 256 ^ p.len else 0), tag := s.gal.nextOrd })) ∧
  (∀ (role : Role) (k : Fin 4096) (v : Nat) (s : State), writeGate role o4410_01 [pIW k.val] s = none → v < 2 ^ 128 →
      ∃ t, exec (.impositionWindowOff role k v) s = .next t ∧
        (s.val o4410_02 [pIW k.val] = 2 → TurnedAway s t .busy) ∧
        (s.val o4410_02 [pIW k.val] ≠ 2 → winOkind (winOf t k.val) = 0 ∧ winTarget (winOf t k.val) = winTarget v ∧
          (winOkind (winOf s k.val) = 0 → t.out.getLast? = some (.answer .ok none)) ∧
          (winOkind (winOf s k.val) ≠ 0 → s.net.imp = [] → t.val o4410_02 [pIW k.val] = 0 ∧ t.out.getLast? = some (.answer .ok none)) ∧
          (∀ x a, s.net.imp = [(0, some x)] → x.window = k.val → x.parts = [a] → (∃ c, x.who = .load c) → winOkind (winOf s k.val) = 2 →
            t.val o4410_02 [pIW k.val] = 2 ∧ t.out = s.out)))

/-- Vectors, masks, INTA, host doorbells, Bus Master Enable and D-states of a function. Of a function of an enabled VCS, with no doorbell
or FLR outstanding; writes of its configuration registers need its link up and the function ready, and complete. INTERRUPT_EVENT: with
MSI-X Enable set, a masked vector or a function that may not master sets its PBA bit, and another is sent (or waits behind its stream
for admission); with it clear the event is pending and an unmasked INTA is asserted. MSIX_UNMASK writes the entry's address and data,
clears its mask and sends the pending message. MSIX_ENABLE_WRITE sets Enable and Mask; enabling with a pending event deasserts INTA and
signals the event by MSI-X. HOST_DOORBELL_RING waits for its engine's stores, then raises vector 3. BME_CLEAR and POWER_STATE_D3HOT
stop the function's rings; BME_SET and POWER_STATE_D0 resume them. -/
def Obligations.InterruptsAreSignalledMaskedAndReleased : Prop :=
  (∀ (n : Fin 64) (f : Func) (v : Fin 2048) (s : State), let fn := fnKey n.val f
      s.flag o4100_02 [pVCS n.val] = true → hasFunc s n.val f = true → v.val < vectorsOf f → s.host.bells = [] → flrRuns s fn = false →
      let e := msixEntry s fn v.val
      let msg : Packet := { op := .mWr, addr := bits e 63 0, len := 4, data := bits e 95 64, tc := Fin.ofNat 8 0 }
      (∃ t, exec (.interruptEvent n f v) s = .next t ∧
        (msixOn s fn = true → msixMask s fn = true ∨ bit e 96 = true ∨ mayMaster s fn = false →
          pbaOf t fn v.val = true ∧ t = { s with host := { s.host with pba := t.host.pba } }) ∧
        (msixOn s fn = true → msixMask s fn = false → bit e 96 = false → mayMaster s fn = true → ∀ p, upOf s n.val = some p →
          t.host = s.host ∧ t.net = s.net ∧ t.plat = s.plat ∧ SentBulk s t (p / 16) p 5 msg) ∧
        (msixOn s fn = false → Tbl.look false t.host.events (fn * 2048 + v.val) = true ∧
          (f = .pf → intxOff s fn = false → Tbl.look false s.host.intx fn = false → Tbl.look false t.host.intx fn = true ∧
            ∀ p, upOf s n.val = some p → SentBulk s t (p / 16) p 5 { op := .msg, data := 0x20 }) ∧
          (f ≠ .pf → Tbl.look false s.host.intx fn = false → t = { s with host := { s.host with events := t.host.events } }))) ∧
      (∀ w, ∃ t, exec (.msixUnmask n f (v, w)) s = .next t ∧ bit (msixEntry t fn v.val) 96 = false ∧
        (∀ a d, w = some (a, d) → bits (msixEntry t fn v.val) 63 0 = a % 2 ^ 64 ∧ bits (msixEntry t fn v.val) 95 64 = d % 2 ^ 32) ∧
        (w = none → bits (msixEntry t fn v.val) 95 0 = bits e 95 0) ∧
        (s.host.pba = [] → t = { s with host := { s.host with msix := t.host.msix } }) ∧
        (w = none → s.host.pba = [(fn * 2048 + v.val, true)] → msixOn s fn = true → msixMask s fn = false → mayMaster s fn = true →
          pbaOf t fn v.val = false ∧ ∀ p, upOf s n.val = some p → SentBulk s t (p / 16) p 5 msg)) ∧
      (∀ en mask, HostTakes s n.val f → ∃ t, exec (.msixEnableWrite n f en mask) s = .next t ∧ msixOn t fn = en ∧ msixMask t fn = mask ∧
        t.out.getLast? = some (.config fn 0 0) ∧
        (s.host.pba = [] → s.host.events = [] → s.host.intx = [] →
          t = { s with host := { s.host with cfg := t.host.cfg }, out := s.out ++ [Output.config fn 0 0] }) ∧
        (en = true → mask = true → msixOn s fn = false → s.host.events = [(fn * 2048 + v.val, true)] → s.host.intx = [(fn, true)] →
          pbaOf t fn v.val = true ∧ t.host.events = [] ∧ t.host.intx = [] ∧
          ∀ p, upOf s n.val = some p → SentBulk s t (p / 16) p 5 { op := .msg, data := 0x24 }))) ∧
  (∀ (e : Fin 192) (n : Fin 64) (s : State), s.host.bells = [] →
      ∃ t, exec (.hostDoorbellRing e n) s = .next t ∧
        (storesSeen s e.val = false → t = { s with host := { s.host with bells := [(e.val, n.val)] } }) ∧
        (storesSeen s e.val = true → t.host.bells = [] ∧ (s.flag o4100_02 [pVCS n.val] = false → t = s) ∧
          (s.flag o4100_02 [pVCS n.val] = true → flrRuns s (n.val * 1024) = false → msixOn s (n.val * 1024) = true →
            msixMask s (n.val * 1024) = true → pbaOf t (n.val * 1024) 3 = true))) ∧
  (∀ (n : Fin 64) (f : Func) (s : State), let fn := fnKey n.val f
      let mine := if ownsRings f then ringsOf s (initOfFn s fn) else []
      let done := Output.config fn 0 0
      HostTakes s n.val f → s.host.pba = [] →
      (∃ t, exec (.bmeClear n f) s = .next t ∧ bmeOf t fn = false ∧
        t = { s with host := { s.host with cfg := t.host.cfg }, plat := { s.plat with ring := t.plat.ring }, out := s.out ++ [done] } ∧
        (mine = [] → t.plat = s.plat) ∧
        (∀ r, mine = [r] → (ringOf t r).state = (if (ringOf s r).state = 1 ∨ (ringOf s r).state = 2 then 3 else (ringOf s r).state))) ∧
      (∃ t, exec (.bmeSet n f) s = .next t ∧ bmeOf t fn = true ∧
        t = { s with host := { s.host with cfg := t.host.cfg }, plat := { s.plat with ring := t.plat.ring }, out := s.out ++ [done] } ∧
        (mine = [] → t.plat = s.plat) ∧
        (∀ r, mine = [r] → (ringOf t r).state =
          (if (ringOf s r).state = 3 ∧ inD3 s fn = false then (ringOf s r).prev else (ringOf s r).state)))) ∧
  (∀ (n : Fin 64) (s : State), HostTakes s n.val .pf → s.host.pba = [] → let mine := ringsOf s n.val
      let done := Output.config (n.val * 1024) 0 0
      (∃ t, exec (.powerStateD3hot n) s = .next t ∧ inD3 t (n.val * 1024) = true ∧
        t = { s with host := { s.host with cfg := t.host.cfg }, plat := { s.plat with ring := t.plat.ring }, out := s.out ++ [done] } ∧
        (∀ r, inD3 s (n.val * 1024) = false → mine = [r] → (ringOf t r).state = (if (ringOf s r).state = 1 ∨ (ringOf s r).state = 2 then 3 else (ringOf s r).state))) ∧
      (inD3 s (n.val * 1024) = true → ∃ t, exec (.powerStateD0 n) s = .next t ∧ inD3 t (n.val * 1024) = false ∧
        t = { s with host := { s.host with cfg := t.host.cfg }, plat := { s.plat with ring := t.plat.ring }, out := s.out ++ [done] } ∧
        (∀ r, mine = [r] → (ringOf t r).state =
          (if (ringOf s r).state = 3 ∧ bmeOf s (n.val * 1024) = true then (ringOf s r).prev else (ringOf s r).state))))

/-- FLR, virtual functions, hot reset, readiness, DPC release and configuration requests of a VCS. Configuration writes complete where the
host reaches the function. FLR_INITIATE of an endpoint function: its state reads FLR for at most 10 ms and its rings are squashed;
FLR_COMPLETE: it is ready with its registers, vectors and PBA at reset, VF Enable clear for the management function. VF_ENABLE: the VFs
wait 10 ms, VF_READY: they are ready, VF_DISABLE: there are none. VCS_HOT_RESET by the host, or by 1 in 0xD002.01 under the gate:
requests get Retry Status for at most 100 ms, the management function's registers are at reset, local whole-port targets are hot reset;
VCS_READY ends it. DPC_RELEASE clears the trigger; a device at the port trains again. CONFIG_REQUEST: Unsupported Request for no
function, Retry Status while not ready, else its data; IDs of every function; Link Control reads back as written in the bits that take
a write, read-only registers keep. -/
def Obligations.FunctionsAreResetEnabledAndConfigured : Prop :=
  (∀ (n : Fin 64) (f : Func) (s : State), let fn := fnKey n.val f
      HostTakes s n.val f → ownsRings f = true → flrRuns s fn = false →
      ∃ t, exec (.flrInitiate n f) s = .next t ∧ t.val o4430_01 [pVCS n.val, pF (fn % 1024)] = 2 ∧
        Tbl.look none t.host.flr fn = some (s.clk.now + ms 10) ∧
        t = { s with store := t.store, plat := t.plat, host := { s.host with flr := t.host.flr }, out := s.out ++ [Output.config fn 0 0] } ∧
        (∀ r, ringsOf s (initOfFn s fn) = [r] → (ringOf s r).state ≠ 0 → (ringOf t r).state = 5)) ∧
  (∀ (n : Fin 64) (f : Func) (s : State), let fn := fnKey n.val f
      Tbl.look none s.host.flr fn ≠ none → ownsRings f = true → ringsOf s (initOfFn s fn) = [] → (f = .pf → vfsOf s n.val = 0) →
      ∃ t, exec (.flrComplete n f) s = .next t ∧ t.val o4430_01 [pVCS n.val, pF (fn % 1024)] = 1 ∧
        Tbl.look none t.host.flr fn = none ∧ t.mem = s.mem ∧ t.out = s.out ∧
        ObjsKept s t [(o4430_01, [pVCS n.val, pF (fn % 1024)])] ∧
        (∀ r, cfgOf t fn r = cfgDefault r) ∧
        (∀ v : Fin 2048, pbaOf t fn v.val = false ∧ msixEntry t fn v.val = 2 ^ 96) ∧ (f = .pf → vfsOf t n.val = 0)) ∧
  (∀ (n : Fin 64) (s : State), HostTakes s n.val .pf → let done := Output.config (n.val * 1024) 0 0
      (bit (cfgOf s (n.val * 1024) .sriovCtl) 0 = false → ∃ t, exec (.vfEnable n) s = .next t ∧
        bit (cfgOf t (n.val * 1024) .sriovCtl) 0 = true ∧ Tbl.look none t.host.vfWait n.val = some (s.clk.now + ms 10) ∧
        t = { s with host := { s.host with cfg := t.host.cfg, vfWait := t.host.vfWait }, out := s.out ++ [done] }) ∧
      (bit (cfgOf s (n.val * 1024) .sriovCtl) 0 = true → ∃ t, exec (.vfDisable n) s = .next t ∧
        bit (cfgOf t (n.val * 1024) .sriovCtl) 0 = false ∧ vfsOf t n.val = 0 ∧ Tbl.look none t.host.vfWait n.val = none ∧ t.out.getLast? = some done)) ∧
  (∀ (n : Fin 64) (at_ : Nat) (s : State), Tbl.look none s.host.vfWait n.val = some at_ →
      ∃ t, exec (.vfReady n) s = .next t ∧ at_ ≤ t.clk.now ∧ Tbl.look none t.host.vfWait n.val = none ∧
        (∀ k, k < vfsOf s n.val → t.val o4430_01 [pVCS n.val, pF (k + 1)] = 1)) ∧
  (∀ (n : Fin 64) (s : State),
      let reset := fun t : State =>
        Tbl.look none t.host.crs n.val = some (s.clk.now + ms 100) ∧ t.val o4430_01 [pVCS n.val, pF 0] = 0 ∧
        (∀ r, cfgOf t (n.val * 1024) r = cfgDefault r) ∧ vfsOf t n.val = 0 ∧
        (∀ b, bindsOf s n.val = [b] → recDev b.2 = ownPos s → recKind b.2 ≠ 1 → t.out.contains (.reset 0 (recPort b.2) 0) = true)
      (s.flag o4100_02 [pVCS n.val] = true → ∀ v, ∃ t, exec (.vcsHotReset none n v) s = .next t ∧ reset t) ∧
      (∀ role v, writeGate role oD002_01 [pVCS n.val] s = none → ∃ t, exec (.vcsHotReset (some role) n v) s = .next t ∧
        (1 < v → TurnedAway s t .refused) ∧ (v = 0 ∨ (v = 1 ∧ s.flag o4100_02 [pVCS n.val] = false) → TurnedAway s t .ok) ∧
        (v = 1 → s.flag o4100_02 [pVCS n.val] = true → reset t ∧ t.out.getLast? = some (.answer .ok none))) ∧
      (Tbl.look none s.host.crs n.val ≠ none → ∃ t, exec (.vcsReady n) s = .next t ∧ Tbl.look none t.host.crs n.val = none ∧
        t.val o4430_01 [pVCS n.val, pF 0] = 1 ∧ ObjsKept s t [(o4430_01, [pVCS n.val, pF 0])] ∧ t.out = s.out)) ∧
  (∀ (n : Fin 64) (v : Fin 128) (s : State), HostTakes s n.val (.vppb v) → dpcOf s n.val v.val = true →
      let r := bindRec s n.val v.val
      ∃ t, exec (.dpcRelease n v) s = .next t ∧ dpcOf t n.val v.val = false ∧ t.out.getLast? = some (.config (vppbFn n.val v.val) 0 0) ∧
        (bindLive r = true → recDev r = ownPos s → recKind r = 0 → present s (recPort r) = true →
          noTraining s (recPort r) = false → foreignSwitch s (recPort r) = false → linkOf t (recPort r) = 2) ∧
        (bindLive r = false ∨ recDev r ≠ ownPos s ∨ recKind r ≠ 0 ∨ present s (recPort r) = false →
          t = { s with host := { s.host with dpcOn := t.host.dpcOn }, out := s.out ++ [Output.config (vppbFn n.val v.val) 0 0] })) ∧
  (∀ (n : Fin 64) (f : Func) (s : State), s.flag o4100_02 [pVCS n.val] = true → s.val o4100_05 [pVCS n.val] = 2 → let fn := fnKey n.val f
      let id := if f = .upBridge then 0x9510 else if f = .pf then 0x9512 else if fn < n.val * 1024 + 512 then 0x9513 else 0x9511
      (hasFunc s n.val f = false → ∀ r w, exec (.configRequest n f r w) s = .next { s with out := s.out ++ [Output.config fn 1 0] }) ∧
      (hasFunc s n.val f = true → retryStatus s n.val f = true →
        ∀ r w, exec (.configRequest n f r w) s = .next { s with out := s.out ++ [Output.config fn 2 0] }) ∧
      (hasFunc s n.val f = true → retryStatus s n.val f = false →
        exec (.configRequest n f .ids none) s = .next { s with out := s.out ++ [Output.config fn 0 (id * 65536 + 0x1F2B)] } ∧
        (∀ r, exec (.configRequest n f r none) s = .next { s with out := s.out ++ [Output.config fn 0 (cfgRead s n.val f r)] }) ∧
        (∀ w, exec (.configRequest n f .ids (some w)) s = .next { s with out := s.out ++ [Output.config fn 0 0] }) ∧
        (∀ w, ∃ t, exec (.configRequest n f .linkCtl (some w)) s = .next t ∧ cfgRead t n.val f .linkCtl = w &&& linkCtlMask f ∧
          t = { s with out := s.out ++ [Output.config fn 0 0], host := { s.host with cfg := t.host.cfg } })))

/-- A lane-group word is committed whole and takes effect; a virtual switch is enabled and disabled. Admitted by the gate.
LANE_GROUP_COMMIT: BUSY while a commit waits; with 1, a word without a fault of R30-R32, at most 64 upstream ports, and every changed
port quiesced, is accepted; else refused (0 does nothing). LANE_GROUP_CHANGE_APPLIED: the word is in effect, and where one slot changed
at a disabled port, that port has its new role and every other port its role and link. VCS_ENABLE: writing the present value does
nothing; an enable without a free upstream port or above 2,048 vPPBs is refused; another sets the enable, the host state by the link,
and readies the management function; 0 disables it. -/
def Obligations.LaneGroupsAndVcsEnables : Prop :=
  (∀ (role : Role) (g : Fin 32) (v : Nat) (s : State), writeGate role o2011_00 [pG g.val] s = none →
      let w := s.val o2010_01 [pG g.val]
      let ok := groupFaulty w = false ∧ upstreams w + (((List.range 32).filter (· != g.val)).map fun h => upstreams (groupWord s h)).sum ≤ 64 ∧
        ((slotsChanged g.val (s.val o2010_02 [pG g.val]) w).all fun p => quiesced s p) = true
      ∃ t, exec (.laneGroupCommit role g v) s = .next t ∧
        (Tbl.look none s.lane.commits g.val ≠ none → TurnedAway s t .busy) ∧
        (Tbl.look none s.lane.commits g.val = none → v = 1 → ok → Tbl.look none t.lane.commits g.val = some w ∧
          t = { s with lane := { s.lane with commits := t.lane.commits }, out := s.out ++ [Output.answer .ok none] }) ∧
        (Tbl.look none s.lane.commits g.val = none → v = 1 → ¬ ok → TurnedAway s t .refused) ∧
        (Tbl.look none s.lane.commits g.val = none → 1 < v → TurnedAway s t .refused) ∧
        (Tbl.look none s.lane.commits g.val = none → v = 0 → TurnedAway s t .ok)) ∧
  (∀ (g : Fin 32) (w : Nat) (s : State), Tbl.look none s.lane.commits g.val = some w →
      let ps := slotsChanged g.val (s.val o2010_02 [pG g.val]) w
      ∃ t, exec (.laneGroupChangeApplied g) s = .next t ∧
        (∀ p, ps = [p] → roleOf s p = 0 → slotRole (slotByte w p) ≠ 3 →
          t.val o2010_02 [pG g.val] = w ∧ Tbl.look none t.lane.commits g.val = none ∧ roleOf t p = slotRole (slotByte w p) ∧
          (slotRole (slotByte w p) = 1 → linkOf t p = 1) ∧ (slotRole (slotByte w p) = 2 → present s p = false → linkOf t p = 1) ∧
          (∀ q, q ≠ p → q < 128 → roleOf t q = roleOf s q ∧ linkOf t q = linkOf s q)) ∧
        (ps = [] → t.val o2010_02 [pG g.val] = w ∧ Tbl.look none t.lane.commits g.val = none ∧
          ObjsKept s t [(o2010_02, [pG g.val])] ∧ t.out = s.out)) ∧
  (∀ (role : Role) (n : Fin 64) (v : Nat) (s : State), writeGate role o4100_02 [pVCS n.val] s = none →
      let p := s.val o4100_01 [pVCS n.val]
      let on := s.flag o4100_02 [pVCS n.val]
      let fit := p < 128 ∧ roleOf s p = 1 ∧ vcsOfUp s p = none ∧ vppbTotal s + s.val o4100_03 [pVCS n.val] ≤ 2048
      ∃ t, exec (.vcsEnable role n v) s = .next t ∧
        (1 < v → TurnedAway s t .refused) ∧
        ((v = 0 ∧ on = false) ∨ (v = 1 ∧ on = true) → TurnedAway s t .ok) ∧
        (v = 1 → on = false → ¬ fit → TurnedAway s t .refused) ∧
        (v = 1 → on = false → fit → t.flag o4100_02 [pVCS n.val] = true ∧ t.out.getLast? = some (.answer .ok none) ∧
          t.val o4100_05 [pVCS n.val] = (if linkOf s p = 2 then 2 else 1) ∧ t.val o4430_01 [pVCS n.val, pF 0] = 1) ∧
        (v = 0 → on = true → t.flag o4100_02 [pVCS n.val] = false ∧ t.out.getLast? = some (.answer .ok none) ∧
          t.val o4100_05 [pVCS n.val] = 0 ∧ t.val o4430_01 [pVCS n.val, pF 0] = 0))

/-- A bind to a downstream port with no device present goes directly to BOUND, and the host sees an empty slot. At a device that leads no
forme, or a lead without a standby that has no like change waiting. Where the gate admits the write, and none of the grounds of R42
refuses it (the vPPB is UNBOUND and one of the VCS, the target is a whole local downstream port that is in service, held by no pool,
restricted to no other VCS, overlaps no binding), and no device is present: BIND answers OK (a lead: once the binding is durable) and
the vPPB's record is BOUND with that target, with no background operation left running; the host reads Presence Detect State 0 in its
slot. -/
def Obligations.BindToAnEmptyPortGoesToBound : Prop :=
  ∀ (role : Role) (n : Fin 64) (v : Fin 128) (p : Fin 128) (w : Nat) (far : Option Bool) (s : State),
      writeGate role o4110_02 [pVCS n.val, pV v.val] s = none → w = ownPos s * 2 ^ 24 + p.val * 2 ^ 17 →
      recState (bindRec s n.val v.val) = 0 → v.val < s.val o4100_03 [pVCS n.val] → presents s n.val v.val = false →
      ((s.listed o4110_01).any fun e => recState e.2 != 0 && sameTarget e.2 w) = false → targetFaulty s n.val w = false →
      present s p.val = false →
      NoLead s ∨ (s.val o4200_09 [] = 0xFF ∧ (s.forme.waits.any fun x => !x.done && sameChange x.c (.bind (ownPos s) n.val v.val w far)) = false) →
      ∃ t, exec (.bind role n v w far) s = .next t ∧ (NoLead s → t.out.getLast? = some (.answer .ok none)) ∧
        bindRec t n.val v.val = 2 ^ 31 + w ∧ t.forme.bgOp = some (false, bindKey n.val v.val, 1) ∧
        bit (cfgRead t n.val (.vppb v) .slotStatus) 6 = false

/-- An unbind of a pending vPPB is BUSY, but one of mode 2 ends an unbind that waits. Admitted by the gate: an unbind of any mode of a vPPB
in BIND_PENDING is refused with busy and changes nothing. One of mode 0 or 1 of a vPPB in UNBIND_PENDING is refused with busy and
changes nothing. One of mode 2 of a vPPB in UNBIND_PENDING is accepted (a lead with a standby has it recorded first): the host's slot
shows removal (no presence, presence and link changed), the target is released (the vPPB is UNBOUND), and the background operation is
complete with success. A bind of a vPPB in either state is busy: the unbind of mode 2 is the only exception. -/
def Obligations.UnbindDuringAPendingOperation : Prop :=
  ∀ (role : Role) (n : Fin 64) (v : Fin 128) (s : State), writeGate role o4110_04 [pVCS n.val, pV v.val] s = none →
      (recState (bindRec s n.val v.val) = 1 →
        (∃ t, exec (.unbindMode0 role n v) s = .next t ∧ TurnedAway s t .busy) ∧
        (∃ t, exec (.unbindMode1 role n v) s = .next t ∧ TurnedAway s t .busy) ∧
        (∃ t, exec (.unbindMode2 role n v) s = .next t ∧ TurnedAway s t .busy)) ∧
      (recState (bindRec s n.val v.val) = 3 →
        (∃ t, exec (.unbindMode0 role n v) s = .next t ∧ TurnedAway s t .busy) ∧
        (∃ t, exec (.unbindMode1 role n v) s = .next t ∧ TurnedAway s t .busy) ∧
        (LeadTakes s (.unbind (ownPos s) n.val v.val 2) →
          ∃ t, exec (.unbindMode2 role n v) s = .next t ∧ RecordedFirst s t (.unbind (ownPos s) n.val v.val 2) .command) ∧
        (NoLead s → ∃ t, exec (.unbindMode2 role n v) s = .next t ∧ t.out.getLast? = some (.answer .ok none) ∧
          bindRec t n.val v.val = 0 ∧ t.forme.bgOp = some (true, bindKey n.val v.val, 1) ∧
          bit (cfgOf t (vppbFn n.val v.val) .slotStatus) 6 = false ∧ bit (cfgOf t (vppbFn n.val v.val) .slotStatus) 3 = true ∧
          bit (cfgOf t (vppbFn n.val v.val) .slotStatus) 8 = true ∧ bit (cfgOf t (vppbFn n.val v.val) .linkStatus) 13 = false)) ∧
      (recState (bindRec s n.val v.val) = 1 ∨ recState (bindRec s n.val v.val) = 3 →
        ∀ w far, writeGate role o4110_02 [pVCS n.val, pV v.val] s = none →
          ∃ t, exec (.bind role n v w far) s = .next t ∧ TurnedAway s t .busy)

/-- A bind to a present target waits and completes; an unbind waits, presses the button or removes, and ends. At a device that leads no
forme; a lead with a standby has a bind or an unbind recorded first. BIND of an admissible local target with its device present:
BIND_PENDING for 100 ms, the target reset, a background operation runs; on one of the grounds of R42 it is refused, and busy where one
still runs on the target. BIND_TARGET_READY and BIND_PENDING_TIMEOUT at the deadline of a pending bind: BOUND, the host sees presence;
on a ready whole port the link is up. UNBIND_MODE0 and MODE1 of a BOUND vPPB: UNBIND_PENDING for the wait of 0x4110.03, mode 1 with an
attention button press; MODE2: UNBOUND at once. UNBIND_COMPLETE once the slot is off or the link is down: UNBOUND, the operation has
succeeded. UNBIND_WAIT_EXPIRY: BOUND again, the operation has failed. -/
def Obligations.BindsCompleteAndUnbindsRelease : Prop :=
  (∀ (role : Role) (n : Fin 64) (v : Fin 128) (w : Nat) (s : State), writeGate role o4110_02 [pVCS n.val, pV v.val] s = none →
      w < 2 ^ 30 → w % 2 ^ 13 = 0 → recKind w = 1 ∨ (recKind w = 0 ∧ recLd w = 0) → recDev w = ownPos s →
      recState (bindRec s n.val v.val) = 0 → presents s n.val v.val = false →
      (LeadTakes s (.bind (ownPos s) n.val v.val w none) →
        ∃ t, exec (.bind role n v w none) s = .next t ∧ RecordedFirst s t (.bind (ownPos s) n.val v.val w none) .command) ∧
      (NoLead s →
      let bad := s.val o4100_03 [pVCS n.val] ≤ v.val ∨ ((s.listed o4110_01).any fun e => recState e.2 != 0 && sameTarget e.2 w) = true ∨
        targetFaulty s n.val w = true
      ∃ t, exec (.bind role n v w none) s = .next t ∧
        (targetBusy s w = true → TurnedAway s t .busy) ∧
        (targetBusy s w = false → bad ∨ (16 ≤ s.val o4200_01 [] ∧ recDev w ≠ 0) → TurnedAway s t .refused) ∧
        (¬ bad → (s.val o4200_01 [] < 16 ∨ recDev w = 0) → present s (recPort w) = true →
          bindRec t n.val v.val = 2 ^ 30 + w ∧ bindUntil t n.val v.val = s.clk.now + ms 100 ∧
          t.forme.bgOp = some (false, bindKey n.val v.val, 0) ∧
          (leads s = true → otherMembers s = [] →
            t.out = s.out ++ [Output.reset (recKind w) (recPort w) (if recKind w = 1 then recLd w else 0), Output.answer .ok none]) ∧
          t.out.contains (.reset (recKind w) (recPort w) (if recKind w = 1 then recLd w else 0)) = true ∧
          t.out.getLast? = some (.answer .ok none) ∧ (recKind w = 0 → linkOf t (recPort w) = 1)))) ∧
  (∀ (n : Fin 64) (v : Fin 128) (s : State), let r := bindRec s n.val v.val
      (recState r = 1 → (recKind r = 0 → recDev r = ownPos s → linkOf s (recPort r) = 2 ∨ (noTraining s (recPort r) = false ∧
          foreignSwitch s (recPort r) = false)) →
        ∃ t, exec (.bindTargetReady n v) s = .next t ∧ recState (bindRec t n.val v.val) = 2 ∧
        t.forme.bgOp = some (false, bindKey n.val v.val, 1) ∧ bit (cfgOf t (vppbFn n.val v.val) .slotStatus) 6 = true ∧
        bit (cfgOf t (vppbFn n.val v.val) .linkStatus) 13 = true ∧
        (recKind r = 0 → recDev r = ownPos s → linkOf t (recPort r) = 2 ∧ t.val o2020_03 [pP (recPort r)] = 1)) ∧
      (recState r = 1 → ∃ t, exec (.bindPendingTimeout n v) s = .next t ∧ recState (bindRec t n.val v.val) = 2 ∧
        bindUntil s n.val v.val ≤ t.clk.now ∧ t.forme.bgOp = some (false, bindKey n.val v.val, 1) ∧
        bit (cfgOf t (vppbFn n.val v.val) .slotStatus) 6 = true) ∧
      (recState r = 3 → unbindReady s n.val v.val = true → ∃ t, exec (.unbindComplete n v) s = .next t ∧
        bindRec t n.val v.val = 0 ∧ t.forme.bgOp = some (true, bindKey n.val v.val, 1) ∧ t.val o4110_05 [pVCS n.val, pV v.val] = 0xFFF ∧
        bit (cfgOf t (vppbFn n.val v.val) .slotStatus) 6 = false) ∧
      (recState r = 3 → ∃ t, exec (.unbindWaitExpiry n v) s = .next t ∧ bindUntil s n.val v.val ≤ t.clk.now ∧
        recState (bindRec t n.val v.val) = 2 ∧ recPort (bindRec t n.val v.val) = recPort r ∧
        t.forme.bgOp = some (true, bindKey n.val v.val, 2))) ∧
  (∀ (role : Role) (n : Fin 64) (v : Fin 128) (s : State), writeGate role o4110_04 [pVCS n.val, pV v.val] s = none →
      (LeadTakes s (.unbind (ownPos s) n.val v.val 0) →
        ∃ t, exec (.unbindMode0 role n v) s = .next t ∧ RecordedFirst s t (.unbind (ownPos s) n.val v.val 0) .command) ∧
      (LeadTakes s (.unbind (ownPos s) n.val v.val 1) →
        ∃ t, exec (.unbindMode1 role n v) s = .next t ∧ RecordedFirst s t (.unbind (ownPos s) n.val v.val 1) .command) ∧
      (NoLead s →
      let waits := fun t : State => recState (bindRec t n.val v.val) = 3 ∧ t.forme.bgOp = some (true, bindKey n.val v.val, 0) ∧
        bindUntil t n.val v.val = s.clk.now + ms (s.val o4110_03 [pVCS n.val, pV v.val]) ∧ t.out.getLast? = some (.answer .ok none) ∧
        ObjsKept s t [(o4110_01, [pVCS n.val, pV v.val])] ∧ t = { s with store := t.store, forme := t.forme, out := t.out, host := t.host }
      (recState (bindRec s n.val v.val) = 2 →
        (∃ t, exec (.unbindMode0 role n v) s = .next t ∧ waits t ∧ t.host = s.host) ∧
        (∃ t, exec (.unbindMode1 role n v) s = .next t ∧ waits t ∧ bit (cfgOf t (vppbFn n.val v.val) .slotStatus) 0 = true) ∧
        (∃ t, exec (.unbindMode2 role n v) s = .next t ∧ bindRec t n.val v.val = 0 ∧ t.val o4110_05 [pVCS n.val, pV v.val] = 0xFFF ∧
          t.out.getLast? = some (.answer .ok none) ∧ bit (cfgOf t (vppbFn n.val v.val) .slotStatus) 6 = false)) ∧
      (recState (bindRec s n.val v.val) = 0 →
        (∃ t, exec (.unbindMode0 role n v) s = .next t ∧ TurnedAway s t .refused) ∧
        (∃ t, exec (.unbindMode1 role n v) s = .next t ∧ TurnedAway s t .refused) ∧
        (∃ t, exec (.unbindMode2 role n v) s = .next t ∧ TurnedAway s t .refused))))

/-- Insertion, removal, upstream links, lost members, takeover and forwarded requests. At a downstream port, INSERTION_UNBOUND_PORT: the
device is the fabric manager's and the link comes up, but a PBR switch is a fault 0x31 and its link stays down; INSERTION_BOUND_PORT:
the bound slot shows presence, and the link comes up where the slot is powered and enabled already (log 162). SURPRISE_REMOVAL: no
device, no link, an empty slot. UPSTREAM_LINK_DOWN and _RETURN: the VCS of the port is host-absent with its bindings kept, or host-
present and reset. FORME_LOSS_TIMEOUT of a joined member no way reaches: it has left; a lost lead leaves the forme without one; a part
without a majority has no authority. STANDBY_TAKEOVER: the lowest eligible member is the lead, and what it recorded is carried out.
FORME_REQUEST_FORWARD: without a lead FORME_BUSY, to a position that has not joined NOT_FOUND, else the request goes out and its answer
comes back. FORWARD_TIMEOUT: BUSY after 1 ms. -/
def Obligations.PresenceLinksAndTheFormesLead : Prop :=
  (∀ (p : Fin 128) (d : DevInfo) (s : State), roleOf s p.val = 2 → noTraining s p.val = false →
      (portBound s p.val = false → ∃ t, exec (.insertionUnboundPort p d) s = .next t ∧ t.val o2020_03 [pP p.val] = 2 ∧
        Tbl.look {} t.devs p.val = d ∧
        (d.pbrSwitch = true → linkOf s p.val ≠ 2 → FaultSent s t p.val 0x31 ∧ linkOf t p.val = 0 ∧
          ObjsKept s t [(o2020_03, [pP p.val]), (o2020_02, [pP p.val])]) ∧
        (d.pbrSwitch = false → linkOf t p.val = 2)) ∧
      (portBound s p.val = true → ∃ t, exec (.insertionBoundPort p d) s = .next t ∧ t.val o2020_03 [pP p.val] = 1 ∧
        Tbl.look {} t.devs p.val = d ∧
        (slotReady s p.val = false → ObjsKept s t [(o2020_03, [pP p.val])]) ∧
        (d.pbrSwitch = true → slotReady s p.val = true → linkOf s p.val ≠ 2 → FaultSent s t p.val 0x31 ∧ linkOf t p.val = 0) ∧
        (d.pbrSwitch = false → slotReady s p.val = true → linkOf t p.val = 2) ∧
        (∀ b, vppbsOf s p.val = [b] → b.1 < 64 → bit (cfgOf t (vppbFn b.1 b.2) .slotStatus) 6 = true ∧ bit (cfgOf t (vppbFn b.1 b.2) .slotStatus) 3 = true)) ∧
      (present s p.val = true → s.blocks = [] → ∃ t, exec (.surpriseRemoval p) s = .next t ∧ t.val o2020_03 [pP p.val] = 0 ∧
        linkOf t p.val = 0 ∧ Tbl.look {} t.devs p.val = {} ∧
        (∀ b, vppbsOf s p.val = [b] → bit (cfgOf t (vppbFn b.1 b.2) .slotStatus) 6 = false ∧ bit (cfgOf t (vppbFn b.1 b.2) .slotStatus) 3 = true ∧
          bit (cfgOf t (vppbFn b.1 b.2) .slotStatus) 8 = true ∧ bit (cfgOf t (vppbFn b.1 b.2) .linkStatus) 13 = false))) ∧
  (∀ (p : Fin 128) (s : State), roleOf s p.val = 1 → s.blocks = [] →
      (linkOf s p.val ≠ 0 → ∃ t, exec (.upstreamLinkDown p) s = .next t ∧ linkOf t p.val = 0 ∧
        (∀ n, vcsOfUp s p.val = some n → t.val o4100_05 [pVCS n] = 1 ∧ ∀ m v, bindRec t m v = bindRec s m v)) ∧
      (linkOf s p.val ≠ 2 → noTraining s p.val = false → ∃ t, exec (.upstreamLinkReturn p) s = .next t ∧ linkOf t p.val = 2 ∧
        (∀ n, vcsOfUp s p.val = some n → t.val o4100_05 [pVCS n] = 2 ∧ t.val o9030_02 [pVCS n] = 0 ∧ Tbl.look none t.host.crs n ≠ none))) ∧
  (∀ (k : Fin 16) (at_ : Nat) (s : State), joinedAt s k.val = true → k.val ≠ ownPos s → memberDown s k.val = some at_ →
      portToward s k.val = none → s.forme.inbox = [] → s.forme.waits = [] →
      ∃ t, exec (.formeLossTimeout k) s = .next t ∧ at_ + ms (s.val o4200_05 []) ≤ t.clk.now ∧ joinedAt t k.val = false ∧
        (∀ j, j < 16 → j ≠ k.val → joinedAt t j = joinedAt s j) ∧
        (k.val = s.val o4200_07 [] → t.val o4200_07 [] = 0xFF ∧
          t.forme.leadLost = (if s.val o4200_09 [] = 0xFF then none else some t.clk.now)) ∧
        (hasMajority t = false → t.forme.noAuthority = true) ∧
        (k.val ≠ s.val o4200_07 [] → s.forme.leadLost = none → t.forme.noAuthority = false → t.val o4200_07 [] = (eligibleMembers t).getD 0 0xFF) ∧
        (k.val ≠ s.val o4200_07 [] → s.forme.leadLost ≠ none ∨ t.forme.noAuthority = true → t.val o4200_07 [] = s.val o4200_07 [])) ∧
  (∀ (at_ : Nat) (s : State), s.forme.leadLost = some at_ → s.forme.inbox = [] → s.forme.waits = [] →
      ∃ t, exec .standbyTakeover s = .next t ∧ t.forme.leadLost = none ∧ t.val o4200_07 [] = (eligibleMembers s).getD 0 0xFF ∧
        t.val o4200_09 [] = (eligibleMembers s).getD 1 0xFF ∧ t.forme.noAuthority = (s.forme.noAuthority && !hasMajority s) ∧
        (leads t = true → t.forme.record = [])) ∧
  (∀ (role : Role) (k : Option (Fin 16)) (o : Path × Nat) (w : Option Nat) (st : Fin 11) (v : Option Nat) (s : State),
      let d := (k.map (·.val)).getD (s.val o4200_07 [])
      let a := [Status.ok, .notFound, .notInView, .refused, .busy, .typeLen, .formeBusy, .auth, .resource, .notDone, .mixed].getD st.val .mixed
      (k = none → (formeHolds s).isSome = true → exec (.formeRequestForward (role, k) o w st v) s = .next { s with out := s.out ++ [Output.answer .formeBusy none] }) ∧
      (k ≠ none → d = ownPos s ∨ joinedAt s d = false →
        exec (.formeRequestForward (role, k) o w st v) s = .next { s with out := s.out ++ [Output.answer .notFound none] }) ∧
      ((k = none → formeHolds s = none) → d < 16 → d ≠ ownPos s → joinedAt s d = true → (portToward s d).isSome = true →
        exec (.formeRequestForward (role, k) o w st v) s = .next { s with
          out := s.out ++ [Output.forward d role (if w.isSome then .set else .get) (codeItem o.2 o.1 w), Output.answer a v] })) ∧
  (∀ (k : Fin 16) (s : State), joinedAt s k.val = true → k.val ≠ ownPos s → portToward s k.val = none →
      ∃ t, exec (.forwardTimeout k) s = .next t ∧ s.clk.now + ms 1 ≤ t.clk.now ∧ t = { s with clk := t.clk, out := s.out ++ [Output.answer .busy none] })

/-- Network targets return; store failures clear; interrupts are raised and claimed; trays push, pop and flush. NET_TARGET_RETURN,
admitted, with 1 puts a target that is not IN_SERVICE in service; of one that is, or with another value, it is refused (0 does
nothing). STORE_FAULT_CLEAR clears SFINFO and SFADDR. NET_INTERRUPT_MESSAGE sets its vector pending at the engine, or at the engine
that takes the cluster's interrupts, whose control block is in service. INTERRUPT_CLAIM by a RUNNING engine gives its lowest enabled
pending vector and clears it, or all ones; out of service it traps with cause 5. SOFTWARE_INTERRUPT writes MSIP; TIMER_INTERRUPT: mtime
reaches mtimecmp and mip[7] reads 1. At a tray whose target is in service, TRAY_PUSH appends, or sets OVR at 64 entries; TRAY_POP gives
the first entry, or the last one popped and UNDR; TRAY_FLUSH empties. With no watermark interrupt, nothing else changes. -/
def Obligations.EngineInterruptsAndTrays : Prop :=
  (∀ (role : Role) (n : Fin 256) (v : Nat) (s : State), writeGate role o7030_02 [pNT n.val] s = none →
      ∃ t, exec (.netTargetReturn role n v) s = .next t ∧
        (v = 1 → targetState s n.val ≠ 0 → Writes s t o7030_01 [pNT n.val] 0) ∧
        (1 < v ∨ (v = 1 ∧ targetState s n.val = 0) → TurnedAway s t .refused) ∧ (v = 0 → TurnedAway s t .ok)) ∧
  (∀ (c : Fin 192) (s : State), let e := engOf s c.val
      (∃ t, exec (.storeFaultClear c) s = .next t ∧ engOf t c.val = { e with sfinfo := 0, sfaddr := 0 } ∧ bit (mipOf t c.val) 16 = false ∧
        t = { s with net := { s.net with eng := t.net.eng } } ∧ ∀ d : Fin 192, d ≠ c → engOf t d.val = engOf s d.val) ∧
      (targetState s (204 + c.val / 16) = 0 → ∀ v, ∃ t, exec (.softwareInterrupt c v) s = .next t ∧ engOf t c.val = { e with msip := bit v 0 } ∧ bit (mipOf t c.val) 3 = bit v 0 ∧
        t = { s with net := { s.net with eng := t.net.eng } }) ∧
      (s.clk.inc ≠ 0 → ∃ t, exec (.timerInterrupt c) s = .next t ∧ t = { s with clk := t.clk } ∧ (e.mtimecmp + 7) / 8 * 8 ≤ tbNs t ∧
        (tbNs t < 2 ^ 64 → bit (mipOf t c.val) 7 = true)) ∧
      (engState s c.val = 1 →
        ∃ t, exec (.interruptClaim c) s = .next t ∧
          (targetState s (204 + c.val / 16) = 0 →
            (lowestBit (e.pend &&& e.enab) 2048 = none → t = { s with out := s.out ++ [Output.engine c.val (some 0xFFFFFFFF)] }) ∧
            (∀ v, lowestBit (e.pend &&& e.enab) 2048 = some v → bit (engOf t c.val).pend v = false ∧
              t.out = s.out ++ [Output.engine c.val (some v)] ∧ t = { s with out := t.out, net := { s.net with eng := t.net.eng } } ∧
              engOf t c.val = { e with pend := (engOf t c.val).pend })) ∧
          (targetState s (204 + c.val / 16) ≠ 0 → (engOf t c.val).mcause = 5 ∧
            (engOf t c.val).mtval = ctlAddr (c.val / 16) (0x1200 + 0x800 * (c.val % 16)) ∧ ObjsKept s t [(o7030_03, [pNT (204 + c.val / 16)])]))) ∧
  (∀ (e : Option (Fin 192)) (k : Fin 12) (v : Fin 2048) (s : State), let c := (e.map (·.val)).getD (clusterEngine s k.val)
      targetState s (204 + c / 16) = 0 →
      ∃ t, exec (.netInterruptMessage e k v) s = .next t ∧ bit (engOf t c).pend v.val = true ∧
        t = { s with net := { s.net with eng := t.net.eng } } ∧ engOf t c = { engOf s c with pend := (engOf t c).pend } ∧
        (∀ w : Fin 2048, w ≠ v → bit (engOf t c).pend w.val = bit (engOf s c).pend w.val)) ∧
  (∀ (k : Fin 12) (n : Fin 32) (v : Nat) (s : State), targetState s (204 + k.val) = 0 → let y := trayOf s k.val n.val
      (∃ t, exec (.trayPush k n v) s = .next t ∧
        (64 ≤ y.ents.length → trayOf t k.val n.val = { y with ovr := true }) ∧
        (y.ents.length < 64 → (trayOf t k.val n.val).ents = y.ents ++ [v % 2 ^ 64] ∧ (trayOf t k.val n.val).ovr = y.ovr) ∧
        (bit y.ctl 16 = false → t = { s with net := { s.net with tray := t.net.tray } })) ∧
      (∃ t, exec (.trayFlush k n) s = .next t ∧ (trayOf t k.val n.val).ents = [] ∧
        (bit y.ctl 16 = false → t = { s with net := { s.net with tray := t.net.tray } })) ∧
      (∀ c : Fin 192, engState s c.val = 1 →
        ∃ t, exec (.trayPop c k n) s = .next t ∧
          (y.ents = [] → trayOf t k.val n.val = { y with undr := true } ∧ t.out = s.out ++ [Output.engine c.val (some y.last)]) ∧
          (∀ x r, y.ents = x :: r → (trayOf t k.val n.val).ents = r ∧ (trayOf t k.val n.val).last = x ∧
            t.out = s.out ++ [Output.engine c.val (some x)]) ∧
          (bit y.ctl 16 = false → t = { s with out := t.out, net := { s.net with tray := t.net.tray } })))

/-- Engines halt and run under control, domains drain, fence and reopen, and service programs load. Admitted by the gate. PROGRAM_HALT with
1 of a RUNNING engine: its program identity is cleared and it is HALTED once drained. ENGINE_RUN_CONTROL of an engine of K8-K11: 1 runs
a HALTED one, 0 halts one; of another engine, or to run one whose last self-test failed, it is refused. DOMAIN_DRAIN of an OPEN domain:
FENCED with its targets OFFLINE where nothing is on its way, DRAINING where a merge line is; DOMAIN_REOPEN of a FENCED one: OPEN,
targets in service, engines HALTED with undetermined memory; of another state refused. DRAIN_FORCE_TIMEOUT 20 us after: what is left is
discarded, fault 0x42, FENCED. PROGRAM_LOAD: refused with a load status and fault 0x43 on a failed check; else loaded into each named
engine's memory, its identity shown, and RUNNING where the region tables are locked and its last self-test did not fail. -/
def Obligations.EnginesHaltDomainsDrainProgramsLoad : Prop :=
  (∀ (role : Role) (c : Fin 128) (v : Nat) (s : State), writeGate role o7050_08 [pC c.val] s = none →
      ∃ t, exec (.programHalt role c v) s = .next t ∧
        (1 < v → TurnedAway s t .refused) ∧ (v = 0 ∨ (v = 1 ∧ engState s c.val ≠ 1) → TurnedAway s t .ok) ∧
        (v = 1 → engState s c.val = 1 → t.val o7050_07 [pC c.val] = 0 ∧ (engOf t c.val).resv = none ∧ t.out = s.out ++ [Output.answer .ok none] ∧
          (engineDrained s c.val = true → engState t c.val = 0) ∧
          (storesSeen s c.val = false → engState t c.val = 1 ∧ (engOf t c.val).halting = true) ∧
          ObjsKept s t [(o7050_07, [pC c.val]), (o7000_01, [pC c.val])])) ∧
  (∀ (role : Role) (c : Fin 192) (v : Nat) (s : State), writeGate role o7000_02 [pC c.val] s = none →
      ∃ t, exec (.engineRunControl role c v) s = .next t ∧
        (1 < v ∨ c.val < 128 ∨ (v = 1 ∧ testStatus s [pC c.val] = 4) → TurnedAway s t .refused) ∧
        (v ≤ 1 → 128 ≤ c.val → (v = 1 → testStatus s [pC c.val] ≠ 4) → t.val o7000_02 [pC c.val] = v ∧ t.out = s.out ++ [Output.answer .ok none] ∧
          (v = 1 → engState s c.val = 0 → engState t c.val = 1) ∧
          (v = 0 → engState s c.val = 1 → engineDrained s c.val = true → engState t c.val = 0 ∧ (engOf t c.val).resv = none))) ∧
  (∀ (role : Role) (d : Fin 20) (s : State), writeGate role o7040_01 (domPath d.val) s = none →
      (∃ t, exec (.domainDrain role d) s = .next t ∧
        (domState s d.val ≠ 0 → TurnedAway s t .refused) ∧
        (domState s d.val = 0 → s.net.drainAt = [] → t.out.getLast? = some (.answer .ok none) ∧
          (domDrained s d.val = true → domState t d.val = 2 ∧ ∀ n ∈ domTargets d.val, targetState t n = 2) ∧
          (Tbl.look [] s.net.merge (domCluster d.val) ≠ [] → domState t d.val = 1 ∧
            Tbl.look none t.net.drainAt d.val = some s.clk.now ∧ t.clk = s.clk))) ∧
      (∃ t, exec (.domainReopen role d) s = .next t ∧
        (domState s d.val ≠ 2 → TurnedAway s t .refused) ∧
        (domState s d.val = 2 → domState t d.val = 0 ∧ t.out = s.out ++ [Output.answer .ok none] ∧
          (∀ n ∈ domTargets d.val, targetState t n = 0) ∧
          (∀ c ∈ domEngines d.val, engState t c = 0 ∧ (engOf t c).undet = true ∧ (engOf t c).sb = [])))) ∧
  (∀ (d : Fin 20) (at_ : Nat) (s : State), Tbl.look none s.net.drainAt d.val = some at_ →
      ∃ t, exec (.drainForceTimeout d) s = .next t ∧ at_ + us 20 ≤ t.clk.now ∧ domState t d.val = 2 ∧
        Tbl.look none t.net.drainAt d.val = none ∧ Tbl.look [] t.net.merge (domCluster d.val) = [] ∧
        (∀ c ∈ domEngines d.val, (engOf t c).sb = [] ∧ (engOf t c).wait = none) ∧
        FaultSent s t (0x2F0 + domCluster d.val) 0x42) ∧
  (∀ (role : Role) (v : Nat) (sigOk : Bool) (s : State), writeGate role o7050_05 [] s = none →
      let h := s.val o7050_04 [] % 2 ^ 512
      ∃ t, exec (.programLoad role v sigOk) s = .next t ∧
        (2 ^ 32 ≤ v ∨ 7 < bits v 31 28 → TurnedAway s t .refused) ∧
        (v < 2 ^ 32 → bits v 31 28 ≤ 7 →
          (∀ st, loadFault v sigOk s = some st → t.val o7050_06 [] = st ∧ ObjsKept s t [(o7050_06, [])] ∧ t.net = s.net ∧ t.mem = s.mem ∧
            t.out = s.out ++ [Output.answer .refused none] ∧ FaultSent s t (0x300 + (cmdEngines v).headD (16 * bits v 31 28)) 0x43) ∧
          (∀ c, loadFault v sigOk s = none → cmdEngines v = [c] → hdrSsize h = 0 → t.val o7050_06 [] = 2 ∧
            t.val o7050_07 [pC c] = hdrPid h * 2 ^ 32 + hdrPver h ∧ t.out = s.out ++ [Output.answer .ok none] ∧
            (testStatus s [pC c] ≠ 4 → engState t c = (if s.flag o7010_02 [] then 1 else 0)) ∧
            memRead t.mem (0x10000000000 + 0x20000 * c) (hdrLsize h) = s.val o7050_04 [] / 2 ^ 512 % 256 ^ hdrLsize h ∧
            MemKept s t (0x10000000000 + 0x20000 * c) (hdrLsize h))))

/-- A fault word is raised, accepted, logged, acknowledged and cleared; its alarm is raised, held and read. FAULT_RAISE sends the word when
its source has none outstanding; else the word waits, or replaces a waiting word of lower severity, and MISSED counts; kind 0xF0 also
zeroes the log entry of its context, 0x71 the counter. FAULT_WORD_ACCEPT outside stop-press of a word that contains nothing and raises
no alarm: acknowledged, counted with its MISSED, STICKY with the highest severity, and written at the log's write pointer with the
time, GAP and MISSED; with 4,096 unread it is dropped and counted. One that qualifies raises the alarm of its source, or is held within
the interval. FAULT_ACK_RECEIVE sends the waiting word with MISSED, or leaves none outstanding. LOG_READ_POINTER_WRITE frees the
entries up to the value, if they are unread. SOURCE_STATUS_CLEAR clears status word and FAULT_N. ALARM_INTERVAL_EXPIRY raises the held
alarm. ALARM_SUMMARY_READ gives the summary; a MANAGER or OWNER clears it, but in a collector frozen by its own error. -/
def Obligations.FaultWordsAreSentCapturedAndRead : Prop :=
  (∀ (m : FaultMsg) (s : State), m.source < 4096 → m.kind < 256 → m.ctx < 2 ^ 42 →
      let f := Tbl.look {} s.fsrc m.source
      let w : FWord := { source := m.source, kind := m.kind, ctx := m.ctx, time := tbNs s }
      ∃ t, exec (.faultRaise m) s = .next t ∧ (m.kind ≠ 0xF0 → m.kind ≠ 0x71 → t = { s with fsrc := t.fsrc, fnet := t.fnet }) ∧
        (m.kind = 0xF0 → t.val o9020_01 [pLG (m.ctx / 2 ^ 30)] % 2 ^ 64 = 0 ∧ ObjsKept s t [(o9020_01, [pLG (m.ctx / 2 ^ 30)])]) ∧
        (m.kind = 0x71 → Tbl.look 0 t.counts (m.ctx / 2 ^ 28) = 2 ^ 48 ∧ t.store = s.store) ∧
        (f.outstanding = false → t.fnet = s.fnet ++ [w] ∧ Tbl.look {} t.fsrc m.source = { f with outstanding := true }) ∧
        (f.outstanding = true → t.fnet = s.fnet ∧
          (f.waiting = none → Tbl.look {} t.fsrc m.source = { f with waiting := some w }) ∧
          (∀ v, f.waiting = some v → Tbl.look {} t.fsrc m.source =
            { f with waiting := some (if kindSev v.kind < kindSev m.kind then w else v), missed := min (f.missed + 1) 0x7FFF }))) ∧
  (∀ (w : FWord) (r : List FWord) (s : State), s.fnet = w :: r → inStopPress s = false →
      w.kind ∉ [0x05, 0x0C, 0x0A, 0x0B, 0x5B, 0x5E, 0x36, 0x37, 0x38, 0x39] →
      kindSev w.kind < s.val o9012_01 [] ∨ s.flag o9000_03 [pFS w.source] = false →
      let old := s.val o9000_01 [pFS w.source]
      ∃ t, exec .faultWordAccept s = .next t ∧ t.fnet = r ∧ t.out = s.out ++ [Output.faultAck w.source] ∧ t.prf.acks = s.prf.acks ++ [w.source] ∧
        t = { s with store := t.store, fnet := r, out := t.out, prf := { s.prf with acks := t.prf.acks, gap := t.prf.gap } } ∧
        t.val o9000_02 [pFS w.source] = min (s.val o9000_02 [pFS w.source] + (1 + w.missed)) o9000_02.hi ∧
        t.val o9000_01 [pFS w.source] = 2 ^ 63 + (if bit old 63 then max (bits old 62 61) (kindSev w.kind) else kindSev w.kind) * 2 ^ 61 ∧
        (4096 ≤ s.val o9020_05 [] → t.val o9020_04 [] = min (s.val o9020_04 [] + 1) o9020_04.hi ∧ t.prf.gap = true ∧
          ObjsKept s t [(o9000_01, [pFS w.source]), (o9000_02, [pFS w.source]), (o9010_02, []), (o9020_04, [])]) ∧
        (s.val o9020_05 [] < 4096 → let p := s.val o9020_03 []
          t.val o9020_01 [pLG p] = w.word * 2 ^ 64 + w.time % 2 ^ 48 * 2 ^ 16 + b2n s.prf.gap * 2 ^ 15 + w.missed % 2 ^ 15 ∧
          t.val o9020_03 [] = (p + 1) % 4096 ∧ t.val o9020_05 [] = s.val o9020_05 [] + 1 ∧ t.prf.gap = false)) ∧
  (∀ (w : FWord) (r : List FWord) (s : State), s.fnet = w :: r → inStopPress s = false →
      w.kind ∉ [0x05, 0x0C, 0x0A, 0x0B, 0x5B, 0x5E, 0x36, 0x37, 0x38, 0x39] →
      s.val o9012_01 [] ≤ kindSev w.kind → s.flag o9000_03 [pFS w.source] = true →
      ∃ t, exec .faultWordAccept s = .next t ∧ t.fnet = r ∧ t.clk = s.clk ∧ t.out.contains (.faultAck w.source) = true ∧
        (Tbl.look none s.prf.alarmAt w.source = none → bit (t.val o9012_03 []) w.source = true ∧ t.val o9012_04 [] = 1 ∧
          t.out.contains (.event o9000_01.code (pathKey [pFS w.source])) = true ∧ Tbl.look none t.prf.alarmAt w.source = some s.clk.now) ∧
        (∀ at_, Tbl.look none s.prf.alarmAt w.source = some at_ → s.clk.now < at_ + us (s.val o9012_02 []) →
          t.val o9012_03 [] = s.val o9012_03 [] ∧ Tbl.look none t.prf.held w.source ≠ none)) ∧
  (∀ (src : Fin 4096) (rest : List Nat) (s : State), s.prf.acks = src.val :: rest → let f := Tbl.look {} s.fsrc src.val
      ∃ t, exec (.faultAckReceive src) s = .next t ∧
        t = { s with fsrc := t.fsrc, fnet := t.fnet, prf := { s.prf with acks := rest } } ∧
        (f.waiting = none → t.fnet = s.fnet ∧ Tbl.look {} t.fsrc src.val = { f with outstanding := false }) ∧
        (∀ w, f.waiting = some w → t.fnet = s.fnet ++ [{ w with missed := f.missed }] ∧
          Tbl.look {} t.fsrc src.val = { outstanding := true })) ∧
  (∀ (role : Role) (v : Nat) (s : State), writeGate role o9020_02 [] s = none →
      let n := if v = s.val o9020_02 [] ∧ s.val o9020_05 [] = 4096 then 4096 else (v + 4096 - s.val o9020_02 []) % 4096
      ∃ t, exec (.logReadPointerWrite role v) s = .next t ∧
        (4095 < v ∨ s.val o9020_05 [] < n → TurnedAway s t .refused) ∧
        (v ≤ 4095 → n ≤ s.val o9020_05 [] → t.val o9020_02 [] = v ∧ t.val o9020_05 [] = s.val o9020_05 [] - n ∧
          t.out = s.out ++ [Output.answer .ok none] ∧ OnlyStore s t ∧ ObjsKept s t [(o9020_02, []), (o9020_05, [])])) ∧
  (∀ (role : Role) (src : Fin 4096) (v : Nat) (s : State), writeGate role o9000_01 [pFS src.val] s = none →
      ∃ t, exec (.sourceStatusClear role src v) s = .next t ∧
        (bit v 63 = false → TurnedAway s t .ok) ∧
        (bit v 63 = true → t.val o9000_01 [pFS src.val] = 0 ∧ t.out = s.out ++ [Output.answer .ok none] ∧ OnlyStore s t ∧
          ObjsKept s t [(o9000_01, [pFS src.val]), (o9010_02, [])] ∧
          (inStopPress s = false → (s.listed o9000_01).map (·.1) = [pathKey [pFS src.val]] → t.val o9010_02 [] = 0))) ∧
  (∀ (src : Fin 4096) (at_ : Nat) (s : State), Tbl.look none s.prf.alarmAt src.val = some at_ → frozen s = false →
      ∃ t, exec (.alarmIntervalExpiry src) s = .next t ∧ at_ + us (s.val o9012_02 []) ≤ t.clk.now ∧
        (Tbl.look none s.prf.held src.val = none → t.store = s.store ∧ t.out = s.out ∧ Tbl.look none t.prf.alarmAt src.val = none) ∧
        (∀ vs, Tbl.look none s.prf.held src.val = some vs → bit (t.val o9012_03 []) src.val = true ∧
          t.val o9012_04 [] = 1 ∧ Tbl.look none t.prf.alarmAt src.val = some t.clk.now ∧
          t.out.contains (.event o9000_01.code (pathKey [pFS src.val])) = true)) ∧
  (∀ (role : Role) (s : State), ∃ t, exec (.alarmSummaryRead role) s = .next t ∧
        t.out = s.out ++ [Output.answer .ok (some (s.val o9012_03 []))] ∧ OnlyStore s t ∧
        ((role = .manager ∨ role = .owner) ∧ frozen s = false → t.val o9012_03 [] = 0 ∧ t.val o9012_04 [] = 0 ∧ ObjsKept s t [(o9012_03, []), (o9012_04, [])]) ∧
        (¬ ((role = .manager ∨ role = .owner) ∧ frozen s = false) → t.store = s.store))

/-- Containment by an accepted word, the retrain of a contained VCS, and stop-press from entry to its record. FAULT_WORD_ACCEPT of a
device-rung word outside stop-press enters stop-press with reason 2. STOP_PRESS_ENTRY enters it with reason 1: state 3 STOP_PRESS,
FAULT_N asserted, every drained engine of K0-K7 HALTED; in stop-press it does nothing. STOP_PRESS_DISCARD 100 us after entry: the sorts
in the device are counted and discarded and every port's link is down. STOP_PRESS_RECORD_WRITE then writes the record with reason,
word, time and count. STOP_PRESS_NOTICE_RECEIVE of a joined member: it has left the forme. VCS_RETRAIN_TIMER at its time: the upstream
link of the VCS is up and its host present. -/
def Obligations.ContainmentAndStopPress : Prop :=
  (∀ (w : FWord) (r : List FWord) (s : State), s.fnet = w :: r → inStopPress s = false → w.kind ∈ [0x0A, 0x0B, 0x5B, 0x5E] →
      s.val o9012_01 [] > kindSev w.kind ∨ s.flag o9000_03 [pFS w.source] = false →
      s.val o9012_01 [] > 2 ∨ s.flag o9000_03 [pFS 0xFFF] = false →
      ∃ t, exec .faultWordAccept s = .next t ∧ inStopPress t = true ∧ t.val oD000_03 [] = 3 ∧ t.prf.spReason = 2 ∧ t.prf.spWord = w.word ∧
        t.prf.spAt = s.clk.now ∧ t.prf.spDone = false ∧ t.out.contains (.faultAck w.source) = true) ∧
  (∀ (s : State), ∃ t, exec .stopPressEntry s = .next t ∧
      (inStopPress s = true → t = s) ∧
      (inStopPress s = false → inStopPress t = true ∧ t.val oD000_03 [] = 3 ∧ t.val o9010_02 [] = 1 ∧ t.prf.spReason = 1 ∧ t.prf.spAt = s.clk.now ∧
        (∀ c : Fin 128, engState s c.val = 1 → engineDrained s c.val = true → engState t c.val = 0) ∧
        (∀ p : Fin 128, roleOf s p.val = 3 → linkOf s p.val = 2 → t.out.contains (.stopNotice p.val) = true))) ∧
  (∀ (s : State), inStopPress s = true → s.prf.spDone = false →
      ∃ t, exec .stopPressDiscard s = .next t ∧ s.prf.spAt + us 100 ≤ t.clk.now ∧ t.prf.spDone = true ∧
        t.val o9040_03 [] = min (sortCount s) 0xFFFFFFFF ∧ t.gal.queues = [] ∧ t.gal.intake = [] ∧ t.stg.expQ = [] ∧ t.stg.bulkQ = [] ∧
        t.lnk.track = [] ∧ t.out = s.out ∧ t.mem = s.mem ∧
        (∀ p : Fin 128, roleOf s p.val ≠ 0 → linkOf t p.val = 0)) ∧
  (∀ (s : State), inStopPress s = true → s.prf.spDone = true → s.pwr.hot = false →
      ∃ t, exec .stopPressRecordWrite s = .next t ∧ OnlyStore s t ∧ t.out = s.out ∧ ObjsKept s t [(o9040_01, [])] ∧
        t.val o9040_01 [] = 2 ^ 255 + s.prf.spReason * 2 ^ 253 + b2n (s.prf.spReason == 1) * 2 ^ 252 + s.prf.spWord * 2 ^ 160 +
          s.prf.spTb % 2 ^ 64 * 2 ^ 96 + s.val o9040_03 [] * 2 ^ 64) ∧
  (∀ (k : Fin 16) (s : State), joinedAt s k.val = true → k.val ≠ ownPos s →
      ∃ t, exec (.stopPressNoticeReceive k) s = .next t ∧ joinedAt t k.val = false ∧ t.clk = s.clk ∧
        (∀ j, j < 16 → j ≠ k.val → joinedAt t j = joinedAt s j)) ∧
  (∀ (n : Fin 64) (at_ : Nat) (s : State), Tbl.look none s.prf.retrain n.val = some at_ →
      ∃ t, exec (.vcsRetrainTimer n) s = .next t ∧ at_ ≤ t.clk.now ∧ Tbl.look none t.prf.retrain n.val = none ∧
        (upOf s n.val = none → t.store = s.store ∧ t.out = s.out) ∧
        (∀ p, upOf s n.val = some p → vcsOfUp s p = some n.val → linkOf s p = 0 → noTraining s p = false → foreignSwitch s p = false →
          linkOf t p = 2 ∧ t.val o4100_05 [pVCS n.val] = 2))

/-- A feed path checks, pre-charges, turns on, limits, trips, blocks, is damaged, overvolted and cleared. FEED_QUALIFIED: an OFF enabled
path within its window is in CHECK. FEED_DAMAGE_TEST_END 1 ms later: DAMAGED with fault 0x52 where the bulk rose without the other path
ON, else ON within 2 V, else PRECHARGE. PRECHARGE_COMPLETE: ON; PRECHARGE_TIMEOUT after 100 ms: FAULT, 0x50. An ON path:
FEED_OVERCURRENT shows at most 20 A and limits above it; FEED_FAULT_TIMER_EXPIRY and FEED_FAST_TRIP: FAULT, 0x51, and power good drops,
with the dies held in reset, unless the other path is ON with an idle timer; FEED_REVERSE: BLOCKED, 0x53. A BLOCKED path:
FEED_REVERSE_CLEAR: ON; FEED_REVERSE_PERSIST: DAMAGED, 0x52. FEED_OVERVOLTAGE: OFF unless DAMAGED, 0x54. FEED_FAULT_CLEAR: a FAULT path
is OFF, by the gated write or without one. -/
def Obligations.FeedPathsFollowTheirStates : Prop :=
  (∀ (f : Fin 2) (mV : Nat) (s : State), mV < 2 ^ 32 → let v := feedOf s f.val
      (∃ t, exec (.feedQualified f mV) s = .next t ∧ vinOf t f.val = mV ∧ t = { s with store := t.store, pwr := t.pwr } ∧
        ObjsKept s t [(oA000_01, [pFEED f.val]), (oA000_02, [pFEED f.val])] ∧
        feedState t f.val = (if s.pwr.vsb = true ∧ feedState s f.val = 0 ∧ s.flag oA000_05 [pFEED f.val] = true ∧ 38000 ≤ mV ∧
          mV ≤ (if v.overV then 60000 else 62000) then 1 else feedState s f.val)) ∧
      (feedState s f.val = 4 → s.val oA002_01 [] + 100 ≤ mV → ∃ t, exec (.feedReverseClear f mV) s = .next t ∧ feedState t f.val = 3 ∧
        vinOf t f.val = mV ∧ (s.pwr.offAt = none → t.pwr.conv.isSome = true)) ∧
      (s.pwr.vsb = true → 62000 < mV → ∃ t, exec (.feedOvervoltage f mV) s = .next t ∧ FaultSent s t (0x600 + f.val) 0x54 ∧
        feedState t f.val = (if feedState s f.val = 6 then 6 else 0) ∧ (feedOf t f.val).overV = true)) ∧
  (∀ (f : Fin 2) (bulk : Nat) (s : State), let v := feedOf s f.val
      (feedState s f.val = 1 → ∀ rose, ∃ t, exec (.feedDamageTestEnd f bulk rose) s = .next t ∧ v.since + ms 1 ≤ t.clk.now ∧
        (if rose = true ∧ feedState s (1 - f.val) ≠ 3 then feedState t f.val = 6 ∧ FaultSent s t (0x600 + f.val) 0x52
          else if vinOf s f.val ≤ bulk + 2000 then feedState t f.val = 3 ∧ (s.pwr.offAt = none → t.pwr.conv.isSome = true)
          else feedState t f.val = 2 ∧ t.pwr.conv = s.pwr.conv)) ∧
      (feedState s f.val = 2 → vinOf s f.val ≤ bulk + 2000 → ∃ t, exec (.prechargeComplete f bulk) s = .next t ∧ feedState t f.val = 3 ∧
        t.clk = s.clk ∧ (s.pwr.offAt = none → t.pwr.conv.isSome = true)) ∧
      (feedState s f.val = 2 → ∃ t, exec (.prechargeTimeout f) s = .next t ∧ v.since + ms 100 ≤ t.clk.now ∧ feedState t f.val = 5 ∧
        FaultSent s t (0x600 + f.val) 0x50 ∧ ObjsKept s t [(oA000_01, [pFEED f.val])])) ∧
  (∀ (f : Fin 2) (mA : Nat) (s : State), feedState s f.val = 3 → let v := feedOf s f.val
      let o := feedOf s (1 - f.val)
      (∃ t, exec (.feedOvercurrent f mA) s = .next t ∧ feedState t f.val = 3 ∧ t.val oA000_03 [pFEED f.val] = min mA 20000 ∧
        (feedOf t f.val).limiting = decide (20000 < mA) ∧ t = { s with store := t.store, pwr := t.pwr } ∧
        ObjsKept s t [(oA000_03, [pFEED f.val]), (oA000_06, [pFEED f.val])]) ∧
      (v.limiting = true → ∃ t, exec (.feedFaultTimerExpiry f) s = .next t ∧ v.accAt + (ms 2 - v.acc) ≤ t.clk.now ∧ feedState t f.val = 5 ∧
        (feedState s (1 - f.val) ≠ 3 → powerGood t = false ∧ (powerGood s = false → FaultSent s t (0x600 + f.val) 0x51) ∧
          (powerGood s = true → t.gal = {} ∧ t.stg = {} ∧ t.home.lines = [])) ∧
        (feedState s (1 - f.val) = 3 → o.limiting = false → o.acc = 0 →
          FaultSent s t (0x600 + f.val) 0x51 ∧ t.val oA002_03 [] = s.val oA002_03 [])) ∧
      (40000 ≤ mA → ∃ t, exec (.feedFastTrip f mA) s = .next t ∧ t.clk.now = s.clk.now ∧ feedState t f.val = 5 ∧
        (feedState s (1 - f.val) ≠ 3 → powerGood t = false ∧ (powerGood s = false → FaultSent s t (0x600 + f.val) 0x51) ∧
          (powerGood s = true → t.gal = {} ∧ t.stg = {} ∧ t.home.lines = [])) ∧
        (feedState s (1 - f.val) = 3 → o.limiting = false → o.acc = 0 →
          FaultSent s t (0x600 + f.val) 0x51 ∧ t.val oA002_03 [] = s.val oA002_03 [])) ∧
      (∃ t, exec (.feedReverse f) s = .next t ∧ feedState t f.val = 4 ∧ FaultSent s t (0x600 + f.val) 0x53 ∧
        ObjsKept s t [(oA000_01, [pFEED f.val])])) ∧
  (∀ (f : Fin 2) (s : State), feedState s f.val = 4 → ∃ t, exec (.feedReversePersist f) s = .next t ∧
      (feedOf s f.val).since + us 10 ≤ t.clk.now ∧ feedState t f.val = 6 ∧ FaultSent s t (0x600 + f.val) 0x52 ∧
      ObjsKept s t [(oA000_01, [pFEED f.val])]) ∧
  (∀ (role : Role) (f : Fin 2) (s : State),
      (∀ v, writeGate role oA000_04 [pFEED f.val] s = none → ∃ t, exec (.feedFaultClear role f (some v)) s = .next t ∧
        (1 < v → TurnedAway s t .refused) ∧ (v = 0 ∨ (v = 1 ∧ feedState s f.val ≠ 5) → TurnedAway s t .ok) ∧
        (v = 1 → feedState s f.val = 5 → feedState t f.val = 0 ∧ t.out = s.out ++ [Output.answer .ok none] ∧ ObjsKept s t [(oA000_01, [pFEED f.val])])) ∧
      (∃ t, exec (.feedFaultClear role f none) s = .next t ∧ feedState t f.val = (if feedState s f.val = 5 then 0 else feedState s f.val) ∧
        t.out = s.out ∧ ObjsKept s t [(oA000_01, [pFEED f.val])]))

/-- Standby, power good, the input warning, undervoltage, droop and the management clock. VSB_LOSS with VSB present: both paths are OFF,
power is not good, the converters are off, no value waits to be durable, the boot-failure count and the stop-press record are 0, and
proof mode and the test access port are at their reset values. VSB_PRESENT samples the straps. PWRGD_QUALIFY, 1 ms after the converters
were enabled, with a path ON that does not limit: power is good, the reset cause is recorded, memory reads 0, and the root PLL has
locked. VIN_WARN_ASSERT for a fast fall or below 42 V: VIN_WARN_N, divider 3, fault 0x55, the power-loss message on a port that sends
it; VIN_WARN_DEASSERT at 44 V or more ends it. CONVERTER_UNDERVOLTAGE_LOCKOUT below 22 V: converters off. DROOP_DETECT counts, logs
once per 1 ms and sets divider 3; DROOP_CLEAR ends it. MGMT_CLK_LOSS: both MGMT links are down. The time and reset values it rests on
are the model's choice (logs 1 and 3). -/
def Obligations.SuppliesWarnDropAndReturn : Prop :=
  (∀ (s : State), s.pwr.vsb = true → ∃ t, exec .vsbLoss s = .next t ∧ t.pwr = { vsb := false } ∧ t.store.pq = [] ∧ feedState t 0 = 0 ∧
      feedState t 1 = 0 ∧ t.val oA002_03 [] = 0 ∧ t.val oD030_01 [] = 0 ∧ t.val o9040_01 [] = 0 ∧ t.val oB000_04 [] = 2 ∧ t.mem = [] ∧
      t.tap = {} ∧ t.boot.proof = 0 ∧ t.val oE000_01 [] = 1) ∧
  (∀ (straps : Fin 4) (s : State), s.pwr.vsb = false →
      exec (.vsbPresent straps) s = .next { s with pwr := { vsb := true, straps := straps.val } }) ∧
  (∀ (f : Fin 2) (at_ : Nat) (s : State), s.pwr.conv = some at_ → powerGood s = false → feedState s f.val = 3 → feedState s (1 - f.val) ≠ 3 →
      (feedOf s f.val).limiting = false →
      ∃ t, exec .pwrgdQualify s = .next t ∧ powerGood t = true ∧ at_ + ms 1 ≤ t.clk.now ∧ idleAt (feedOf s f.val) + ms 1 ≤ t.clk.now ∧
        t.val oD000_05 [] = s.pwr.cause ∧ t.mem = [] ∧ t.pwr.cause = 0 ∧ (s.boot.resetN = true → t.boot.startAt = none ∧
          (s.pwr.refLost = 0 → t.val oB000_02 [] = 0 ∧ t.pwr.ref = t.val oB000_01 [] % 2))) ∧
  (∀ (rate : Bool) (mV : Nat) (s : State), s.flag oA004_01 [] = false → mV < 2 ^ 32 → rate = true ∨ mV < 42000 →
      ∃ t, exec (.vinWarnAssert rate mV) s = .next t ∧ t.flag oA004_01 [] = true ∧ t.val oB000_04 [] = 3 ∧
        FaultSent s t (0x600 + activeFeed s) 0x55 ∧ t.clk = s.clk ∧
        (let ps := (List.range 128).filter fun p => (roleOf s p == 2 || roleOf s p == 3) && s.flag oA004_02 [pP p]
         (ps = [] → ObjsKept s t [(oA000_02, [pFEED (activeFeed s)]), (oA004_01, []), (oB000_04, [])] ∧ t.stg = s.stg) ∧
         (∀ p, ps = [p] → SentBulk s t (quireOf p) p 5 powerLoss))) ∧
  (∀ (mV : Nat) (s : State), s.flag oA004_01 [] = true → 44000 ≤ mV → ∃ t, exec (.vinWarnDeassert mV) s = .next t ∧
        t.flag oA004_01 [] = false ∧ (s.pwr.droop = false → s.flag oB014_01 [pSPINE] = false → t.val oB000_04 [] = 2) ∧
        (s.pwr.droop = true → t.val oB000_04 [] = 3)) ∧
  (∀ (mV : Nat) (s : State), mV < 22000 → s.pwr.conv.isSome = true → ∃ t, exec (.converterUndervoltageLockout mV) s = .next t ∧
        t.pwr.conv = none ∧ powerGood t = false ∧ t.val oA002_01 [] = mV ∧ t.mem = [] ∧ feedState t 0 = feedState s 0) ∧
  (∀ (die : Fin 10) (mV : Nat) (s : State), ∃ t, exec (.droopDetect die mV) s = .next t ∧ t.val oB002_01 [] = min (s.val oB002_01 [] + 1) oB002_01.hi ∧
        t.val oB000_04 [] = 3 ∧ t.pwr.droop = true ∧ ObjsKept s t [(oB002_01, []), (oB000_04, [])] ∧
        (s.pwr.droopAt = none → FaultSent s t (0x648 + die.val) 0x59 ∧ t.pwr.droopAt = some s.clk.now) ∧
        (∀ at_, s.pwr.droopAt = some at_ → s.clk.now < at_ + ms 1 → t.fnet = s.fnet ∧ t.fsrc = s.fsrc)) ∧
  (∀ (s : State), ∃ t, exec .droopClear s = .next t ∧ t.pwr = { s.pwr with droop := false } ∧ ObjsKept s t [(oB000_04, [])] ∧
        t.val oB000_04 [] = (if s.flag oA004_01 [] = true ∨ s.flag oB014_01 [pSPINE] = true then 3 else 2)) ∧
  (∀ (s : State), ∃ t, exec .mgmtClkLoss s = .next t ∧ t.val o1100_02 [pMGMT 0] = 0 ∧ t.val o1100_02 [pMGMT 1] = 0 ∧ t.pwr.mgmtLost = true ∧
        ObjsKept s t [(o1100_02, [pMGMT 0]), (o1100_02, [pMGMT 1])])

/-- References are lost and relocked, the timebase follows PTP and TSYNC, and the dies are watched. REFCLK_LOSS of the reference in use:
failover in modes 0 and 1 to a good one, else holdover; of the one it fails over to: holdover; REFCLK_RELOCK: the PLL is locked to it;
REFCLK_HOLDOVER_EXPIRY after 10 ms: fault 0x5E. PTP_SYNC_RECEIVE by a slave records the offset, locks after 10 s within 1 us, keeps the
increment within 500 ppm, and steps the timebase at the first lock; PTP_SYNC_LOSS: lost, fault 0x5F. TSYNC_IN_EDGE stamps, and in mode
2 without PTP steps to the nearest second. TSYNC_OUT_PULSE sends a pulse at a multiple of the period. THERMAL_SENSOR_READ records the
sensors; with every one below 97 C nothing is throttled; one at 115 C begins a thermal shutdown. REGION_MONITOR records the rails and
flags a quire beyond 30 C or 60 mV from the spine. -/
def Obligations.ClocksTimebaseAndThermal : Prop :=
  (∀ (r : Fin 2) (s : State), bit s.pwr.refLost r.val = false → s.pwr.refLost < 4 → (∀ j : Fin 64, roleOf s (64 * r.val + j.val) = 0) →
      ∃ t, exec (.refclkLoss r) s = .next t ∧ bit t.pwr.refLost r.val = true ∧
        (s.pwr.ref ≠ r.val → t.fnet = s.fnet ∧ (s.val oB000_02 [] ≠ 2 → t.store = s.store) ∧
          (s.val oB000_02 [] = 2 → t.val oB000_02 [] = 1 ∧ ObjsKept s t [(oB000_02, [])])) ∧
        (s.pwr.ref = r.val → t.pwr.holdAt = s.clk.now ∧ ObjsKept s t [(oB000_02, [])] ∧
          (if s.val oB000_01 [] < 2 ∧ bit s.pwr.refLost (1 - r.val) = false then t.val oB000_02 [] = 2 ∧ FaultSent s t 0x640 0x5D
            else t.val oB000_02 [] = 1 ∧ t.fnet = s.fnet))) ∧
  (∀ (r : Fin 2) (s : State), s.val oB000_02 [] ≠ 0 → s.val oB000_01 [] < 2 ∨ s.val oB000_01 [] = 2 + r.val →
      ∃ t, exec (.refclkRelock r) s = .next t ∧ t.val oB000_02 [] = 0 ∧ t.pwr.ref = r.val ∧ bit t.pwr.refLost r.val = false ∧
        ObjsKept s t [(oB000_02, [])]) ∧
  (∀ (s : State), s.val oB000_02 [] = 1 → ∃ t, exec .refclkHoldoverExpiry s = .next t ∧ s.pwr.holdAt + ms 10 ≤ t.clk.now ∧
        FaultSent s t 0x640 0x5E ∧ t.store = s.store) ∧
  (∀ (off : Int) (s : State), s.val oB020_03 [] = 1 → s.pwr.mgmtLost = false → let small := -1000 ≤ off ∧ off ≤ 1000
      ∃ t, exec (.ptpSyncReceive off) s = .next t ∧ t.val oB020_06 [] = i32Of off ∧ t.pwr.syncAt = some s.clk.now ∧
        ObjsKept s t [(oB020_06, []), (oB020_07, [])] ∧
        8 * 4294967296 - 8 * 4294967296 / 2000 ≤ t.clk.inc ∧ t.clk.inc ≤ 8 * 4294967296 + 8 * 4294967296 / 2000 ∧
        (¬ small → t.val oB020_07 [] = 0 ∧ t.pwr.lockAt = none ∧ t.clk.tb = s.clk.tb) ∧
        (small → s.pwr.lockAt = none → t.pwr.lockAt = some s.clk.now ∧ t.val oB020_07 [] = 0) ∧
        (∀ at_, small → s.pwr.lockAt = some at_ → at_ + sec 10 ≤ s.clk.now → t.val oB020_07 [] = 1 ∧ t.pwr.stepped = true ∧
          (s.pwr.stepped = true → t.clk.tb = s.clk.tb) ∧
          (s.pwr.stepped = false → t.clk.tb = ((s.clk.tb : Int) - off * 4294967296).toNat))) ∧
  (∀ (s : State), s.val oB020_03 [] = 1 → s.val oB020_07 [] ≠ 2 → ∃ t, exec .ptpSyncLoss s = .next t ∧ t.val oB020_07 [] = 2 ∧
        FaultSent s t 0x670 0x5F ∧ t.pwr.lockAt = none ∧ ObjsKept s t [(oB020_07, [])]) ∧
  (∀ (s : State), s.val oB022_02 [] ≠ 0 → ∃ t, exec .tsyncInEdge s = .next t ∧ t.val oB022_01 [] = tbNs s % 2 ^ 64 ∧
        ObjsKept s t [(oB022_01, [])] ∧ t.out = s.out ∧
        (s.val oB022_02 [] ≠ 2 ∨ s.val oB020_03 [] ≠ 0 → t.clk = s.clk) ∧
        (s.val oB022_02 [] = 2 → s.val oB020_03 [] = 0 → t.clk.tb % 4294967296 = s.clk.tb % 4294967296 ∧
          tbNs t = (tbNs s + 500000000) / 1000000000 * 1000000000)) ∧
  (∀ (s : State), s.val oB022_03 [] ≠ 0 → outputsDriven s = true → ∃ t, exec .tsyncOutPulse s = .next t ∧ t.store = s.store ∧
        t.out = s.out ++ [Output.pulse 1 (Tbl.look 0 t.clk.inst 34) (s.val oB022_04 [])] ∧
        Tbl.look 0 t.clk.inst 34 % (1000 * s.val oB022_03 []) = 0) ∧
  (∀ (c : Int) (s : State), 0 ≤ c → c < 2 ^ 31 → ∃ t, exec (.thermalSensorRead (List.replicate 73 c)) s = .next t ∧
        (∀ d : Fin 10, hottest t d.val = c) ∧
        (c < 97000 → t.pwr.hot = s.pwr.hot ∧ (∀ d : Fin 9, t.val oB014_01 (diePath d.val) = 0)) ∧
        (100000 ≤ c → ∀ d : Fin 9, t.val oB014_01 (diePath d.val) ≠ 0) ∧
        (115000 ≤ c → t.pwr.hot = true ∧ t.pwr.therm = true) ∧
        (ofI32 (s.val oB014_02 []) ≤ c → t.pwr.therm = true)) ∧
  (∀ (rails : List Nat) (q : Fin 8) (s : State), rails.length = 9 → (∀ v ∈ rails, v < 65536) →
      ∃ t, exec (.regionMonitor rails) s = .next t ∧ t.val oB016_02 [pQ q.val] = rails.getD q.val 0 ∧ t.val oB016_02 [pSPINE] = rails.getD 8 0 ∧
        (30000 < (regionGap t q.val).1 ∨ 60 < (regionGap t q.val).2 → t.flag oB016_01 [pQ q.val] = true) ∧
        ((regionGap t q.val).1 ≤ 30000 → (regionGap t q.val).2 ≤ 60 → s.flag oB016_01 [pQ q.val] = false → t.flag oB016_01 [pQ q.val] = false))

/-- RESET_N, the end of a boot, failed boots, the watchdog, reset commands, lifecycle and the heartbeat. RESET_ASSERT resets a powered
device (cause 1): memory and queues empty, persistent values kept. RESET_RELEASE with power good boots the preferred valid slot, or
with empty flash enters proof mode 2. CONFIGURATION_READY of a boot: SERVICE, count 0. BOOT_DEADLINE after 1 s and WATCHDOG_EXPIRY fail
a boot; FAILED_BOOT_RESET, and a watchdog in SERVICE, reset with their cause. WATCHDOG_REFRESH is Rirath's alone. WARM_ and
COLD_RESET_COMMAND with 1 reset (causes 2, 3). BOOT_COUNT_CLEAR, PROOF_MODE_REQUEST, RETIRE, SVN_FUSE and DEBUG_TOKEN take their values
or are refused. HEARTBEAT_OUT, HB_IN_EDGE and HB_IN_LOSS act on HB_OUT and 0xD070.02. Reset values the spec does not give are the
model's choice (log 3). -/
def Obligations.ResetsBootAndLifecycle : Prop :=
  (∀ (s : State), s.boot.resetN = false → ∃ t, exec .resetAssert s = .next t ∧ t.boot.resetN = true ∧ s.clk.now + us 1 ≤ t.clk.now ∧
      (powerGood s = false → t = { s with clk := t.clk, boot := t.boot }) ∧
      (powerGood s = true → t.val oD000_05 [] = 1 ∧ t.mem = [] ∧ t.stg = {} ∧ t.gal = {} ∧ t.net = {} ∧ t.plat = {} ∧
        ∀ o ∈ dictionary, o.pers = .p → o.code ≠ 0xD05001 → ∀ p, t.val o p = s.val o p)) ∧
  (∀ (s : State), s.boot.resetN = true → s.pwr.offAt = none → s.boot.proofNext = false → s.boot.proof = 0 →
      ∃ t, exec .resetRelease s = .next t ∧ t.boot.resetN = false ∧
        (powerGood s = true → s.val oD050_01 [] ≠ 3 → s.boot.flash = [] → s.val oD030_01 [] < 3 → t.val oD000_03 [] = 2 ∧ t.val oD040_01 [] = 2 ∧
          t.val oD030_01 [] = s.val oD030_01 [] + 1) ∧
        (powerGood s = true → s.val oD050_01 [] ≠ 3 → s.val oD030_01 [] = 0 → slotOk s (s.val oD010_01 [] % 2) = true →
          t.val oD000_03 [] = 0 ∧ t.boot.startAt = some s.clk.now ∧ t.val oD010_06 [] = s.val oD010_01 [] % 2 ∧
          t.boot.running = (flashOf s (s.val oD010_01 [] % 2)).runtime)) ∧
  (∀ (keys : List (Fin 8192 × Nat)) (routes : List (Fin 4095 × Nat)) (at_ : Nat) (s : State), s.boot.startAt = some at_ → booting s = true →
      (s.boot.running.isSome = true → ∃ t, exec (.configurationReady keys routes) s = .next t ∧ t.val oD000_03 [] = 1 ∧ t.val oD030_01 [] = 0 ∧
        t.boot.startAt = none ∧ t.host.crs = [] ∧ t.val oD010_01 [] % 2 = s.val oD010_06 [] % 2 ∧
        t.val oD000_04 [] = min ((s.clk.now - at_) / 4000) 0xFFFFFFFF ∧
        (∀ k, keys = [k] → t.val o6010_01 [pIN k.1.val] = k.2 &&& o6010_01.mask)) ∧
      (∃ t, exec .bootDeadline s = .next t ∧ at_ + sec 1 ≤ t.clk.now ∧ t.boot.failed = some (t.clk.now, 4) ∧ t.boot.startAt = none ∧
        t.val oD030_01 [] = min (s.val oD030_01 [] + 1) oD030_01.hi ∧ FaultSent s t 0x705 0x61 ∧ ∀ p : Fin 128, roleOf s p.val ≠ 0 → linkOf t p.val = 0) ∧
      (s.boot.running.isSome = true → ∃ t, exec .watchdogExpiry s = .next t ∧ t.boot.failed = some (t.clk.now, 5) ∧
        s.boot.wdAt + ms (s.val oD070_03 []) ≤ t.clk.now)) ∧
  (∀ (at_ c : Nat) (s : State), s.boot.failed = some (at_, c) → ∃ t, exec .failedBootReset s = .next t ∧ at_ + ms 2 ≤ t.clk.now ∧
      t.val oD000_05 [] = c ∧ t.boot.failed = none ∧ t.mem = []) ∧
  (∀ (s : State), s.boot.running.isSome = true → s.val oD000_03 [] = 1 → ∃ t, exec .watchdogExpiry s = .next t ∧ t.val oD000_05 [] = 5 ∧
      s.boot.wdAt + ms (s.val oD070_03 []) ≤ t.clk.now) ∧
  (∀ (role : Role) (v : Nat) (s : State), writeGate role oD070_04 [] s = none → ∃ t, exec (.watchdogRefresh role v) s = .next t ∧
      (∀ e : Fin 192, role = .engine e → 128 ≤ e.val → (1 < v → TurnedAway s t .refused) ∧ (v = 0 → TurnedAway s t .ok) ∧
        (v = 1 → t = { s with boot := { s.boot with wdAt := s.clk.now }, out := s.out ++ [Output.answer .ok none] })) ∧
      ((∀ e : Fin 192, role = .engine e → e.val < 128) → TurnedAway s t .auth)) ∧
  (∀ (role : Role) (v : Nat) (s : State),
      (writeGate role oD000_01 [] s = none → ∃ t, exec (.warmResetCommand role v) s = .next t ∧ (1 < v → TurnedAway s t .refused) ∧
        (v = 0 → TurnedAway s t .ok) ∧ (v = 1 → t.val oD000_05 [] = 2 ∧ s.clk.now + ms 1 ≤ t.clk.now ∧ t.mem = [] ∧
          t.out.getLast? = some (.answer .ok none) ∧ (s.boot.resetN = true → s.val oD000_03 [] = 2 → t.val oD030_01 [] = 0))) ∧
      (writeGate role oD000_02 [] s = none → ∃ t, exec (.coldResetCommand role v) s = .next t ∧ (1 < v → TurnedAway s t .refused) ∧
        (v = 0 → TurnedAway s t .ok) ∧ (v = 1 → t.pwr.cause = 3 ∧ s.clk.now + ms 200 ≤ t.clk.now ∧ powerGood t = false ∧ t.mem = [] ∧
          t.out.getLast? = some (.answer .ok none) ∧
          t.pwr.conv = (if feedState s 0 = 3 ∨ feedState s 1 = 3 then some t.clk.now else none))) ∧
      (writeGate role oD030_02 [] s = none → ∃ t, exec (.bootCountClear role v) s = .next t ∧ (1 < v → TurnedAway s t .refused) ∧
        (v = 0 → TurnedAway s t .ok) ∧ (v = 1 → t.val oD030_01 [] = 0 ∧ ObjsKept s t [(oD030_01, [])] ∧
          t = { s with store := t.store, out := s.out ++ [Output.answer .ok none], boot := { s.boot with proofFree := s.val oD000_03 [] == 2 } })) ∧
      (writeGate role oD040_03 [] s = none → ∃ t, exec (.proofModeRequest role v) s = .next t ∧ (1 < v → TurnedAway s t .refused) ∧
        (v = 0 → TurnedAway s t .ok) ∧ (v = 1 → t = { s with boot := { s.boot with proofNext := true }, out := s.out ++ [Output.answer .ok none] })) ∧
      (writeGate role oD050_04 [] s = none → ∃ t, exec (.retire role v) s = .next t ∧
        (v = 0x52455449 → s.val oD050_01 [] = 1 ∨ s.val oD050_01 [] = 2 → t.val oD050_01 [] = 3 ∧ FaultSent s t 0x706 0x68 ∧
          t.out = s.out ++ [Output.answer .ok none] ∧ ObjsKept s t [(oD050_01, [])]) ∧
        (v ≠ 0x52455449 ∨ (s.val oD050_01 [] ≠ 1 ∧ s.val oD050_01 [] ≠ 2) → TurnedAway s t .refused)) ∧
      (writeGate role oD010_08 [] s = none → ∃ t, exec (.svnFuse role v) s = .next t ∧
        (s.boot.running = none ∨ 1 < v → TurnedAway s t .refused) ∧
        (∀ g, s.boot.running = some g → (v = 0 → TurnedAway s t .ok) ∧
          (v = 1 → t.val oD010_07 [] = imgSvn (g.body % 2 ^ 512) ∧ t.out = s.out ++ [Output.answer .ok none] ∧ ObjsKept s t [(oD010_07, [])])))) ∧
  (∀ (role : Role) (sigOk owner : Bool) (s : State), writeGate role oD050_03 [] s = none →
      ∃ t, exec (.debugToken role sigOk owner) s = .next t ∧ ObjsKept s t [(oD050_02, [])] ∧
        (tokenFault sigOk owner s = none → t.boot.unlock = true ∧ t.out = s.out ++ [Output.answer .ok none] ∧ t.fnet = s.fnet) ∧
        (tokenFault sigOk owner s ≠ none → t.boot = s.boot ∧ FaultSent s t 0x706 0x67 ∧ t.out = s.out ++ [Output.answer .refused none])) ∧
  (∀ (s : State), (s.val oD000_03 [] = 1 → ∃ t, exec .heartbeatOut s = .next t ∧ t.store = s.store ∧
        t.out = s.out ++ [Output.pulse 0 (Tbl.look 0 t.clk.inst 35) 1000]) ∧
      (∃ t, exec .hbInEdge s = .next t ∧ t.val oD070_02 [] = 1 ∧ t.boot = { s.boot with hbAt := some s.clk.now } ∧ ObjsKept s t [(oD070_02, [])]) ∧
      (∀ at_, s.boot.hbAt = some at_ → ∃ t, exec .hbInLoss s = .next t ∧ at_ + us (3 * s.val oD070_01 []) ≤ t.clk.now ∧ t.val oD070_02 [] = 2 ∧
        t.boot.hbAt = none ∧ FaultSent s t 0x708 0x6A ∧ ObjsKept s t [(oD070_02, [])]))

/-- Port, cluster and engine resets by command, image install, and the roll of the spine clusters. Admitted by the gate. PORT_LINK_RETRAIN,
PORT_HOT_RESET and PORT_PERST_PULSE: refused at a disabled port, the last two at any but a downstream one, and busy while a bind or an
unbind of it runs; the hot reset goes out, PERST# is pulsed for 100 ms, and a present device's link is up. CLUSTER_RESET with 1 of a
FENCED cluster: its engines HALTED with undetermined memory, its shared memory 0; of another refused. ENGINE_RESET of a drained engine:
HALTED, memory undetermined. IMAGE_INSTALL: BUSY in a roll; a boot configuration only by the owner; a faulty image is status 3 with
fault 0x60, a flash error 4 with 0x64, a good one is in the idle slot, status 2. IMAGE_ROLL restarts K8; ROLL_CLUSTER_REJOINED the
next, and after K11 the new slot runs; ROLL_REJOIN_TIMEOUT ends it with status 5. -/
def Obligations.PortsClustersImagesAndTheRoll : Prop :=
  (∀ (role : Role) (p : Fin 128) (s : State), writeGate role oD002_02 [pP p.val] s = none → let r := roleOf s p.val
      let busy := targetBusy s (ownPos s * 2 ^ 24 + p.val * 2 ^ 17) = true
      let trains := present s p.val = true ∧ noTraining s p.val = false ∧ foreignSwitch s p.val = false
      (∃ t, exec (.portLinkRetrain role p) s = .next t ∧ (r = 0 → TurnedAway s t .refused) ∧
        (r ≠ 0 → busy → TurnedAway s t .busy) ∧ (r ≠ 0 → ¬ busy → t.out.getLast? = some (.answer .ok none) ∧ t.clk = s.clk) ∧
        (r = 1 ∨ r = 2 → ¬ busy → linkOf s p.val = 2 → t = { s with counts := t.counts, out := s.out ++ [Output.answer .ok none] }) ∧
        (r = 2 → ¬ busy → trains → linkOf t p.val = 2)) ∧
      (∃ t, exec (.portHotReset role p) s = .next t ∧ (r ≠ 2 → TurnedAway s t .refused) ∧ (r = 2 → busy → TurnedAway s t .busy) ∧
        (r = 2 → ¬ busy → t.out.contains (.reset 0 p.val 0) = true ∧ t.out.getLast? = some (.answer .ok none) ∧
          (trains → linkOf t p.val = 2))) ∧
      (∃ t, exec (.portPerstPulse role p) s = .next t ∧ (r ≠ 2 → TurnedAway s t .refused) ∧ (r = 2 → busy → TurnedAway s t .busy) ∧
        (r = 2 → ¬ busy → t.out.contains (.reset 2 p.val 0) = true ∧ t.out.contains (.reset 3 p.val 0) = true ∧ s.clk.now + ms 100 ≤ t.clk.now ∧
          t.out.getLast? = some (.answer .ok none) ∧ (trains → linkOf t p.val = 2)))) ∧
  (∀ (role : Role) (k : Fin 12) (v : Nat) (s : State), writeGate role oD002_03 [pK k.val] s = none →
      let lo := 0x20000000000 + 0x100000 * k.val
      ∃ t, exec (.clusterReset role k v) s = .next t ∧
        (1 < v ∨ (v = 1 ∧ domState s (8 + k.val) ≠ 2) → TurnedAway s t .refused) ∧ (v = 0 → TurnedAway s t .ok) ∧
        (v = 1 → domState s (8 + k.val) = 2 → t.out = s.out ++ [Output.answer .ok none] ∧ MemKept s t lo 0x80000 ∧
          (∀ a, lo ≤ a → a < lo + 0x80000 → memByte t.mem a = 0) ∧
          (∀ e : Fin 16, engState t (16 * k.val + e.val) = 0 ∧ (engOf t (16 * k.val + e.val)).undet = true ∧
            (engOf t (16 * k.val + e.val)).sb = []))) ∧
  (∀ (role : Role) (c : Fin 192) (v : Nat) (s : State), writeGate role oD002_04 [pC c.val] s = none →
      ∃ t, exec (.engineReset role c v) s = .next t ∧ (1 < v → TurnedAway s t .refused) ∧ (v = 0 → TurnedAway s t .ok) ∧
        (v = 1 → t.out = s.out ++ [Output.answer .ok none] ∧ (engOf t c.val).undet = true ∧ (engOf t c.val).resv = none ∧
          (c.val < 128 → t.val o7050_07 [pC c.val] = 0) ∧
          (engineDrained s c.val = true → (engOf s c.val).halting = false → engState t c.val = 0))) ∧
  (∀ (role : Role) (sig : Bool) (vals : List (Nat × Path × Nat)) (err : Option Nat) (s : State), writeGate role oD020_02 [] s = none →
      let g : Image := { body := s.val oD020_01 [], sig := sig, vals := vals }
      let kind := imgKind (g.body % 2 ^ 512)
      let bad := imageFault s (if kind = 1 ∨ kind = 2 ∨ kind = 3 then kind else 0) g
      ∃ t, exec (.imageInstall role sig vals err) s = .next t ∧
        (s.val oD020_03 [] = 1 → TurnedAway s t .busy) ∧
        (s.val oD020_03 [] ≠ 1 → kind = 3 → role ≠ .owner → TurnedAway s t .auth) ∧
        (s.val oD020_03 [] ≠ 1 → kind ≠ 3 ∨ role = .owner → t.out = s.out ++ [Output.answer .ok none] ∧
          (bad.isSome = true → t.val oD020_03 [] = 3 ∧ t.boot = s.boot ∧ FaultSent s t 0x702 0x60) ∧
          (bad = none → err.isSome = true → t.val oD020_03 [] = 4 ∧ t.boot = s.boot ∧ FaultSent s t (0x703 + idleSlot s) 0x64) ∧
          (bad = none → err = none → t.val oD020_03 [] = 2 ∧
            (kind = 1 → (flashOf t (idleSlot s)).loader = some g) ∧ (kind = 2 → (flashOf t (idleSlot s)).runtime = some g) ∧
            (kind = 3 → (flashOf t 0).config = some g ∧ (flashOf t 1).config = some g)))) ∧
  (∀ (role : Role) (s : State), writeGate role oD020_02 [] s = none → ∃ t, exec (.imageRoll role) s = .next t ∧
      let ok := s.val oD010_06 [] ≠ 2 ∧ slotOk s (idleSlot s) = true ∧ mayOffline s (.cluster 8) = true
      (s.val oD020_03 [] = 1 → TurnedAway s t .busy) ∧ (s.val oD020_03 [] ≠ 1 → ¬ ok → TurnedAway s t .refused) ∧
      (s.val oD020_03 [] ≠ 1 → ok → t.boot.roll = some (8, t.clk.now, idleSlot s) ∧ t.val oD060_02 [pK 8] = 3 ∧ t.val oD020_03 [] = 1 ∧
        t.out.getLast? = some (.answer .ok none))) ∧
  (∀ (k at_ slot : Nat) (s : State), s.boot.roll = some (k, at_, slot) → 8 ≤ k → k ≤ 11 →
      (∃ t, exec .rollClusterRejoined s = .next t ∧ t.val oD060_02 [pK k] = 0 ∧
        (k < 11 → t.boot.roll = some (k + 1, t.clk.now, slot) ∧ t.val oD060_02 [pK (k + 1)] = 3) ∧
        (k = 11 → t.boot.roll = none ∧ t.val oD010_01 [] = slot ∧ t.val oD010_06 [] = slot ∧ t.val oD020_03 [] = 2 ∧
          t.boot.running = (flashOf s slot).runtime)) ∧
      (∃ t, exec .rollRejoinTimeout s = .next t ∧ at_ + sec 1 ≤ t.clk.now ∧ t.boot.roll = none ∧ t.val oD020_03 [] = 5 ∧
        t.val oD060_02 [pK k] = 0 ∧ FaultSent s t 0x702 0x6B ∧ engState t (16 * k) = 1))

/-- Lane groups, clusters and quires go offline and return; the quire's drain ends, is abandoned or powers down. Admitted by the gate.
UNIT_OFFLINE of a unit in service that Table BOT-8 allows: a lane group is OFFLINE with its links down; a cluster whose drain finds
nothing is OFFLINE; a quire is DRAINING; else refused. UNIT_RETURN: refused after a failed self-test or of a unit that is not OFFLINE
(a quire: nor CONTAINED); a lane group and a cluster are in service, a quire RETURNING with its self-test running. QUIRE_DRAIN_COMPLETE
of a draining quire that owes nothing, with no domain draining: its domain and its cluster's are FENCED. QUIRE_DRAIN_LIMIT: the command
is abandoned, the quire in service, fault 0x69. QUIRE_POWER_DOWN 1 ms after fencing: OFFLINE, its engines OFF, its targets OFFLINE. -/
def Obligations.UnitsGoOfflineAndReturn : Prop :=
  (∀ (role : Role) (u : RepairUnit) (s : State), writeGate role oD060_01 (unitPath u) s = none →
      (∃ t, exec (.unitOffline role u) s = .next t ∧
        (unitState s u ≠ 0 ∨ mayOffline s u = false → TurnedAway s t .refused) ∧
        (unitState s u = 0 → mayOffline s u = true → t.out.getLast? = some (.answer .ok none) ∧
          (∀ g, u = .group g → unitState t u = 2 ∧ ∀ j : Fin 4, roleOf s (4 * g.val + j.val) ≠ 0 → linkOf t (4 * g.val + j.val) = 0) ∧
          (∀ k, u = .cluster k → domState s (8 + k.val) = 0 → s.net.drainAt = [] → domDrained s (8 + k.val) = true →
            unitState t u = 2 ∧ domState t (8 + k.val) = 2 ∧ ∀ e : Fin 16, engState t (16 * k.val + e.val) = 3) ∧
          (∀ q, u = .quire q → unitState t u = 1 ∧ repairPhase t q.val = 1))) ∧
      (∃ t, exec (.unitReturn role u) s = .next t ∧
        (testStatus s (unitPath u) = 4 → TurnedAway s t .refused) ∧
        (testStatus s (unitPath u) ≠ 4 → unitState s u ≠ 2 → unitState s u ≠ 4 → TurnedAway s t .refused) ∧
        (testStatus s (unitPath u) ≠ 4 → unitState s u = 2 → t.out.getLast? = some (.answer .ok none) ∧
          (∀ g, u = .group g → unitState t u = 0) ∧
          (∀ k, u = .cluster k → unitState t u = 0 ∧ domState t (8 + k.val) = 0 ∧
            ∀ e : Fin 16, engState t (16 * k.val + e.val) = (if k.val < 8 then 0 else 1)) ∧
          (∀ q, u = .quire q → unitState t u = 3 ∧ testStatus t (unitPath u) = 1)))) ∧
  (∀ (q : Fin 8) (s : State), repairPhase s q.val = 1 →
      (owesNothing s q.val = true → s.net.drainAt = [] → domState s q.val = 0 ∨ domState s q.val = 2 →
        domState s (8 + q.val) = 0 ∨ domState s (8 + q.val) = 2 → ∃ t, exec (.quireDrainComplete q) s = .next t ∧ repairPhase t q.val = 2 ∧
        domState t q.val = 2 ∧ domState t (8 + q.val) = 2 ∧ s.clk.now + us 1 ≤ t.clk.now) ∧
      (∃ t, exec (.quireDrainLimit q) s = .next t ∧ repairPhase t q.val = 0 ∧ t.val oD060_02 [pQ q.val] = 0 ∧
        Tbl.look 0 s.boot.phaseAt q.val + ms (s.val oD060_03 []) ≤ t.clk.now ∧ FaultSent s t 0x709 0x69)) ∧
  (∀ (q : Fin 8) (s : State), repairPhase s q.val = 2 → s.val oD060_02 [pQ q.val] = 1 → domState s q.val = 2 →
      ∃ t, exec (.quirePowerDown q) s = .next t ∧ Tbl.look 0 s.boot.phaseAt q.val + ms 1 ≤ t.clk.now ∧ t.val oD060_02 [pQ q.val] = 2 ∧
        (∀ e : Fin 16, engState t (16 * q.val + e.val) = 3) ∧ (∀ n ∈ domTargets q.val, targetState t n = 2))

/-- Filter banks commit with a snapshot, snapshots copy every counter, trace records time out and are freed. BANK_COMMIT, admitted, with 1:
BUSY while one is pending, else pending for the first whole microsecond at least 2 us from now; another value than 0 or 1 is refused.
BANK_COMMIT_APPLY with no earlier trigger: every bank has its shadow, none is pending, and a snapshot of reason 4 at that instant holds
every counter. SNAPSHOT_TRIGGER with 1 asks for one; SNAPSHOT_TAKE of a sole asked instant is reason 2, of a sole periodic one reason
1. TRACE_TIMEOUT of an open record closes it with END 2. TRACE_READ_POINTER_WRITE frees the records up to the value when they are
unread and none is open, else is refused. -/
def Obligations.BanksSnapshotsAndTraceRecords : Prop :=
  (∀ (role : Role) (v : Nat) (s : State), writeGate role oC020_03 [] s = none → ∃ t, exec (.bankCommit role v) s = .next t ∧
      (1 < v → TurnedAway s t .refused) ∧ (v = 0 → TurnedAway s t .ok) ∧ (v = 1 → s.cnt.commitAt.isSome = true → TurnedAway s t .busy) ∧
      (v = 1 → s.cnt.commitAt = none → t.cnt = { s.cnt with commitAt := some (nextWhole s) } ∧ t.val oC020_04 [] = 1 ∧
        tbNs s + 2000 ≤ nextWhole s ∧ nextWhole s < tbNs s + 3000 ∧ nextWhole s % 1000 = 0 ∧
        t = { s with store := t.store, cnt := t.cnt, out := s.out ++ [Output.answer .ok none] } ∧ ObjsKept s t [(oC020_04, [])])) ∧
  (∀ (at_ : Nat) (s : State), s.cnt.commitAt = some at_ → s.cnt.snaps = [] → s.val oC030_02 [] = 0 →
      ∃ t, exec .bankCommitApply s = .next t ∧ t.cnt.commitAt = none ∧ t.val oC020_04 [] = 0 ∧ t.val oC030_05 [] = 4 ∧
        t.val oC030_04 [] = at_ % 2 ^ 64 ∧ t.val oC030_03 [] = (s.val oC030_03 [] + 1) % 32768 ∧ t.cnt.shadow = s.counts ∧ t.counts = s.counts ∧
        ∀ b : Fin 63, t.val oC020_02 [pFB (b.val + 1)] = s.val oC020_01 [pFB (b.val + 1)]) ∧
  (∀ (role : Role) (v : Nat) (s : State), writeGate role oC030_01 [] s = none → ∃ t, exec (.snapshotTrigger role v) s = .next t ∧
      (1 < v → TurnedAway s t .refused) ∧ (v = 0 → TurnedAway s t .ok) ∧
      (v = 1 → nextWhole s ∈ t.cnt.snaps ∧ (nextWhole s ∉ s.cnt.snaps → t.cnt.snaps = s.cnt.snaps ++ [nextWhole s]) ∧
        t = { s with cnt := { s.cnt with snaps := t.cnt.snaps }, out := s.out ++ [Output.answer .ok none] })) ∧
  (∀ (s : State), s.cnt.commitAt = none →
      (∀ k, s.cnt.snaps = [k] → s.val oC030_02 [] = 0 → ∃ t, exec .snapshotTake s = .next t ∧ t.cnt.snaps = [] ∧ t.val oC030_05 [] = 2 ∧
        t.val oC030_04 [] = k % 2 ^ 64 ∧ t.cnt.shadow = s.counts ∧ t.val oC030_03 [] = (s.val oC030_03 [] + 1) % 32768 ∧
        ObjsKept s t [(oC030_03, []), (oC030_04, []), (oC030_05, [])]) ∧
      (s.cnt.snaps = [] → s.val oC030_02 [] ≠ 0 → s.clk.inc ≠ 0 → s.clk.tickAt ≤ s.clk.now → ∃ t, exec .snapshotTake s = .next t ∧
        t.cnt.shadow = s.counts ∧ Tbl.look 0 t.clk.inst 36 % (1000 * s.val oC030_02 []) = 0) ∧
      (s.cnt.snaps = [] → s.val oC030_02 [] = 0 → exec .snapshotTake s = .next s)) ∧
  (∀ (r : Fin 4096) (s : State), (traceOf s r.val).open_ = true → ∃ t, exec (.traceTimeout r) s = .next t ∧
      traceOf t r.val = { traceOf s r.val with open_ := false, endc := 2, gone := !s.fnet.isEmpty } ∧ t.store = s.store ∧ t.out = s.out) ∧
  (∀ (role : Role) (v : Nat) (s : State), writeGate role oC050_06 [] s = none →
      let r := s.val oC050_06 []
      let n := if v = r ∧ s.val oC050_08 [] = 4096 then 4096 else (v + 4096 - r) % 4096
      let bad := 4095 < v ∨ s.val oC050_08 [] < n ∨ ((List.range n).any fun j => (traceOf s ((r + j) % 4096)).open_) = true
      ∃ t, exec (.traceReadPointerWrite role v) s = .next t ∧ (bad → TurnedAway s t .refused) ∧
        (¬ bad → t.val oC050_06 [] = v ∧ t.val oC050_08 [] = s.val oC050_08 [] - n ∧ t.out = s.out ++ [Output.answer .ok none] ∧ OnlyStore s t ∧
          ObjsKept s t [(oC050_06, []), (oC050_08, [])]))

/-- Test access port instructions load under their conditions, and self-tests start and report. With the port reachable, each scan of an
instruction first shifts the captured 0b0000_0001 out (not TAP_RESET): TAP_RESET and IDCODE (its register shifted out), SAMPLE_PRELOAD
(the boundary register taken), BYPASS load their codes; EXTEST, EXTEST_PULSE, EXTEST_TRAIN, CLAMP and HIGHZ do while RESET_N is held
with power good, DBG_CHALLENGE and DBG_TOKEN in PRODUCTION or DEBUG_UNLOCK, FACTORY_TEST in MANUFACTURE; a failed condition shows
BYPASS, counts and logs 0x82. With it unreachable nothing happens. SELF_TEST_START, admitted, with 1 of a unit that may be tested: it
runs; else refused. SELF_TEST_COMPLETE of a running one: its status, its memory 0, a repair leaves the spares it does not use and logs
0x80, a failure logs 0x81; a returning quire is opened, or stays out when it fails. -/
def Obligations.TestPortInstructionsAndSelfTests : Prop :=
  (∀ (s : State), tapOn s = false →
      exec .tapReset s = .next s ∧ exec .idcode s = .next s ∧ exec .clamp s = .next s ∧ exec .highz s = .next s ∧
      exec .dbgChallenge s = .next s ∧ exec .bypass s = .next s ∧
      (∀ v, exec (.samplePreload v) s = .next s ∧ exec (.extest v) s = .next s ∧ exec (.extestPulse v) s = .next s ∧
        exec (.extestTrain v) s = .next s) ∧
      (∀ a b, exec (.dbgToken a b) s = .next s) ∧ (∀ n, exec (.factoryTest n) s = .next s)) ∧
  (∀ (s : State), tapOn s = true → let cap := [Output.tdo 1 8]
      let ir := fun (t : State) (c : Nat) => bits (t.val oE000_01 []) 7 0 = c ∧ ObjsKept s t [(oE000_01, [])]
      let turned := fun (t : State) (c : Nat) => t.val oE000_01 [] = c * 256 + 0xFF ∧ t.val oE000_03 [] = min (s.val oE000_03 [] + 1) oE000_03.hi ∧
        FaultSent s t 0x780 0x82 ∧ t.tap = s.tap ∧ t.out = s.out ++ cap ∧ ObjsKept s t [(oE000_01, []), (oE000_03, [])]
      (∃ t, exec .tapReset s = .next t ∧ bits (t.val oE000_01 []) 7 0 = 1 ∧ t.val oE020_02 [] = 0 ∧ ObjsKept s t [(oE000_01, []), (oE020_02, [])] ∧
        OnlyStore s t ∧ t.out = s.out) ∧
      (∃ t, exec .idcode s = .next t ∧ ir t 1 ∧ t.out = s.out ++ cap ++ [Output.tdo 0xB9512C4D 32] ∧ OnlyStore s t) ∧
      (∃ t, exec .bypass s = .next t ∧ ir t 0xFF ∧ OnlyStore s t ∧ t.out = s.out ++ cap) ∧
      (∀ v, ∃ t, exec (.samplePreload v) s = .next t ∧ ir t 2 ∧ t.tap = { s.tap with bound := v % 2 ^ 1162 }) ∧
      (heldReset s = true → ∀ v,
        (∃ t, exec (.extest v) s = .next t ∧ ir t 3 ∧ t.tap = { s.tap with bound := v % 2 ^ 1162 } ∧ t.fnet = s.fnet) ∧
        (∃ t, exec (.extestPulse v) s = .next t ∧ ir t 4 ∧ t.tap = { s.tap with bound := v % 2 ^ 1162 } ∧ t.out.getLast? = some (.acTest false)) ∧
        (∃ t, exec (.extestTrain v) s = .next t ∧ ir t 5 ∧ t.tap = { s.tap with bound := v % 2 ^ 1162 } ∧ t.out.getLast? = some (.acTest true)) ∧
        (∃ t, exec .clamp s = .next t ∧ ir t 6 ∧ OnlyStore s t ∧ t.out = s.out ++ cap) ∧
        (∃ t, exec .highz s = .next t ∧ ir t 7 ∧ OnlyStore s t ∧ t.out = s.out ++ cap)) ∧
      (heldReset s = false → ∀ v,
        (∃ t, exec (.extest v) s = .next t ∧ turned t 3) ∧ (∃ t, exec (.extestPulse v) s = .next t ∧ turned t 4) ∧
        (∃ t, exec (.extestTrain v) s = .next t ∧ turned t 5) ∧ (∃ t, exec .clamp s = .next t ∧ turned t 6) ∧
        (∃ t, exec .highz s = .next t ∧ turned t 7)) ∧
      (let dbg := s.val oD050_01 [] = 1 ∨ s.val oD050_01 [] = 2
       ∃ t, exec .dbgChallenge s = .next t ∧ (dbg → ir t 0x11 ∧ t.out = s.out ++ cap ++ [Output.tdo (s.val oD050_02 []) 384] ∧ OnlyStore s t) ∧
        (¬ dbg → turned t 0x11)) ∧
      (∀ sigOk owner, ∃ t, exec (.dbgToken sigOk owner) s = .next t ∧
        (s.val oD050_01 [] = 1 ∨ s.val oD050_01 [] = 2 → bits (t.val oE000_01 []) 7 0 = 0x12 ∧ t.out = s.out ++ cap ∧
          (tokenFault sigOk owner s = none → t.boot.unlock = true ∧ t.fnet = s.fnet) ∧
          (tokenFault sigOk owner s ≠ none → t.boot = s.boot ∧ FaultSent s t 0x706 0x67)) ∧
        (¬ (s.val oD050_01 [] = 1 ∨ s.val oD050_01 [] = 2) → turned t 0x12)) ∧
      (∀ n : Fin 16, ∃ t, exec (.factoryTest n) s = .next t ∧ (s.val oD050_01 [] = 0 → ir t (0x20 + n.val) ∧ OnlyStore s t ∧ t.out = s.out ++ cap) ∧
        (s.val oD050_01 [] ≠ 0 → t.val oE000_01 [] = (0x20 + n.val) * 256 + 0xFF ∧ t.val oE000_03 [] = min (s.val oE000_03 [] + 1) oE000_03.hi))) ∧
  (∀ (role : Role) (u : TestUnit) (v : Nat) (s : State), writeGate role oE010_01 (testPath u) s = none →
      ∃ t, exec (.selfTestStart role u v) s = .next t ∧
        (1 < v ∨ (v = 1 ∧ (testAllowed s u = false ∨ testStatus s (testPath u) = 1)) → TurnedAway s t .refused) ∧ (v = 0 → TurnedAway s t .ok) ∧
        (v = 1 → testAllowed s u = true → testStatus s (testPath u) ≠ 1 → testStatus t (testPath u) = 1 ∧ t.out = s.out ++ [Output.answer .ok none] ∧
          Tbl.look none t.tap.tests (pathKey (testPath u)) = some s.clk.now ∧ ObjsKept s t [(oE010_02, testPath u)])) ∧
  (∀ (u : TestUnit) (r : Fin 3) (mem : Fin 8) (spares fails addr row : Nat) (s : State), testStatus s (testPath u) = 1 →
      ∃ t, exec (.selfTestComplete u r mem spares fails addr row) s = .next t ∧
        (∀ q, u = .quire q → s.val oD060_02 [pQ q.val] = 3 →
          (r = 2 → t.val oD060_02 [pQ q.val] = (if s.val o9050_01 [pQ q.val] = 1 then 4 else 2)) ∧ (r ≠ 2 → t.val o9050_01 [pQ q.val] = 0 ∧ domState t q.val = 0)) ∧
        ((∀ q, u = .quire q → s.val oD060_02 [pQ q.val] ≠ 3) →
          testStatus t (testPath u) = r.val + 2 ∧ Tbl.look none t.tap.tests (pathKey (testPath u)) = none ∧ t.out = s.out ∧
          (r = 0 → t.fnet = s.fnet ∧ ObjsKept s t [(oE010_02, testPath u)]) ∧
          (r = 1 → t.val oE010_03 (testPath u) = objDefault oE010_03 (testPath u) - spares ∧ FaultSent s t 0x781 0x80) ∧
          (r = 2 → FaultSent s t 0x781 0x81 ∧ ObjsKept s t [(oE010_02, testPath u)])) ∧
        (∀ c, u = .engine c → MemKept s t (0x10000000000 + 0x20000 * c.val) 0x18000 ∧ (engOf t c.val).undet = false ∧
          ∀ a, 0x10000000000 + 0x20000 * c.val ≤ a → a < 0x10000000000 + 0x20000 * c.val + 0x18000 → memByte t.mem a = 0) ∧
        (u = .spine → MemKept s t 0x50000000000 0x400000 ∧ ∀ a, 0x50000000000 ≤ a → a < 0x50000000000 + 0x400000 → memByte t.mem a = 0))

/-- Plain object writes, frames and records taken or discarded, SPDM sessions made, kept and ended. On a standalone device: a write of a
plain object's instance, admitted, takes an in-range value, is refused otherwise; a closed gate gives its status, an unknown index,
sub-index or instance NOT_FOUND, a descriptor REFUSED. A frame that is oversize, of another header or session, untagged or replayed is
counted and changes nothing else; an SPDM request or a fresh Adsum request waits; an answered one gets its response again; a ninth gets
BUSY. GET_MEASUREMENTS answers the six; KEY_EXCHANGE with mutual authentication opens the lowest free session of 32, else an error;
FINISH takes the role of the matching key, else ends the session; HEARTBEAT, KEY_UPDATE, END_SESSION, SESSION_IDLE_TIMEOUT,
SESSION_END. P_VALUE_DURABLE makes the oldest value durable; I3C addresses are taken. Log entries 112, 113 and 114 name the model's
choices. -/
def Obligations.WritesFramesAndSessions : Prop :=
  (∀ (role : Role) (i : Fin 65536) (k : Fin 256) (p : Path) (v : Nat) (x : Extra) (s : State), 16 ≤ s.val o4200_01 [] →
      p.head?.map (·.1) ≠ some 1 →
      let plain := [o4020_01, o4022_02, o4034_02, o4048_01, o5120_01, o5210_01, o3000_06, o2130_02, o4420_02, o7022_01, o1100_08, o1120_01,
        o9012_01, oA010_07, oB020_05, oC050_04, oD060_03]
      ∃ t, exec (.registerWrite role i k p v x) s = .next t ∧
        (∀ o, objAt i.val k.val = some o → (instances s o p = none → TurnedAway s t .notFound) ∧
          (∀ st, instances s o p = some (true, [p]) → writeGate role o p s = some st → TurnedAway s t st) ∧
          (o ∈ plain → instances s o p = some (true, [p]) → writeGate role o p s = none →
            (inRange o v = true → Writes s t o p (v &&& o.mask)) ∧ (inRange o v = false → TurnedAway s t .refused))) ∧
        (objAt i.val k.val = none → TurnedAway s t (if k.val = 255 ∧ objsAt i.val ≠ [] then .refused else .notFound))) ∧
  (∀ (via : Via) (f : AdsFrame) (s : State), (hears s via f = false → exec (.adsumFrameReceive via f) s = .next s) ∧
      (hears s via f = true → ∃ t, exec (.adsumFrameReceive via f) s = .next t ∧
        let whole := oversize via f = false ∧ f.magic = 0xAD5F ∧ f.ver = 1
        let lost := t.val o1120_06 [] = min (s.val o1120_06 [] + 1) o1120_06.hi ∧ ObjsKept s t [(o1120_06, [])] ∧ OnlyStore s t ∧ t.out = s.out
        (¬ whole → lost) ∧ (whole → f.ftype ≠ 1 → f.ftype ≠ 2 → lost) ∧ (whole → f.ftype = 2 → sessOf s f.ses = none → lost) ∧
        (whole → f.ftype = 1 → f.msg = .getMeasurements ∨ (∃ b, f.msg = .keyExchange b) →
          t = { s with ads := { s.ads with inbox := s.ads.inbox ++ [(⟨via, none, f.msg⟩ : InMsg)] } }) ∧
        (∀ v, whole → f.ftype = 2 → sessOf s f.ses = some v →
          (f.tag = false ∨ fresh v f.seq = false → lost) ∧
          (∀ op rid items, f.msg = .adsum op rid items → f.tag = true → fresh v f.seq = true → v.ready = true →
            (sessOf t f.ses).any (fun w => w.via == via && w.recAt == s.clk.now && w.role == v.role && decide (f.seq ≤ w.high.getD 0)) = true ∧
            t.store = s.store ∧
            (∀ r, v.answered.find? (fun e => e.1 == rid.val) = some r → t.ads.inbox = s.ads.inbox ∧ t.out = s.out ++ [Output.adsum f.ses via r.2]) ∧
            (v.answered.find? (fun e => e.1 == rid.val) = none →
              (rid.val ∈ outstanding s f.ses → t.ads.inbox = s.ads.inbox ∧ t.out = s.out) ∧
              (rid.val ∉ outstanding s f.ses → (outstanding s f.ses).length < 8 →
                t.ads.inbox = s.ads.inbox ++ [(⟨via, some f.ses, f.msg⟩ : InMsg)] ∧ t.out = s.out) ∧
              (rid.val ∉ outstanding s f.ses → 8 ≤ (outstanding s f.ses).length → t.ads.inbox = s.ads.inbox ∧
                t.out = s.out ++ [Output.adsum f.ses via { st := .busy, rid := rid.val, time := tbNs s % 2 ^ 64 }])))))) ∧
  (∀ (via : Via) (ses : Option Nat) (msg : WireMsg) (rest : List InMsg) (s : State),
      s.ads.inbox = { via := via, ses := ses, msg := msg } :: rest →
      (msg = .getMeasurements → ∃ t, exec .spdmGetMeasurements s = .next t ∧ t.ads = { s.ads with inbox := rest } ∧ t.store = s.store ∧
        t.out = s.out ++ [Output.spdm via 2 ses ((List.range 6).map fun k => Tbl.look 0 s.boot.meas (k + 1))]) ∧
      (∀ b, msg = .keyExchange b → ∃ t, exec .spdmKeyExchange s = .next t ∧ t.ads.inbox = rest ∧ t.store = s.store ∧
        (freeSess s = none → t.ads.sess = s.ads.sess ∧ t.out = s.out ++ [Output.spdm via 1 none []]) ∧
        (∀ n, freeSess s = some n → b = false → t.ads.sess = s.ads.sess ∧ t.out = s.out ++ [Output.spdm via 0 none []]) ∧
        (∀ n, freeSess s = some n → b = true → n < 32 ∧ sessOf s n = none ∧ t.out = s.out ++ [Output.spdm via 3 (some n) []] ∧
          sessOf t n = some { via := via, recAt := s.clk.now, reqAt := s.clk.now })) ∧
      (∀ n key ok v, ses = some n → msg = .finish key ok → sessOf s n = some v → ∃ t, exec .spdmFinish s = .next t ∧ t.ads.inbox.length ≤ rest.length ∧
        (∀ k r, ok = true → entryOf s key = some (k, r) → s.val o1130_01 [pRK k] = key ∧ s.val o1130_02 [pRK k] = r ∧
          sessOf t n = some { v with ready := true, role := r, rk := k, high := none, seen := [] } ∧ t.out = s.out ++ [Output.spdm via 4 (some n) []]) ∧
        (ok = false ∨ entryOf s key = none → sessOf t n = none ∧ t.out = s.out ++ [Output.spdm via 0 (some n) []])) ∧
      (msg = .heartbeat → exec .spdmHeartbeat s = .next { s with ads := { s.ads with inbox := rest }, out := s.out ++ [Output.spdm via 5 ses []] }) ∧
      (∀ n v, ses = some n → msg = .keyUpdate → sessOf s n = some v → ∃ t, exec .spdmKeyUpdate s = .next t ∧
        sessOf t n = some { v with keys := v.keys + 1 } ∧ t.ads.inbox = rest ∧ t.out = s.out ++ [Output.spdm via 6 ses []]) ∧
      (∀ n, ses = some n → msg = .endSession → ∃ t, exec .spdmEndSession s = .next t ∧ sessOf t n = none ∧ t.store = s.store ∧
        t.out = s.out ++ [Output.spdm via 7 ses []] ∧ (∀ e ∈ t.ads.subs, e.2.all (·.ses != n) = true) ∧
        t.ads.inbox = rest.filter (fun m => m.ses != some n))) ∧
  (∀ (role : Role) (n : Fin 32) (w : Nat) (v : Sess) (s : State), sessOf s n.val = some v →
      (∃ t, exec (.sessionIdleTimeout n) s = .next t ∧ sessOf t n.val = none ∧ t.out = s.out ∧
        t.clk.now = max s.clk.now (min (v.recAt + 4000000000 * (2 * s.val o1120_09 [])) (v.reqAt + 4000000000 * s.val o1120_01 []))) ∧
      (writeGate role o1120_08 [pSES n.val] s = none → ∃ t, exec (.sessionEnd role n w) s = .next t ∧ (1 < w → TurnedAway s t .refused) ∧
        (w = 0 → TurnedAway s t .ok) ∧ (w = 1 → sessOf t n.val = none ∧ t.out = s.out ++ [Output.answer .ok none] ∧ t.store = s.store))) ∧
  (∀ (s : State), (vinWarn s = true → exec .pValueDurable s = .next s) ∧
      (vinWarn s = false → exec .pValueDurable s = .next { s with store := { s.store with pq := s.store.pq.drop 1 } })) ∧
  (∀ (k : Fin 2) (st : Option (Fin 128)) (a : Fin 128) (s : State), s.pwr.vsb = true →
      ∃ t, exec (.i3cDynamicAddress k st a) s = .next t ∧ t.out = s.out ∧
        (st = none → if s.val o1110_02 [pI3C k.val] = 0 then t.val o1110_02 [pI3C k.val] = a.val else t = s) ∧
        (∀ x, st = some x → if x.val ≠ 0 ∧ x.val = s.val o1110_01 [pI3C k.val] then t.val o1110_02 [pI3C k.val] = a.val else t = s) ∧
        ObjsKept s t [(o1110_02, [pI3C k.val])])

/-- GET, SET and SNAPSHOT answer every item in order, a subscription begins and ends, and an event tells of a change. For the oldest
request, of a ready session, on a standalone device: one response goes back with its REQID, as many answers as items and the first
failing item's status; a request of over 64 items is TYPE_LEN. GET of an integer or boolean RO or RW instance of the role's view gives
its type, length and value and changes no object. SET of a plain instance in range writes it; a first item that fails leaves the rest
NOT_DONE and nothing written. SNAPSHOT over 1,024 bytes changes no object. SUBSCRIBE of an instance takes the lowest free place of 256
with an interval of at least 10 us; UNSUBSCRIBE frees it, or is NOT_FOUND. EVENT_SEND sends nothing for an unchanged value, else the
value, the session's event number and a count, no sooner than the interval. Log entries 117, 116 and 121 name the model's choices. -/
def Obligations.RequestsAndSubscriptions : Prop :=
  (∀ (op : AdsOp) (n : Nat) (via : Via) (rid : Fin 65536) (items : List AdsItem) (rest : List InMsg) (v : Sess) (s : State),
      s.ads.inbox = { via := via, ses := some n, msg := .adsum op rid items } :: rest → sessOf s n = some v → 16 ≤ s.val o4200_01 [] →
      let resp := fun (t : State) (l : List AdsAns) =>
        ∃ g : Output, t.out = s.out ++ [g] ∧ g = .adsum n v.via { st := messageStatus l, rid := rid.val, time := tbNs s % 2 ^ 64, items := l }
      let done := fun (t : State) => t.ads.inbox = rest ∧ (sessOf t n).any (fun w => w.count == v.count + 1 && w.role == v.role && w.via == v.via &&
        (w.answered.getLast?.map (·.1)) == some rid.val) = true
      let long := fun (t : State) => 64 < items.length → done t ∧ t.store = s.store ∧
        t.out = s.out ++ [Output.adsum n v.via { st := .typeLen, rid := rid.val, time := tbNs s % 2 ^ 64 }]
      let named := fun (it : AdsItem) (o : Obj) => objAt it.idx.val it.sub.val = some o ∧ it.sub ≠ 255 ∧ instances s o it.path = some (true, [it.path]) ∧
        it.path.head?.map (·.1) ≠ some 1 ∧ it.path.length ≤ 8 ∧ it.ty = 0 ∧ it.next = false ∧ it.off = 0 ∧ it.pad = true
      (op = .get → ∃ t, exec .adsumGet s = .next t ∧ long t ∧ ∀ it o, items = [it] → named it o → it.len = 0 →
        o.ty ∈ [Ty.u8, .u16, .u32, .u64, .i32, .bool, .bits32, .enum8, .time64] → o.acc = .ro ∨ o.acc = .rw → viewed s (roleOfSess v) o it.path = true →
        measured s o it.path = false → indexOpen s o.idx = true →
        let len := if o.ty ∈ [Ty.u8, .bool, .enum8] then 1 else if o.ty = .u16 then 2 else if o.ty ∈ [Ty.u64, .time64] then 8 else 4
        done t ∧ t.store = s.store ∧
          resp t [{ idx := it.idx.val, sub := it.sub.val, path := it.path, st := .ok, ty := o.ty.num, len := len,
                    val := (derived s o it.path).getD (s.val o it.path) % 256 ^ len }]) ∧
      (op = .set → ∃ t, exec .adsumSet s = .next t ∧ long t ∧ ∀ it o r, items = it :: r → items.length ≤ 64 → named it o → it.len ≤ 1024 →
        o ∈ [o4020_01, o5210_01, o2130_02, o9012_01, oC050_04] → fitsType o it.path it.data it.len = true →
        let a := fun (i : AdsItem) (st : Status) => ({ idx := i.idx.val, sub := i.sub.val, path := i.path, st := st } : AdsAns)
        (writeGate (roleOfSess v) o it.path s = none → inRange o it.data = true → r = [] →
          done t ∧ resp t [a it .ok] ∧ t.val o it.path = it.data &&& o.mask ∧ ObjsKept s t [(o, it.path)]) ∧
        (∀ st, (writeGate (roleOfSess v) o it.path s = some st ∧ st ≠ .ok) ∨
            (writeGate (roleOfSess v) o it.path s = none ∧ inRange o it.data = false ∧ st = .refused) →
          done t ∧ t.store = s.store ∧ ∃ g : Output, t.out = s.out ++ [g] ∧ ∃ m : AdsResp, g = .adsum n v.via m ∧ m.items = a it st :: r.map (a · .notDone))) ∧
      (op = .snapshot → ∃ t, exec .adsumSnapshot s = .next t ∧ long t ∧
        let l := (getItems (roleOfSess v) items { s with ads := { s.ads with inbox := rest, sess := Tbl.upd none s.ads.sess n (some { v with count := v.count + 1 }) } }).1
        (items.length ≤ 64 → (l.map (·.len)).sum ≤ 1024 → done t ∧ ∃ g : Output, t.out.getLast? = some g ∧ ∃ m : AdsResp, g = .adsum n v.via m ∧ m.items = l) ∧
        (items.length ≤ 64 → 1024 < (l.map (·.len)).sum → done t ∧ t.store = s.store ∧
          t.out = s.out ++ [Output.adsum n v.via { st := .typeLen, rid := rid.val, time := tbNs s % 2 ^ 64 }])) ∧
      (op = .subscribe → ∃ t, exec .adsumSubscribe s = .next t ∧ long t ∧ ∀ it o, items = [it] → named it o → it.wild = false → o.acc ≠ .wo → it.aux ≤ 60000000 →
        indexOpen s o.idx = true → measured s o it.path = false →
        (∀ k, freeSub s = some k → k < 256 ∧ Tbl.look none s.ads.subs k = none ∧ done t ∧ t.store = s.store ∧
          (Tbl.look none t.ads.subs k).any (fun b => b.ses == n && b.code == o.code && b.path == it.path && b.every == max 10 it.aux) = true ∧
          resp t [{ idx := it.idx.val, sub := it.sub.val, path := it.path, st := .ok }]) ∧
        (freeSub s = none → done t ∧ t.ads.subs = s.ads.subs ∧ resp t [{ idx := it.idx.val, sub := it.sub.val, path := it.path, st := .resource }])) ∧
      (op = .unsubscribe → ∃ t, exec .adsumUnsubscribe s = .next t ∧ long t ∧ ∀ it, items = [it] → it.path.head?.map (·.1) ≠ some 1 →
        let mine := fun (e : Nat × Option Sub) => e.2.any fun b =>
          b.ses == n && b.code == it.idx.val * 256 + it.sub.val && b.path == it.path && b.wild == it.wild
        (∀ e, s.ads.subs.find? mine = some e → done t ∧ Tbl.look none t.ads.subs e.1 = none ∧
          resp t [{ idx := it.idx.val, sub := it.sub.val, path := it.path, st := .ok }]) ∧
        (s.ads.subs.find? mine = none → done t ∧ t.ads.subs = s.ads.subs ∧
          resp t [{ idx := it.idx.val, sub := it.sub.val, path := it.path, st := .notFound }]))) ∧
  (∀ (k : Fin 256) (b : Sub) (e : Sess) (o : Obj) (p : Path) (s : State), Tbl.look none s.ads.subs k.val = some b → sessOf s b.ses = some e →
      dictionary.find? (fun o => o.code == b.code) = some o → b.wild = false → b.path = p → instances s o p = some (true, [p]) → o.acc = .rw → measured s o p = false →
      indexOpen s o.idx = true →
      let now := (derived s o p).getD (s.val o p)
      let old := Tbl.look {} b.insts (pathKey p)
      (now = old.val → exec (.adsumEventSend k p) s = .next s) ∧
      (now ≠ old.val → ∃ t, exec (.adsumEventSend k p) s = .next t ∧ t.store = s.store ∧
        (∃ g : Output, t.out = s.out ++ [g] ∧ ∃ m : AdsResp, g = .adsum b.ses e.via m ∧ m.mtype = 0x20 ∧ m.rid = e.evSeq ∧
          m.items.map (fun a => (a.st, a.val, decide (1 ≤ a.aux))) = [(.ok, now, true)]) ∧
        (sessOf t b.ses).any (fun w => w.evSeq == (e.evSeq + 1) % 65536) = true ∧
        (∀ at_, old.at_ = some at_ → at_ + 4000 * b.every ≤ t.clk.now) ∧
        (Tbl.look none t.ads.subs k.val).any (fun c => (Tbl.look {} c.insts (pathKey p)).val == now) = true))

/-- Access blocks read and write objects for hosts and engines, and BAR0 shows RO objects and the Imprint table. A GET or SET at a block
that is absent or busy changes nothing. Else, on a standalone device, with a path of at most 8 elements without a forme element. GET:
an instance that does not exist or is not in view ends with STATUS 3, a write-only one with 4; an integer or boolean RO or RW one with
2, its length and its value, and nothing else changes. SET by a host of an object that no host writes ends with 4, and no object
changes. SET by an engine of a plain instance that is admitted and in range writes it, STATUS 2; out of range ends with 4; over 1,024
bytes or not of its type with 6. DIRECT_OBJECT_READ in D3hot is refused; else it answers the bytes of an RO instance in view or of the
Imprint table of the function or of an existing VF, and zero for every other offset. Log entry 93 names the model's choices. -/
def Obligations.AccessBlocksAndDirectReads : Prop :=
  (∀ (b : AccessBlock) (i : Fin 65536) (k : Fin 256) (p : Path) (x : Extra) (len : Fin 65536) (data : Nat) (s : State), blockTakes s b = false →
      exec (.accessBlockGet b i k p x) s = .next s ∧ exec (.accessBlockSet b i k p len data x) s = .next s) ∧
  (∀ (b : AccessBlock) (i : Fin 65536) (k : Fin 256) (p : Path) (x : Extra) (s : State), blockTakes s b = true → 16 ≤ s.val o4200_01 [] →
      p.length ≤ 8 → p.head?.map (·.1) ≠ some 1 →
      let ended := fun (t : State) (st len : Nat) => Tbl.look 0 t.host.abCtl (blockKey b) = ctlWord i.val k.val 1 st len ∧
        Tbl.look [] t.host.abPath (blockKey b) = p ∧ t = { s with host := { s.host with abCtl := t.host.abCtl, abPath := t.host.abPath, abData := t.host.abData } }
      ∀ o, objAt i.val k.val = some o → indexOpen s o.idx = true →
        (instances s o p = none → ∃ t, exec (.accessBlockGet b i k p x) s = .next t ∧ ended t 3 0) ∧
        (instances s o p = some (true, [p]) → viewed s (blockRole s b) o p = false → ∃ t, exec (.accessBlockGet b i k p x) s = .next t ∧ ended t 3 0) ∧
        (instances s o p = some (true, [p]) → viewed s (blockRole s b) o p = true → o.acc = .wo →
          ∃ t, exec (.accessBlockGet b i k p x) s = .next t ∧ ended t 4 0) ∧
        (instances s o p = some (true, [p]) → viewed s (blockRole s b) o p = true → o.acc = .ro ∨ o.acc = .rw → measured s o p = false →
          o.ty ∈ [Ty.u8, .u16, .u32, .u64, .i32, .bool, .bits32, .enum8, .time64] →
          let len := if o.ty ∈ [Ty.u8, .bool, .enum8] then 1 else if o.ty = .u16 then 2 else if o.ty ∈ [Ty.u64, .time64] then 8 else 4
          ∃ t, exec (.accessBlockGet b i k p x) s = .next t ∧ ended t 2 len ∧
            Tbl.look 0 t.host.abData (blockKey b) = (derived s o p).getD (s.val o p) % 256 ^ len)) ∧
  (∀ (n : Fin 64) (j : Fin 16) (i : Fin 65536) (k : Fin 256) (p : Path) (len : Fin 65536) (data : Nat) (x : Extra) (s : State),
      let b := AccessBlock.host n j
      blockTakes s b = true → s.val oD000_03 [] ≠ 2 → 16 ≤ s.val o4200_01 [] → p.head?.map (·.1) ≠ some 1 →
      i.val * 256 + k.val ≠ 0x800006 → i.val * 256 + k.val ≠ 0x212001 → ∃ t, exec (.accessBlockSet b i k p len data x) s = .next t ∧
        Tbl.look 0 t.host.abCtl (blockKey b) = ctlWord i.val k.val 2 4 len.val ∧ t.store = s.store ∧ t.out = s.out) ∧
  (∀ (c : Fin 192) (i : Fin 65536) (k : Fin 256) (p : Path) (len : Fin 65536) (data : Nat) (x : Extra) (o : Obj) (s : State),
      let b := AccessBlock.engine c
      blockTakes s b = true → 16 ≤ s.val o4200_01 [] → p.head?.map (·.1) ≠ some 1 → p.length ≤ 8 → objAt i.val k.val = some o →
      o ∈ [o4020_01, o5210_01, o2130_02, o9012_01, oC050_04] → instances s o p = some (true, [p]) →
      let ended := fun (t : State) (st : Nat) => Tbl.look 0 t.host.abCtl (blockKey b) = ctlWord i.val k.val 2 st len.val ∧ t.out = s.out
      let v := data % 256 ^ len.val
      (1024 < len.val → ∃ t, exec (.accessBlockSet b i k p len data x) s = .next t ∧ ended t 6 ∧ t.store = s.store) ∧
      (len.val ≤ 1024 → fitsType o p v len.val = false → ∃ t, exec (.accessBlockSet b i k p len data x) s = .next t ∧ ended t 6 ∧ t.store = s.store) ∧
      (len.val ≤ 1024 → fitsType o p v len.val = true → writeGate (.engine c) o p s = none → inRange o v = true →
        ∃ t, exec (.accessBlockSet b i k p len data x) s = .next t ∧ ended t 2 ∧ t.val o p = v &&& o.mask ∧ ObjsKept s t [(o, p)]) ∧
      (len.val ≤ 1024 → fitsType o p v len.val = true → writeGate (.engine c) o p s = none → inRange o v = false →
        ∃ t, exec (.accessBlockSet b i k p len data x) s = .next t ∧ ended t 4 ∧ t.store = s.store) ∧
      (len.val ≤ 1024 → fitsType o p v len.val = true → writeGate (.engine c) o p s = some .notInView →
        ∃ t, exec (.accessBlockSet b i k p len data x) s = .next t ∧ ended t 3 ∧ t.store = s.store)) ∧
  (∀ (n : Fin 64) (wide : Bool) (s : State), inD3 s (n.val * 1024) = true → ∀ r, exec (.directObjectRead n r wide) s = .next (emit (.answer .refused none) s)) ∧
  (∀ (n : Fin 64) (wide : Bool) (s : State), inD3 s (n.val * 1024) = false → blockThere s (.host n 0) = false →
      ∀ r, exec (.directObjectRead n r wide) s = .next s) ∧
  (∀ (n : Fin 64) (wide : Bool) (s : State), inD3 s (n.val * 1024) = false → blockThere s (.host n 0) = true →
      let w := if wide then 2 ^ 64 else 2 ^ 32
      exec (.directObjectRead n .nothing wide) s = .next (emit (.answer .ok (some 0)) s) ∧
      (∀ off, exec (.directObjectRead n (.imprint none off) wide) s =
        .next (emit (.answer .ok (some (imprintTable s n.val none / 256 ^ off.val % w))) s)) ∧
      (∀ (k : Fin 256) off, exec (.directObjectRead n (.imprint (some k) off) wide) s = .next (emit (.answer .ok (some
        (if hasVf s n.val (k.val + 1) = true then imprintTable s n.val (some (k.val + 1)) / 256 ^ off.val % w else 0))) s)) ∧
      (∀ i k p off, objAt i.val k.val = none → exec (.directObjectRead n (.object i k p off) wide) s = .next (emit (.answer .ok (some 0)) s)) ∧
      (∀ i k p off o, objAt i.val k.val = some o →
        o.acc ≠ .ro ∨ indexOpen s o.idx = false ∨ instances s o p = none ∨ (instances s o p = some (true, [p]) ∧ viewed s (.host n) o p = false) →
        exec (.directObjectRead n (.object i k p off) wide) s = .next (emit (.answer .ok (some 0)) s)) ∧
      (∀ i k p off o, objAt i.val k.val = some o → o.acc = .ro → indexOpen s o.idx = true → instances s o p = some (true, [p]) →
        viewed s (.host n) o p = true → measured s o p = false → exec (.directObjectRead n (.object i k p off) wide) s =
          .next (emit (.answer .ok (some ((derived s o p).getD (s.val o p) / 256 ^ off.val % w))) s)))

/-- An FM API command answers a query, makes the change that the managed write makes, or is turned away. A command that is not taken, and
one of another opcode, is answered 2; one while the forme has no lead 5, while services move 3; at a member that is not the lead it is
forwarded. Taken otherwise: IDENTIFY, BACKGROUND_OP_STATUS, EVENT_RECORDS, IDENTIFY_SWITCH_DEVICE, GET_PHYSICAL_PORT_STATE,
GET_VCS_INFO, GET_DCD_INFO, GET_DC_REGION_CONFIG and GET_DC_EXTENT_LISTS answer the values named and change nothing,
SET_DC_REGION_CONFIG takes the fixed values only; PHYSICAL_PORT_CONTROL, INITIATE_DC_ADD and RELEASE leave the state that the managed
command leaves and answer with its status; so do BIND_VPPB and UNBIND_VPPB outside a forme (started, 1, where the operation runs on),
and at the lead the standby records the change first; GENERATE_AER_EVENT logs the error in the vPPB's AER registers; TUNNEL sends a
command of the four sets to a present device. Log entry 125 names the model's choices: the codes and the layouts of answers. -/
def Obligations.FmApiRunsTheManagedActions : Prop :=
  (∀ (via : FmVia) (s : State), exec (.fmApiUnsupported via) s = .next (emit (.fm via 2 []) s)) ∧
  (∀ (via : FmVia) (ps : List (Fin 128)) (ns : List (Fin 64)) (p : Fin 128) (n : Fin 64) (v : Fin 128) (j w r d : Nat) (far : Option Bool)
      (o : Fin 3) (e : Fin 32) (x : Packet) (l : List Nat) (g f : Bool) (b : Fin 65536) (m : Fin 4) (dest : Fin 4096) (op : Fin 65536) (s : State),
      ∀ c ∈ [(Instr.fmApiIdentify via, 0x0001), (.fmApiBackgroundOpStatus via, 0x0002), (.fmApiEventRecords via, 0x0100),
        (.fmApiIdentifySwitchDevice via, 0x5100), (.fmApiGetPhysicalPortState via ps, 0x5101), (.fmApiPhysicalPortControl via p j, 0x5102),
        (.fmApiGetVcsInfo via ns, 0x5200), (.fmApiBindVppb via n v w far, 0x5201), (.fmApiUnbindVppb via n v o, 0x5202),
        (.fmApiGenerateAerEvent via n v e x, 0x5203), (.fmApiGetDcdInfo via, 0x5600), (.fmApiGetDcRegionConfig via r, 0x5601),
        (.fmApiSetDcRegionConfig via r l, 0x5602), (.fmApiGetDcExtentLists via g n r, 0x5603), (.fmApiInitiateDcAdd via b f m dest, 0x5604),
        (.fmApiInitiateDcRelease via b f m, 0x5605), (.fmApiTunnel via p op d, op.val)],
        (fmTaken s via = false → exec c.1 s = .next (emit (.fm via 2 []) s)) ∧
        (fmTaken s via = true → formeHolds s = some .formeBusy → exec c.1 s = .next (emit (.fm via 5 []) s)) ∧
        (fmTaken s via = true → formeHolds s ≠ some .formeBusy → s.clk.now < s.boot.moveUntil → exec c.1 s = .next (emit (.fm via 3 []) s)) ∧
        (fmTaken s via = true → formeHolds s ≠ some .formeBusy → s.boot.moveUntil ≤ s.clk.now → formed s = true → s.val o4200_07 [] ≠ ownPos s →
          exec c.1 s = .next (emit (.fmForward (s.val o4200_07 []) c.2) s))) ∧
  (∀ (via : FmVia) (s : State), fmTaken s via = true → formeHolds s ≠ some .formeBusy → s.boot.moveUntil ≤ s.clk.now →
      (formed s = true → s.val o4200_07 [] = ownPos s) →
      exec (.fmApiIdentify via) s = .next (emit (.fm via 0 [s.val o1000_01 [], s.val o1000_02 [], s.val o1001_00 [], s.val o1002_00 []]) s) ∧
      (s.forme.bgOp = none → exec (.fmApiBackgroundOpStatus via) s = .next (emit (.fm via 0 []) s)) ∧
      (∀ u k st, s.forme.bgOp = some (u, k, st) → exec (.fmApiBackgroundOpStatus via) s =
        .next (emit (.fm via 0 [b2n u, k / 128, k % 128, st, recState (bindRec s (k / 128) (k % 128))]) s)) ∧
      exec (.fmApiEventRecords via) s = .next (emit (.fm via 0 ((List.range (s.val o9020_05 [])).map fun k =>
        s.val o9020_01 [pLG ((s.val o9020_02 [] + k) % 4096)])) s) ∧
      exec (.fmApiIdentifySwitchDevice via) s = .next (emit (.fm via 0 (((List.range 128).map fun p => s.val o2020_01 [pP p]) ++
        ((List.range 64).map fun n => s.val o4100_02 [pVCS n]) ++ [s.val o4200_07 [], s.val o4200_08 []])) s) ∧
      (∀ ps : List (Fin 128), exec (.fmApiGetPhysicalPortState via ps) s = .next (emit (.fm via 0 (ps.flatMap fun p => [s.val o2020_01 [pP p.val],
        s.val o2020_02 [pP p.val], s.val o2020_03 [pP p.val], s.val o3000_02 [pP p.val], s.val o3000_03 [pP p.val]])) s)) ∧
      (∀ ns : List (Fin 64), exec (.fmApiGetVcsInfo via ns) s = .next (emit (.fm via 0 (ns.flatMap fun n => [s.val o4100_01 [pVCS n.val],
        s.val o4100_02 [pVCS n.val], s.val o4100_03 [pVCS n.val], s.val o4100_04 [pVCS n.val], s.val o4100_05 [pVCS n.val]] ++
        (List.range (s.val o4100_03 [pVCS n.val])).map fun v => s.val o4110_01 [pVCS n.val, pV v])) s)) ∧
      exec (.fmApiGetDcdInfo via) s = .next (emit (.fm via 0 ((derived s o5200_02 []).getD (s.val o5200_02 []) ::
        (List.range 64).map fun n => s.val o5230_01 [pVCS n])) s) ∧
      (∀ r, exec (.fmApiGetDcRegionConfig via r) s = .next (emit (if r = 0 then .fm via 0 [2 ^ 28, 2 ^ 40] else .fm via 4 []) s)) ∧
      (∀ r l, exec (.fmApiSetDcRegionConfig via r l) s = .next (emit (.fm via (if r = 0 ∧ l = [2 ^ 28, 2 ^ 40] then 0 else 4) []) s)) ∧
      (∀ (g : Bool) (n : Fin 64) r, r ≠ 0 ∨ (g = true ∧ 16 ≤ n.val) → exec (.fmApiGetDcExtentLists via g n r) s = .next (emit (.fm via 4 []) s)) ∧
      (∀ n : Fin 64, exec (.fmApiGetDcExtentLists via false n 0) s = .next (emit (.fm via 0 ((List.range 4096).flatMap fun m =>
        if s.val o5230_03 [pVCS n.val, pM m] = 0xFFFF then [] else [m, s.val o5230_03 [pVCS n.val, pM m]])) s)) ∧
      (∀ n : Fin 64, n.val < 16 → exec (.fmApiGetDcExtentLists via true n 0) s = .next (emit (.fm via 0 ((List.range 4096).flatMap fun m =>
        if s.val o5230_06 [pDOM n.val, pM m] = 0xFFFF then [] else [m, s.val o5230_06 [pDOM n.val, pM m]])) s)) ∧
      (∀ p : Fin 128, ∃ (t : State) (st : Status), exec (.portLinkRetrain .manager p) s = .next (emit (.answer st none) t) ∧
        exec (.fmApiPhysicalPortControl via p 0) s = .next (emit (.fm via (fmCode st) []) t)) ∧
      (∀ p : Fin 128, ∃ (t : State) (st : Status), exec (.portHotReset .manager p) s = .next (emit (.answer st none) t) ∧
        exec (.fmApiPhysicalPortControl via p 1) s = .next (emit (.fm via (fmCode st) []) t)) ∧
      (∀ p : Fin 128, ∃ (t : State) (st : Status), exec (.portPerstPulse .manager p) s = .next (emit (.answer st none) t) ∧
        exec (.fmApiPhysicalPortControl via p 2) s = .next (emit (.fm via (fmCode st) []) t)) ∧
      (∀ (p : Fin 128) (j : Nat), 2 < j → ∃ st, st ≠ 0 ∧ exec (.fmApiPhysicalPortControl via p j) s = .next (emit (.fm via st []) s)) ∧
      (∀ (n : Fin 64) (v : Fin 128) (w : Nat) (far : Option Bool), let c := FChange.bind (ownPos s) n.val v.val w far
        (formed s = false → ∃ (t : State) (st : Status), exec (.bind .manager n v w far) s = .next (emit (.answer st none) t) ∧
          exec (.fmApiBindVppb via n v w far) s = .next (emit (.fm via (if st = .ok ∧ runsOn t c = true then 1 else fmCode st) []) t)) ∧
        (writeGate .manager o4110_02 [pVCS n.val, pV v.val] s = none → LeadTakes s c →
          ∃ t, exec (.fmApiBindVppb via n v w far) s = .next t ∧ RecordedFirst s t c (.fm via))) ∧
      (∀ (n : Fin 64) (v : Fin 128) (o : Fin 3), let c := FChange.unbind (ownPos s) n.val v.val o.val
        (formed s = false → ∃ (t : State) (st : Status),
          exec (if o = 0 then .unbindMode0 .manager n v else if o = 1 then .unbindMode1 .manager n v else .unbindMode2 .manager n v) s =
            .next (emit (.answer st none) t) ∧
          exec (.fmApiUnbindVppb via n v o) s = .next (emit (.fm via (if st = .ok ∧ runsOn t c = true then 1 else fmCode st) []) t)) ∧
        (writeGate .manager o4110_04 [pVCS n.val, pV v.val] s = none → LeadTakes s c →
          ∃ t, exec (.fmApiUnbindVppb via n v o) s = .next t ∧ RecordedFirst s t c (.fm via))) ∧
      (∀ (n : Fin 64) (v : Fin 128) (k : Fin 32) (p : Packet), let key := fnKey n.val (.vppb v)
        (s.flag o4100_02 [pVCS n.val] = true → v.val < s.val o4100_03 [pVCS n.val] → ∃ t, exec (.fmApiGenerateAerEvent via n v k p) s = .next t ∧
          Tbl.look 0 t.host.aer key = Tbl.look 0 s.host.aer key ||| 2 ^ k.val ∧ (∀ i, i ≠ key → Tbl.look 0 t.host.aer i = Tbl.look 0 s.host.aer i) ∧
          (Tbl.look 0 s.host.aer key = 0 → Tbl.look none t.host.aerHdr key = some p) ∧ (Tbl.look 0 s.host.aer key ≠ 0 → t.host.aerHdr = s.host.aerHdr) ∧
          t = emit (.fm via 0 []) { s with host := { s.host with aer := t.host.aer, aerHdr := t.host.aerHdr } }) ∧
        (s.flag o4100_02 [pVCS n.val] = false ∨ s.val o4100_03 [pVCS n.val] ≤ v.val →
          exec (.fmApiGenerateAerEvent via n v k p) s = .next (emit (.fm via 4 []) s))) ∧
      (∀ (b : Fin 65536) (nk : Bool) (m : Fin 4) (dest : Fin 4096), ∃ (t : State) (st : Status),
        exec (.blockBind .manager b nk m dest) s = .next (emit (.answer st none) t) ∧
        exec (.fmApiInitiateDcAdd via b nk m dest) s = .next (emit (.fm via (fmCode st) []) t)) ∧
      (∀ (b : Fin 65536) (f : Bool) (m : Fin 4), ∃ (t : State) (st : Status),
        exec (.blockRelease .manager b f m) s = .next (emit (.answer st none) t) ∧
        exec (.fmApiInitiateDcRelease via b f m) s = .next (emit (.fm via (fmCode st) []) t)) ∧
      (∀ (p : Fin 128) (k : Fin 65536) (d : Nat),
        let gone := roleOf s p.val ≠ 2 ∨ s.val o2020_03 [pP p.val] = 0 ∨ (k.val / 256 ≤ 0x54 ∧ (Tbl.look {} s.devs p.val : DevInfo).lds.val = 0)
        (k.val / 256 < 0x53 ∨ 0x56 < k.val / 256 → exec (.fmApiTunnel via p k d) s = .next (emit (.fm via 2 []) s)) ∧
        (0x53 ≤ k.val / 256 → k.val / 256 ≤ 0x56 → gone → exec (.fmApiTunnel via p k d) s = .next (emit (.fm via 4 []) s)) ∧
        (0x53 ≤ k.val / 256 → k.val / 256 ≤ 0x56 → ¬ gone →
          exec (.fmApiTunnel via p k d) s = .next (emit (.fm via 0 []) (emit (.tunnel p.val k.val d) s)))))

/-- Loads, stores, fences, LR, SC and AMO of an engine return their values, write their bytes, or trap. An engine that does not run or has
an access under way starts none. Else, with no engine's store, access, hold or drain under way: a load of determined own local memory
or of spine SRAM answered, in service and allowed by Frisket returns the bytes and changes none; refused or isolated it traps 5;
unanswered it waits; above 48 bits it traps 5, across a line in own memory 4. A store to own memory writes exactly its bytes; to SRAM
it enters the store buffer, or drains: Normal into an open merge line, Strict into a line that goes out, refused it is dropped and
SFINFO is valid. FENCE returns. LR reserves the 128-byte granule and returns the value; SC on it writes and returns 0, else writes
nothing and returns 1 (log entry 102); AMO returns the old value and writes the result. -/
def Obligations.EngineAccessesCompleteOrTrap : Prop :=
  (∀ (c : Fin 192) (a : Nat) (s : State), engineReady s c.val = false →
      exec (.engineFence c) s = .next s ∧ (∀ z b, exec (.engineLoad c a z b) s = .next s) ∧ (∀ z v b, exec (.engineStore c a z v b) s = .next s) ∧
      (∀ w b, exec (.engineLr c a w b) s = .next s) ∧ (∀ w v b, exec (.engineSc c a w v b) s = .next s) ∧
      (∀ op w v b, exec (.engineAmo c op a w v b) s = .next s)) ∧
  (∀ (c : Fin 192) (a : Nat) (s : State), engineReady s c.val = true → NetQuiet s →
      let own := 0x10000000000 + 0x20000 * c.val + a
      let gives := fun (t : State) (v : Option Nat) => t.out = s.out ++ [Output.engine c.val v] ∧ t.store = s.store ∧ ∀ d : Fin 192, (engOf t d.val).wait = none
      let traps := fun (t : State) (k : Nat) => t.out = s.out ++ [Output.trap c.val k a] ∧ t.mem = s.mem ∧ (engOf t c.val).mcause = k ∧
        (engOf t c.val).mtval = a ∧ (engOf t c.val).resv = none ∧ (engOf t c.val).wait = none
      (∃ t, exec (.engineFence c) s = .next t ∧ gives t none ∧ t.mem = s.mem) ∧
      (∀ (z : Fin 4) (b : Bool), let n := 2 ^ z.val
        (2 ^ 48 ≤ a → ∃ t, exec (.engineLoad c a z b) s = .next t ∧ traps t 5) ∧
        (a + n ≤ 0x18000 → accessType s c.val a = 0 → 64 < a % 64 + n → ∃ t, exec (.engineLoad c a z b) s = .next t ∧ traps t 4) ∧
        (a + n ≤ 0x18000 → accessType s c.val a = 0 → a % 64 + n ≤ 64 → (engOf s c.val).undet = false →
          ∃ t, exec (.engineLoad c a z b) s = .next t ∧ gives t (some (memRead s.mem own n)) ∧ t.mem = s.mem ∧
            ∀ d : Fin 192, engOf t d.val = engOf s d.val) ∧
        (∀ tg, SramAt a tg → a % n = 0 → (entryCheck c.val a n false s).1 = false → ∃ t, exec (.engineLoad c a z b) s = .next t ∧ traps t 5) ∧
        (∀ tg, SramAt a tg → a % n = 0 → (entryCheck c.val a n false s).1 = true → targetState s tg ≠ 0 →
          ∃ t, exec (.engineLoad c a z b) s = .next t ∧ traps t 5 ∧ ObjsKept s t [(o7030_03, [pNT tg])]) ∧
        (∀ tg, SramAt a tg → a % n = 0 → (entryCheck c.val a n false s).1 = true → targetState s tg = 0 → b = true →
          ∃ t, exec (.engineLoad c a z b) s = .next t ∧ gives t (some (memRead s.mem a n)) ∧ t.mem = s.mem ∧
            ∀ d : Fin 192, engOf t d.val = engOf s d.val) ∧
        (∀ tg, SramAt a tg → a % n = 0 → (entryCheck c.val a n false s).1 = true → targetState s tg = 0 → b = false →
          ∃ t, exec (.engineLoad c a z b) s = .next t ∧ t.out = s.out ∧ t.mem = s.mem ∧ t.store = s.store ∧
            (engOf t c.val).wait.bind (·.out) = some s.clk.now)) ∧
      (∀ (z : Fin 4) (v : Nat) (stay : Bool), let n := 2 ^ z.val
        (2 ^ 48 ≤ a → ∃ t, exec (.engineStore c a z v stay) s = .next t ∧ traps t 7) ∧
        (a + n ≤ 0x18000 → accessType s c.val a = 0 → a % 64 + n ≤ 64 →
          ∃ t, exec (.engineStore c a z v stay) s = .next t ∧ gives t none ∧ memRead t.mem own n = v % 256 ^ n ∧ MemKept s t own n) ∧
        (∀ tg, SramAt a tg → a % n = 0 → stay = true →
          ∃ t, exec (.engineStore c a z v stay) s = .next t ∧ gives t none ∧ t.mem = s.mem ∧
            (engOf t c.val).sb = [⟨a, n, v % 256 ^ n, (regionOf s c.val a).getD 2⟩]) ∧
        (∀ tg, SramAt a tg → a % n = 0 → stay = false → (entryCheck c.val a n true s).1 = false →
          ∃ t, exec (.engineStore c a z v stay) s = .next t ∧ t.mem = s.mem ∧ bit (engOf t c.val).sfinfo 63 = true ∧
            mergeOf t (c.val / 16) = [] ∧ (engOf t c.val).sb = [] ∧ .engine c.val none ∈ t.out) ∧
        (∀ tg, SramAt a tg → a % n = 0 → stay = false → (entryCheck c.val a n true s).1 = true →
          ∃ t, exec (.engineStore c a z v stay) s = .next t ∧ gives t none ∧ t.mem = s.mem ∧ (engOf t c.val).sb = [] ∧
            ∃ l, mergeOf t (c.val / 16) = [l] ∧ lineWrites l = [(a, n, v % 256 ^ n)] ∧ l.engs = [c.val] ∧ l.target = tg ∧
              (regionOf s c.val a = some 0 → l.closed = false ∧ l.issued = none) ∧ (regionOf s c.val a = none → l.issued = some s.clk.now))) ∧
      (∀ (w b : Bool) (v : Nat) (op : AmoOp), let n := if w then 8 else 4
        let g := a / 128
        let old := memRead s.mem a n
        let may := fun (tg : Nat) (x : Bool) => SramAt a tg ∧ (regionOf s c.val a).any (· < 2) = true ∧ a % n = 0 ∧ b = true ∧ targetState s tg = 0 ∧
          (entryCheck c.val a n x s).1 = true
        (a + n ≤ 0x18000 → a % n = 0 → (∃ t, exec (.engineLr c a w b) s = .next t ∧ traps t 5) ∧
          (∃ t, exec (.engineSc c a w v b) s = .next t ∧ traps t 7) ∧ (∃ t, exec (.engineAmo c op a w v b) s = .next t ∧ traps t 7)) ∧
        (a < 0x18000 → a % n ≠ 0 → (∃ t, exec (.engineLr c a w b) s = .next t ∧ traps t 4) ∧
          (∃ t, exec (.engineSc c a w v b) s = .next t ∧ traps t 6) ∧ (∃ t, exec (.engineAmo c op a w v b) s = .next t ∧ traps t 6)) ∧
        (∀ tg, may tg false → (engOf s c.val).failed ≠ some g → ∃ t, exec (.engineLr c a w b) s = .next t ∧ gives t (some old) ∧ t.mem = s.mem ∧
          (engOf t c.val).resv = some g ∧ t.net.holds = []) ∧
        (∀ tg, may tg false → (engOf s c.val).failed = some g → ∃ t, exec (.engineLr c a w b) s = .next t ∧ gives t (some old) ∧ t.mem = s.mem ∧
          (engOf t c.val).resv = some g ∧ (engOf t c.val).failed = none ∧
          Tbl.look none t.net.holds g = some { eng := some c.val, since := s.clk.now }) ∧
        (∀ tg, may tg true → (engOf s c.val).resv = some g → ∃ t, exec (.engineSc c a w v b) s = .next t ∧ gives t (some 0) ∧
          memRead t.mem a n = v % 256 ^ n ∧ MemKept s t a n ∧ (engOf t c.val).resv = none) ∧
        (∀ tg, may tg true → (engOf s c.val).resv ≠ some g → ∃ t, exec (.engineSc c a w v b) s = .next t ∧ gives t (some 1) ∧ t.mem = s.mem ∧
          (engOf t c.val).resv = none ∧ (engOf t c.val).failed = some g) ∧
        (∀ tg, may tg true → ∃ t, exec (.engineAmo c op a w v b) s = .next t ∧ gives t (some old) ∧ MemKept s t a n ∧
          memRead t.mem a n = amoResult op (8 * n) old (v % 256 ^ n) ∧ (op = .add → memRead t.mem a n = (old + v) % 256 ^ n) ∧
          (op = .swap → memRead t.mem a n = v % 256 ^ n) ∧ ∀ d : Fin 192, (engOf s d.val).resv = some g → (engOf t d.val).resv = none)))

/-- Merge lines close, are answered and fail, holds end, dead targets are isolated, and debug accesses report. MERGE_LINE_TIMEOUT with the
youngest line open closes it 64 ns after it opened and it goes out, else nothing. MERGE_LINE_RESPONSE of an issued line writes exactly
its bytes, or with its target out of service drops it with SFINFO valid in each engine; with no issued line nothing.
RESERVATION_HOLD_EXPIRY ends a hold 128 ns after it began and serves the writes that waited. NET_TARGET_TIMEOUT of a target in service
with a load out to it: 2 us after it went out the target is ISOLATED, a notice and a fault go out, and the engine traps 5. DBG_ACCESS
with the port reachable and not in stop-press shifts the last word out and logs the first session; a read or a write of SRAM ends with
STATUS 2, refused 3, unanswered or with the dies in reset 4, misaligned or unmapped or of the reserved OP 5. Log entries 104 and 157
name the model's choices. -/
def Obligations.LinesHoldsTargetsAndDebugAccesses : Prop :=
  (∀ (k : Fin 12) (s : State), s.net.holds = [] → s.net.drainAt = [] → s.host.bells = [] →
      (∀ e ∈ s.net.eng, e.2.sb = [] ∧ e.2.wait = none ∧ e.2.halting = false) →
      ((mergeOf s k.val).getLast?.any (fun l => !l.closed) = false → exec (.mergeLineTimeout k) s = .next s) ∧
      ((mergeOf s k.val).head?.any (fun l => l.issued.isSome) = false → exec (.mergeLineResponse k) s = .next s) ∧
      (∀ l, s.net.merge = [(k.val, [l])] → lineAper l = false →
        (l.closed = false → l.issued = none → ∃ t, exec (.mergeLineTimeout k) s = .next t ∧ t.clk.now = max s.clk.now (l.since + 256) ∧
          mergeOf t k.val = [{ l with closed := true, issued := some t.clk.now }] ∧ t.mem = s.mem ∧ t.store = s.store ∧ t.out = s.out) ∧
        (l.issued.isSome = true → targetState s l.target ≠ 0 → ∃ t, exec (.mergeLineResponse k) s = .next t ∧ mergeOf t k.val = [] ∧ t.mem = s.mem ∧
          (∀ c ∈ l.engs, bit (engOf t c).sfinfo 63 = true ∧ (bit (engOf s c).sfinfo 63 = false → l.engs = [c] → (engOf t c).sfaddr = lineAddr l % 2 ^ 48))) ∧
        (∀ x off, l.issued.isSome = true → targetState s l.target = 0 → l.own = some x → placeOf x.addr = some (.sram off) → x.len = 8 → x.addr % 8 = 0 →
          ∃ t, exec (.mergeLineResponse k) s = .next t ∧ mergeOf t k.val = [] ∧ memRead t.mem x.addr 8 = x.data % 256 ^ 8 ∧
            MemKept s t x.addr 8 ∧ t.store = s.store ∧ t.out = s.out) ∧
        (∀ o d off, l.issued.isSome = true → targetState s l.target = 0 → l.own = none → l.bytes = [(o, some d)] → o < 64 → d < 256 →
          placeOf (64 * l.line + o) = some (.sram off) → ∃ t, exec (.mergeLineResponse k) s = .next t ∧ mergeOf t k.val = [] ∧
            (memByte t.mem (64 * l.line + o)).toNat = d ∧ MemKept s t (64 * l.line + o) 1 ∧ t.store = s.store ∧ t.out = s.out))) ∧
  (∀ (a : Nat) (s : State), s.net.merge = [] → s.net.drainAt = [] → s.host.bells = [] →
      (∀ e ∈ s.net.eng, e.2.sb = [] ∧ e.2.wait = none ∧ e.2.halting = false) →
      (Tbl.look none s.net.holds (a / 128) = none → exec (.reservationHoldExpiry a) s = .next s) ∧
      (∀ h, s.net.holds = [(a / 128, some h)] → h.eng.isSome = true → h.next = [] →
        ∃ t, exec (.reservationHoldExpiry a) s = .next t ∧ t.clk.now = max s.clk.now (h.since + 512) ∧ Tbl.look none t.net.holds (a / 128) = none ∧
          t.store = s.store ∧ t.out = s.out ∧ (h.writes = [] → t.mem = s.mem) ∧
          (∀ w, h.writes = [w] → ringWaits s w.2.2.2 = none → memRead t.mem w.1 w.2.1 = w.2.2.1 % 256 ^ w.2.1 ∧ MemKept s t w.1 w.2.1))) ∧
  (∀ (tg : Fin 256) (s : State), (targetState s tg.val ≠ 0 ∨ oldestTo s tg.val = none → exec (.netTargetTimeout tg) s = .next s) ∧
      (∀ (c : Fin 192) (w : EReq) (n : Nat), s.net.merge = [] → s.net.holds = [] → s.net.drainAt = [] → s.host.bells = [] →
        (∀ e ∈ s.net.eng, e.2.sb = [] ∧ e.2.halting = false ∧ (e.2.wait.isSome = true → e.1 = c.val)) → (engOf s c.val).wait = some w →
        w.acc.kind = .load → w.out = some n → w.imp = false → (placeOf (globalAddr c.val w.acc.addr)).map targetOf = some tg.val →
        targetState s tg.val = 0 → oldestTo s tg.val = some n →
        ∃ t, exec (.netTargetTimeout tg) s = .next t ∧ t.clk.now = max s.clk.now (n + 8000) ∧ targetState t tg.val = 1 ∧
          (engOf t c.val).mcause = 5 ∧ (engOf t c.val).mtval = w.acc.addr ∧ (engOf t c.val).wait = none ∧ (engOf t c.val).resv = none ∧
          .notice 1 tg.val ∈ t.out ∧ .trap c.val 5 w.acc.addr ∈ t.out ∧ t.mem = s.mem ∧ FaultSent s t (0x400 + tg.val) 0x41)) ∧
  (∀ (w : Nat) (b : Bool) (s : State), (tapOn s = false → exec (.dbgAccess w b) s = .next s) ∧
      (tapOn s = true → s.val oD000_03 [] = 3 → ∃ t, exec (.dbgAccess w b) s = .next t ∧ t.val oE000_01 [] = 0x10FF ∧ t.tap = s.tap ∧ t.mem = s.mem ∧
        FaultSent s t 0x780 0x82) ∧
      (tapOn s = true → s.val oD000_03 [] ≠ 3 → s.tap.dbgImp = none → s.net.merge = [] → s.net.holds = [] → s.net.drainAt = [] → s.host.bells = [] →
        (∀ e ∈ s.net.eng, e.2.sb = [] ∧ e.2.wait = none ∧ e.2.halting = false) →
        ∃ t, exec (.dbgAccess w b) s = .next t ∧ bits (t.val oE000_01 []) 7 0 = 0x10 ∧ t.val oE020_02 [] = 1 ∧ .tdo s.tap.dbg 128 ∈ t.out ∧
          (s.val oE020_02 [] = 0 → (∃ f ∈ t.fnet, f.source = 0x780 ∧ f.kind = 0x83) ∨ (Tbl.look {} s.fsrc 0x780).outstanding = true) ∧
          let a := bits w 127 80
          let n := 2 ^ bits w 77 76
          let op := bits w 79 78
          let may := bits s.tap.dbg 75 72 ≠ 1 ∧ (op = 1 ∨ op = 2)
          let ends := fun (st : Nat) => bits t.tap.dbg 75 72 = st
          (bits s.tap.dbg 75 72 = 1 ∨ op = 0 → t.tap = s.tap ∧ t.mem = s.mem) ∧
          (bits s.tap.dbg 75 72 ≠ 1 → op = 3 → t.tap = { s.tap with dbg := setBits s.tap.dbg 75 72 5 } ∧ t.mem = s.mem) ∧
          (may → placeOf a = none ∨ a % n ≠ 0 → ends 5 ∧ t.mem = s.mem ∧ t.val oE020_01 [] = s.val oE020_01 []) ∧
          (∀ pl, may → placeOf a = some pl → a % n = 0 → outputsDriven s = false → ends 4 ∧ t.mem = s.mem) ∧
          (∀ off, may → placeOf a = some (.sram off) → a % n = 0 → outputsDriven s = true →
            ((friskAsk ckDebug 0x1920 none 1 a n false s).1 ≠ .allow → ends 3 ∧ bits t.tap.dbg 63 0 = 2 ^ 64 - 1 ∧ t.mem = s.mem) ∧
            ((friskAsk ckDebug 0x1920 none 1 a n false s).1 = .allow → targetState s 241 ≠ 0 → ends 4 ∧ t.mem = s.mem) ∧
            ((friskAsk ckDebug 0x1920 none 1 a n false s).1 = .allow → targetState s 241 = 0 → b = false →
              ends 4 ∧ bits t.tap.dbg 63 0 = 2 ^ 64 - 1 ∧ t.mem = s.mem ∧ targetState t 241 = 1) ∧
            ((friskAsk ckDebug 0x1920 none 1 a n false s).1 = .allow → targetState s 241 = 0 → b = true → ends 2 ∧
              (op = 1 → bits t.tap.dbg 63 0 = memRead s.mem a n ∧ t.mem = s.mem) ∧
              (op = 2 → memRead t.mem a n = w % 256 ^ n ∧ MemKept s t a n)))))
end

