-- ==== Sys2Proof/Laws/Tables.lean ====
section
/-!
SUPPORT. Reading after writing a sparse table, and the canonical form that every write keeps.
-/
namespace Sys2Proof
variable {α : Type}

theorem Tbl.look_filter_ne (d : α) (t : Tbl α) (k j : Nat) (h : j ≠ k) :
    Tbl.look d (t.filter fun e => e.1 != k) j = Tbl.look d t j := by
  induction t with
  | nil => rfl
  | cons e t ih =>
    by_cases he : e.1 = k
    · have hj : ¬ e.1 = j := fun h' => h (h'.symm.trans he)
      simp [he, Tbl.look, ih, h.symm]
    · simp [he, Tbl.look, ih]

theorem Tbl.look_filter_self (d : α) (t : Tbl α) (k : Nat) :
    Tbl.look d (t.filter fun e => e.1 != k) k = d := by
  induction t with
  | nil => rfl
  | cons e t ih => by_cases he : e.1 = k <;> simp [he, Tbl.look, ih]

theorem Tbl.look_ins_other (d : α) (t : Tbl α) (k j : Nat) (v : α) (h : j ≠ k) :
    Tbl.look d (Tbl.ins k v t) j = Tbl.look d t j := by
  induction t with
  | nil => simp [Tbl.ins, Tbl.look, h.symm]
  | cons e t ih =>
    unfold Tbl.ins
    split <;> simp [Tbl.look, h.symm, ih]

theorem Tbl.look_ins_self (d : α) (t : Tbl α) (k : Nat) (v : α) (h : ∀ e ∈ t, e.1 ≠ k) :
    Tbl.look d (Tbl.ins k v t) k = v := by
  induction t with
  | nil => simp [Tbl.ins, Tbl.look]
  | cons e t ih =>
    unfold Tbl.ins
    split
    · simp [Tbl.look]
    · simp [Tbl.look, h e (by simp), ih fun x hx => h x (by simp [hx])]

/-- A write is read back. -/
@[simp] theorem Tbl.look_upd_self [DecidableEq α] (d : α) (t : Tbl α) (k : Nat) (v : α) :
    Tbl.look d (Tbl.upd d t k v) k = v := by
  unfold Tbl.upd
  split
  · rename_i h; rw [Tbl.look_filter_self, h]
  · exact Tbl.look_ins_self d _ k v (by simp)

/-- A write leaves every other key alone. -/
@[simp] theorem Tbl.look_upd_other [DecidableEq α] (d' d : α) (t : Tbl α) (k j : Nat) (v : α) (h : j ≠ k) :
    Tbl.look d' (Tbl.upd d t k v) j = Tbl.look d' t j := by
  unfold Tbl.upd
  split
  · exact Tbl.look_filter_ne d' t k j h
  · rw [Tbl.look_ins_other _ _ _ _ _ h, Tbl.look_filter_ne d' t k j h]

/-- What a write gives at any key. -/
theorem Tbl.look_upd [DecidableEq α] (d : α) (t : Tbl α) (k j : Nat) (v : α) :
    Tbl.look d (Tbl.upd d t k v) j = if j = k then v else Tbl.look d t j := by
  by_cases h : j = k
  · simp [h]
  · simp [h]

/-- The canonical form in two parts. -/
theorem Tbl.wf_iff [DecidableEq α] (d : α) (t : Tbl α) :
    Tbl.wf d t = true ↔ (t.Pairwise fun a b => a.1 < b.1) ∧ ∀ e ∈ t, e.2 ≠ d := by
  induction t with
  | nil => simp [Tbl.wf]
  | cons e t ih =>
    cases t with
    | nil => simp [Tbl.wf]
    | cons f t =>
      simp only [Tbl.wf, Bool.and_eq_true, decide_eq_true_eq, ih]
      constructor
      · rintro ⟨⟨h1, h2⟩, h3, h4⟩
        refine ⟨List.pairwise_cons.2 ⟨?_, h3⟩, ?_⟩
        · intro x hx
          rcases List.mem_cons.1 hx with rfl | hx
          · exact h2
          · exact Nat.lt_trans h2 ((List.pairwise_cons.1 h3).1 x hx)
        · intro x hx
          rcases List.mem_cons.1 hx with rfl | hx
          · exact h1
          · exact h4 x hx
      · rintro ⟨h1, h2⟩
        have hp := List.pairwise_cons.1 h1
        exact ⟨⟨h2 e (by simp), hp.1 f (by simp)⟩, hp.2, fun x hx => h2 x (List.mem_cons_of_mem _ hx)⟩

/-- Entries may be struck off a canonical table. -/
theorem Tbl.wf_filter [DecidableEq α] (d : α) (t : Tbl α) (p : Nat × α → Bool) (h : Tbl.wf d t = true) :
    Tbl.wf d (t.filter p) = true := by
  rw [Tbl.wf_iff] at *
  exact ⟨h.1.filter p, fun e he => h.2 e (List.mem_filter.1 he).1⟩

theorem Tbl.mem_ins {k : Nat} {v : α} {t : Tbl α} {e : Nat × α} : e ∈ Tbl.ins k v t → e = (k, v) ∨ e ∈ t := by
  induction t with
  | nil => simp [Tbl.ins]
  | cons f t ih =>
    unfold Tbl.ins
    split
    · simp
    · intro h
      rcases List.mem_cons.1 h with h | h
      · simp [h]
      · rcases ih h with h | h <;> simp [h]

theorem Tbl.wf_ins [DecidableEq α] (d : α) (t : Tbl α) (k : Nat) (v : α) (h : Tbl.wf d t = true) (hv : v ≠ d)
    (hk : ∀ e ∈ t, e.1 ≠ k) : Tbl.wf d (Tbl.ins k v t) = true := by
  rw [Tbl.wf_iff] at *
  obtain ⟨hp, hd⟩ := h
  refine ⟨?_, fun e he => (Tbl.mem_ins he).elim (fun h => h ▸ hv) (hd e)⟩
  clear hd
  induction t with
  | nil => simp [Tbl.ins]
  | cons f t ih =>
    have hp' := List.pairwise_cons.1 hp
    unfold Tbl.ins
    split
    · rename_i hlt
      refine List.pairwise_cons.2 ⟨fun x hx => ?_, hp⟩
      rcases List.mem_cons.1 hx with rfl | hx
      · exact hlt
      · exact Nat.lt_trans hlt (hp'.1 x hx)
    · rename_i hge
      refine List.pairwise_cons.2 ⟨fun x hx => ?_, ih (fun e he => hk e (List.mem_cons_of_mem _ he)) hp'.2⟩
      rcases Tbl.mem_ins hx with rfl | hx
      · exact Nat.lt_of_le_of_ne (Nat.not_lt.1 hge) (hk f (by simp))
      · exact hp'.1 x hx

/-- A write keeps the canonical form. -/
theorem Tbl.wf_upd [DecidableEq α] (d : α) (t : Tbl α) (k : Nat) (v : α) (h : Tbl.wf d t = true) :
    Tbl.wf d (Tbl.upd d t k v) = true := by
  unfold Tbl.upd
  split
  · exact Tbl.wf_filter d t _ h
  · exact Tbl.wf_ins d _ k v (Tbl.wf_filter d t _ h) (by assumption) (by simp)

end Sys2Proof
end

