-- ==== Sys2Proof/Laws/State.lean ====
section
/-!
SUPPORT. What the shared operations on the state leave alone, field by field, and the reading of an object after a write.
-/
namespace Sys2Proof.Machine

@[simp] theorem put_clk (o : Obj) (p : Path) (v : Nat) (s : State) : (s.put o p v).clk = s.clk := by unfold State.put; dsimp only; split <;> rfl
@[simp] theorem put_stg (o : Obj) (p : Path) (v : Nat) (s : State) : (s.put o p v).stg = s.stg := by unfold State.put; dsimp only; split <;> rfl
@[simp] theorem put_gal (o : Obj) (p : Path) (v : Nat) (s : State) : (s.put o p v).gal = s.gal := by unfold State.put; dsimp only; split <;> rfl
@[simp] theorem put_egr (o : Obj) (p : Path) (v : Nat) (s : State) : (s.put o p v).egr = s.egr := by unfold State.put; dsimp only; split <;> rfl
@[simp] theorem put_fsrc (o : Obj) (p : Path) (v : Nat) (s : State) : (s.put o p v).fsrc = s.fsrc := by unfold State.put; dsimp only; split <;> rfl
@[simp] theorem put_fnet (o : Obj) (p : Path) (v : Nat) (s : State) : (s.put o p v).fnet = s.fnet := by unfold State.put; dsimp only; split <;> rfl
@[simp] theorem put_counts (o : Obj) (p : Path) (v : Nat) (s : State) : (s.put o p v).counts = s.counts := by unfold State.put; dsimp only; split <;> rfl
@[simp] theorem put_trc (o : Obj) (p : Path) (v : Nat) (s : State) : (s.put o p v).trc = s.trc := by unfold State.put; dsimp only; split <;> rfl
@[simp] theorem put_lnk (o : Obj) (p : Path) (v : Nat) (s : State) : (s.put o p v).lnk = s.lnk := by unfold State.put; dsimp only; split <;> rfl
@[simp] theorem put_lfsr (o : Obj) (p : Path) (v : Nat) (s : State) : (s.put o p v).lfsr = s.lfsr := by unfold State.put; dsimp only; split <;> rfl
@[simp] theorem put_blocks (o : Obj) (p : Path) (v : Nat) (s : State) : (s.put o p v).blocks = s.blocks := by unfold State.put; dsimp only; split <;> rfl
@[simp] theorem put_host (o : Obj) (p : Path) (v : Nat) (s : State) : (s.put o p v).host = s.host := by unfold State.put; dsimp only; split <;> rfl
@[simp] theorem put_lane (o : Obj) (p : Path) (v : Nat) (s : State) : (s.put o p v).lane = s.lane := by unfold State.put; dsimp only; split <;> rfl
@[simp] theorem put_forme (o : Obj) (p : Path) (v : Nat) (s : State) : (s.put o p v).forme = s.forme := by unfold State.put; dsimp only; split <;> rfl
@[simp] theorem put_home (o : Obj) (p : Path) (v : Nat) (s : State) : (s.put o p v).home = s.home := by unfold State.put; dsimp only; split <;> rfl
@[simp] theorem put_dir (o : Obj) (p : Path) (v : Nat) (s : State) : (s.put o p v).dir = s.dir := by unfold State.put; dsimp only; split <;> rfl
@[simp] theorem put_pool (o : Obj) (p : Path) (v : Nat) (s : State) : (s.put o p v).pool = s.pool := by unfold State.put; dsimp only; split <;> rfl
@[simp] theorem put_frisk (o : Obj) (p : Path) (v : Nat) (s : State) : (s.put o p v).frisk = s.frisk := by unfold State.put; dsimp only; split <;> rfl
@[simp] theorem put_vcsPbr (o : Obj) (p : Path) (v : Nat) (s : State) : (s.put o p v).vcsPbr = s.vcsPbr := by unfold State.put; dsimp only; split <;> rfl
@[simp] theorem put_devs (o : Obj) (p : Path) (v : Nat) (s : State) : (s.put o p v).devs = s.devs := by unfold State.put; dsimp only; split <;> rfl
@[simp] theorem put_net (o : Obj) (p : Path) (v : Nat) (s : State) : (s.put o p v).net = s.net := by unfold State.put; dsimp only; split <;> rfl
@[simp] theorem put_plat (o : Obj) (p : Path) (v : Nat) (s : State) : (s.put o p v).plat = s.plat := by unfold State.put; dsimp only; split <;> rfl
@[simp] theorem put_slots (o : Obj) (p : Path) (v : Nat) (s : State) : (s.put o p v).slots = s.slots := by unfold State.put; dsimp only; split <;> rfl
@[simp] theorem put_prf (o : Obj) (p : Path) (v : Nat) (s : State) : (s.put o p v).prf = s.prf := by unfold State.put; dsimp only; split <;> rfl
@[simp] theorem put_pwr (o : Obj) (p : Path) (v : Nat) (s : State) : (s.put o p v).pwr = s.pwr := by unfold State.put; dsimp only; split <;> rfl
@[simp] theorem put_boot (o : Obj) (p : Path) (v : Nat) (s : State) : (s.put o p v).boot = s.boot := by unfold State.put; dsimp only; split <;> rfl
@[simp] theorem put_cnt (o : Obj) (p : Path) (v : Nat) (s : State) : (s.put o p v).cnt = s.cnt := by unfold State.put; dsimp only; split <;> rfl
@[simp] theorem put_tap (o : Obj) (p : Path) (v : Nat) (s : State) : (s.put o p v).tap = s.tap := by unfold State.put; dsimp only; split <;> rfl
@[simp] theorem put_ads (o : Obj) (p : Path) (v : Nat) (s : State) : (s.put o p v).ads = s.ads := by unfold State.put; dsimp only; split <;> rfl
@[simp] theorem put_mem (o : Obj) (p : Path) (v : Nat) (s : State) : (s.put o p v).mem = s.mem := by unfold State.put; dsimp only; split <;> rfl
@[simp] theorem put_out (o : Obj) (p : Path) (v : Nat) (s : State) : (s.put o p v).out = s.out := by unfold State.put; dsimp only; split <;> rfl
@[simp] theorem put_freeCtr (o : Obj) (p : Path) (v : Nat) (s : State) : (s.put o p v).freeCtr = s.freeCtr := by unfold State.put; dsimp only; split <;> rfl
@[simp] theorem put_pending (o : Obj) (p : Path) (v : Nat) (s : State) : (s.put o p v).pending = s.pending := by unfold State.put; dsimp only; split <;> rfl

@[simp] theorem bump_clk (o : Obj) (p : Path) (n : Nat) (s : State) : (s.bump o p n).clk = s.clk := by simp [State.bump]
@[simp] theorem bump_stg (o : Obj) (p : Path) (n : Nat) (s : State) : (s.bump o p n).stg = s.stg := by simp [State.bump]
@[simp] theorem bump_gal (o : Obj) (p : Path) (n : Nat) (s : State) : (s.bump o p n).gal = s.gal := by simp [State.bump]
@[simp] theorem bump_egr (o : Obj) (p : Path) (n : Nat) (s : State) : (s.bump o p n).egr = s.egr := by simp [State.bump]
@[simp] theorem bump_fsrc (o : Obj) (p : Path) (n : Nat) (s : State) : (s.bump o p n).fsrc = s.fsrc := by simp [State.bump]
@[simp] theorem bump_fnet (o : Obj) (p : Path) (n : Nat) (s : State) : (s.bump o p n).fnet = s.fnet := by simp [State.bump]
@[simp] theorem bump_counts (o : Obj) (p : Path) (n : Nat) (s : State) : (s.bump o p n).counts = s.counts := by simp [State.bump]
@[simp] theorem bump_trc (o : Obj) (p : Path) (n : Nat) (s : State) : (s.bump o p n).trc = s.trc := by simp [State.bump]
@[simp] theorem bump_lnk (o : Obj) (p : Path) (n : Nat) (s : State) : (s.bump o p n).lnk = s.lnk := by simp [State.bump]
@[simp] theorem bump_lfsr (o : Obj) (p : Path) (n : Nat) (s : State) : (s.bump o p n).lfsr = s.lfsr := by simp [State.bump]
@[simp] theorem bump_blocks (o : Obj) (p : Path) (n : Nat) (s : State) : (s.bump o p n).blocks = s.blocks := by simp [State.bump]
@[simp] theorem bump_host (o : Obj) (p : Path) (n : Nat) (s : State) : (s.bump o p n).host = s.host := by simp [State.bump]
@[simp] theorem bump_lane (o : Obj) (p : Path) (n : Nat) (s : State) : (s.bump o p n).lane = s.lane := by simp [State.bump]
@[simp] theorem bump_forme (o : Obj) (p : Path) (n : Nat) (s : State) : (s.bump o p n).forme = s.forme := by simp [State.bump]
@[simp] theorem bump_home (o : Obj) (p : Path) (n : Nat) (s : State) : (s.bump o p n).home = s.home := by simp [State.bump]
@[simp] theorem bump_dir (o : Obj) (p : Path) (n : Nat) (s : State) : (s.bump o p n).dir = s.dir := by simp [State.bump]
@[simp] theorem bump_pool (o : Obj) (p : Path) (n : Nat) (s : State) : (s.bump o p n).pool = s.pool := by simp [State.bump]
@[simp] theorem bump_frisk (o : Obj) (p : Path) (n : Nat) (s : State) : (s.bump o p n).frisk = s.frisk := by simp [State.bump]
@[simp] theorem bump_vcsPbr (o : Obj) (p : Path) (n : Nat) (s : State) : (s.bump o p n).vcsPbr = s.vcsPbr := by simp [State.bump]
@[simp] theorem bump_devs (o : Obj) (p : Path) (n : Nat) (s : State) : (s.bump o p n).devs = s.devs := by simp [State.bump]
@[simp] theorem bump_net (o : Obj) (p : Path) (n : Nat) (s : State) : (s.bump o p n).net = s.net := by simp [State.bump]
@[simp] theorem bump_plat (o : Obj) (p : Path) (n : Nat) (s : State) : (s.bump o p n).plat = s.plat := by simp [State.bump]
@[simp] theorem bump_slots (o : Obj) (p : Path) (n : Nat) (s : State) : (s.bump o p n).slots = s.slots := by simp [State.bump]
@[simp] theorem bump_prf (o : Obj) (p : Path) (n : Nat) (s : State) : (s.bump o p n).prf = s.prf := by simp [State.bump]
@[simp] theorem bump_pwr (o : Obj) (p : Path) (n : Nat) (s : State) : (s.bump o p n).pwr = s.pwr := by simp [State.bump]
@[simp] theorem bump_boot (o : Obj) (p : Path) (n : Nat) (s : State) : (s.bump o p n).boot = s.boot := by simp [State.bump]
@[simp] theorem bump_cnt (o : Obj) (p : Path) (n : Nat) (s : State) : (s.bump o p n).cnt = s.cnt := by simp [State.bump]
@[simp] theorem bump_tap (o : Obj) (p : Path) (n : Nat) (s : State) : (s.bump o p n).tap = s.tap := by simp [State.bump]
@[simp] theorem bump_ads (o : Obj) (p : Path) (n : Nat) (s : State) : (s.bump o p n).ads = s.ads := by simp [State.bump]
@[simp] theorem bump_mem (o : Obj) (p : Path) (n : Nat) (s : State) : (s.bump o p n).mem = s.mem := by simp [State.bump]
@[simp] theorem bump_out (o : Obj) (p : Path) (n : Nat) (s : State) : (s.bump o p n).out = s.out := by simp [State.bump]
@[simp] theorem bump_freeCtr (o : Obj) (p : Path) (n : Nat) (s : State) : (s.bump o p n).freeCtr = s.freeCtr := by simp [State.bump]
@[simp] theorem bump_pending (o : Obj) (p : Path) (n : Nat) (s : State) : (s.bump o p n).pending = s.pending := by simp [State.bump]

@[simp] theorem emit_store (x : Output) (s : State) : (emit x s).store = s.store := rfl
@[simp] theorem emit_clk (x : Output) (s : State) : (emit x s).clk = s.clk := rfl
@[simp] theorem emit_stg (x : Output) (s : State) : (emit x s).stg = s.stg := rfl
@[simp] theorem emit_gal (x : Output) (s : State) : (emit x s).gal = s.gal := rfl
@[simp] theorem emit_egr (x : Output) (s : State) : (emit x s).egr = s.egr := rfl
@[simp] theorem emit_fsrc (x : Output) (s : State) : (emit x s).fsrc = s.fsrc := rfl
@[simp] theorem emit_fnet (x : Output) (s : State) : (emit x s).fnet = s.fnet := rfl
@[simp] theorem emit_counts (x : Output) (s : State) : (emit x s).counts = s.counts := rfl
@[simp] theorem emit_trc (x : Output) (s : State) : (emit x s).trc = s.trc := rfl
@[simp] theorem emit_lnk (x : Output) (s : State) : (emit x s).lnk = s.lnk := rfl
@[simp] theorem emit_lfsr (x : Output) (s : State) : (emit x s).lfsr = s.lfsr := rfl
@[simp] theorem emit_blocks (x : Output) (s : State) : (emit x s).blocks = s.blocks := rfl
@[simp] theorem emit_host (x : Output) (s : State) : (emit x s).host = s.host := rfl
@[simp] theorem emit_lane (x : Output) (s : State) : (emit x s).lane = s.lane := rfl
@[simp] theorem emit_forme (x : Output) (s : State) : (emit x s).forme = s.forme := rfl
@[simp] theorem emit_home (x : Output) (s : State) : (emit x s).home = s.home := rfl
@[simp] theorem emit_dir (x : Output) (s : State) : (emit x s).dir = s.dir := rfl
@[simp] theorem emit_pool (x : Output) (s : State) : (emit x s).pool = s.pool := rfl
@[simp] theorem emit_frisk (x : Output) (s : State) : (emit x s).frisk = s.frisk := rfl
@[simp] theorem emit_vcsPbr (x : Output) (s : State) : (emit x s).vcsPbr = s.vcsPbr := rfl
@[simp] theorem emit_devs (x : Output) (s : State) : (emit x s).devs = s.devs := rfl
@[simp] theorem emit_net (x : Output) (s : State) : (emit x s).net = s.net := rfl
@[simp] theorem emit_plat (x : Output) (s : State) : (emit x s).plat = s.plat := rfl
@[simp] theorem emit_slots (x : Output) (s : State) : (emit x s).slots = s.slots := rfl
@[simp] theorem emit_prf (x : Output) (s : State) : (emit x s).prf = s.prf := rfl
@[simp] theorem emit_pwr (x : Output) (s : State) : (emit x s).pwr = s.pwr := rfl
@[simp] theorem emit_boot (x : Output) (s : State) : (emit x s).boot = s.boot := rfl
@[simp] theorem emit_cnt (x : Output) (s : State) : (emit x s).cnt = s.cnt := rfl
@[simp] theorem emit_tap (x : Output) (s : State) : (emit x s).tap = s.tap := rfl
@[simp] theorem emit_ads (x : Output) (s : State) : (emit x s).ads = s.ads := rfl
@[simp] theorem emit_mem (x : Output) (s : State) : (emit x s).mem = s.mem := rfl
@[simp] theorem emit_freeCtr (x : Output) (s : State) : (emit x s).freeCtr = s.freeCtr := rfl
@[simp] theorem emit_pending (x : Output) (s : State) : (emit x s).pending = s.pending := rfl

@[simp] theorem answer_store (st : Status) (v : Option Nat) (s : State) : (answer st v s).store = s.store := rfl
@[simp] theorem answer_clk (st : Status) (v : Option Nat) (s : State) : (answer st v s).clk = s.clk := rfl
@[simp] theorem answer_stg (st : Status) (v : Option Nat) (s : State) : (answer st v s).stg = s.stg := rfl
@[simp] theorem answer_gal (st : Status) (v : Option Nat) (s : State) : (answer st v s).gal = s.gal := rfl
@[simp] theorem answer_egr (st : Status) (v : Option Nat) (s : State) : (answer st v s).egr = s.egr := rfl
@[simp] theorem answer_fsrc (st : Status) (v : Option Nat) (s : State) : (answer st v s).fsrc = s.fsrc := rfl
@[simp] theorem answer_fnet (st : Status) (v : Option Nat) (s : State) : (answer st v s).fnet = s.fnet := rfl
@[simp] theorem answer_counts (st : Status) (v : Option Nat) (s : State) : (answer st v s).counts = s.counts := rfl
@[simp] theorem answer_trc (st : Status) (v : Option Nat) (s : State) : (answer st v s).trc = s.trc := rfl
@[simp] theorem answer_lnk (st : Status) (v : Option Nat) (s : State) : (answer st v s).lnk = s.lnk := rfl
@[simp] theorem answer_lfsr (st : Status) (v : Option Nat) (s : State) : (answer st v s).lfsr = s.lfsr := rfl
@[simp] theorem answer_blocks (st : Status) (v : Option Nat) (s : State) : (answer st v s).blocks = s.blocks := rfl
@[simp] theorem answer_host (st : Status) (v : Option Nat) (s : State) : (answer st v s).host = s.host := rfl
@[simp] theorem answer_lane (st : Status) (v : Option Nat) (s : State) : (answer st v s).lane = s.lane := rfl
@[simp] theorem answer_forme (st : Status) (v : Option Nat) (s : State) : (answer st v s).forme = s.forme := rfl
@[simp] theorem answer_home (st : Status) (v : Option Nat) (s : State) : (answer st v s).home = s.home := rfl
@[simp] theorem answer_dir (st : Status) (v : Option Nat) (s : State) : (answer st v s).dir = s.dir := rfl
@[simp] theorem answer_pool (st : Status) (v : Option Nat) (s : State) : (answer st v s).pool = s.pool := rfl
@[simp] theorem answer_frisk (st : Status) (v : Option Nat) (s : State) : (answer st v s).frisk = s.frisk := rfl
@[simp] theorem answer_vcsPbr (st : Status) (v : Option Nat) (s : State) : (answer st v s).vcsPbr = s.vcsPbr := rfl
@[simp] theorem answer_devs (st : Status) (v : Option Nat) (s : State) : (answer st v s).devs = s.devs := rfl
@[simp] theorem answer_net (st : Status) (v : Option Nat) (s : State) : (answer st v s).net = s.net := rfl
@[simp] theorem answer_plat (st : Status) (v : Option Nat) (s : State) : (answer st v s).plat = s.plat := rfl
@[simp] theorem answer_slots (st : Status) (v : Option Nat) (s : State) : (answer st v s).slots = s.slots := rfl
@[simp] theorem answer_prf (st : Status) (v : Option Nat) (s : State) : (answer st v s).prf = s.prf := rfl
@[simp] theorem answer_pwr (st : Status) (v : Option Nat) (s : State) : (answer st v s).pwr = s.pwr := rfl
@[simp] theorem answer_boot (st : Status) (v : Option Nat) (s : State) : (answer st v s).boot = s.boot := rfl
@[simp] theorem answer_cnt (st : Status) (v : Option Nat) (s : State) : (answer st v s).cnt = s.cnt := rfl
@[simp] theorem answer_tap (st : Status) (v : Option Nat) (s : State) : (answer st v s).tap = s.tap := rfl
@[simp] theorem answer_ads (st : Status) (v : Option Nat) (s : State) : (answer st v s).ads = s.ads := rfl
@[simp] theorem answer_mem (st : Status) (v : Option Nat) (s : State) : (answer st v s).mem = s.mem := rfl
@[simp] theorem answer_freeCtr (st : Status) (v : Option Nat) (s : State) : (answer st v s).freeCtr = s.freeCtr := rfl
@[simp] theorem answer_pending (st : Status) (v : Option Nat) (s : State) : (answer st v s).pending = s.pending := rfl

@[simp] theorem freshValue_store (s : State) : ((freshValue s).2).store = s.store := rfl
@[simp] theorem freshValue_clk (s : State) : ((freshValue s).2).clk = s.clk := rfl
@[simp] theorem freshValue_stg (s : State) : ((freshValue s).2).stg = s.stg := rfl
@[simp] theorem freshValue_gal (s : State) : ((freshValue s).2).gal = s.gal := rfl
@[simp] theorem freshValue_egr (s : State) : ((freshValue s).2).egr = s.egr := rfl
@[simp] theorem freshValue_fsrc (s : State) : ((freshValue s).2).fsrc = s.fsrc := rfl
@[simp] theorem freshValue_fnet (s : State) : ((freshValue s).2).fnet = s.fnet := rfl
@[simp] theorem freshValue_counts (s : State) : ((freshValue s).2).counts = s.counts := rfl
@[simp] theorem freshValue_trc (s : State) : ((freshValue s).2).trc = s.trc := rfl
@[simp] theorem freshValue_lnk (s : State) : ((freshValue s).2).lnk = s.lnk := rfl
@[simp] theorem freshValue_lfsr (s : State) : ((freshValue s).2).lfsr = s.lfsr := rfl
@[simp] theorem freshValue_blocks (s : State) : ((freshValue s).2).blocks = s.blocks := rfl
@[simp] theorem freshValue_host (s : State) : ((freshValue s).2).host = s.host := rfl
@[simp] theorem freshValue_lane (s : State) : ((freshValue s).2).lane = s.lane := rfl
@[simp] theorem freshValue_forme (s : State) : ((freshValue s).2).forme = s.forme := rfl
@[simp] theorem freshValue_home (s : State) : ((freshValue s).2).home = s.home := rfl
@[simp] theorem freshValue_dir (s : State) : ((freshValue s).2).dir = s.dir := rfl
@[simp] theorem freshValue_pool (s : State) : ((freshValue s).2).pool = s.pool := rfl
@[simp] theorem freshValue_frisk (s : State) : ((freshValue s).2).frisk = s.frisk := rfl
@[simp] theorem freshValue_vcsPbr (s : State) : ((freshValue s).2).vcsPbr = s.vcsPbr := rfl
@[simp] theorem freshValue_devs (s : State) : ((freshValue s).2).devs = s.devs := rfl
@[simp] theorem freshValue_net (s : State) : ((freshValue s).2).net = s.net := rfl
@[simp] theorem freshValue_plat (s : State) : ((freshValue s).2).plat = s.plat := rfl
@[simp] theorem freshValue_slots (s : State) : ((freshValue s).2).slots = s.slots := rfl
@[simp] theorem freshValue_prf (s : State) : ((freshValue s).2).prf = s.prf := rfl
@[simp] theorem freshValue_pwr (s : State) : ((freshValue s).2).pwr = s.pwr := rfl
@[simp] theorem freshValue_boot (s : State) : ((freshValue s).2).boot = s.boot := rfl
@[simp] theorem freshValue_cnt (s : State) : ((freshValue s).2).cnt = s.cnt := rfl
@[simp] theorem freshValue_tap (s : State) : ((freshValue s).2).tap = s.tap := rfl
@[simp] theorem freshValue_ads (s : State) : ((freshValue s).2).ads = s.ads := rfl
@[simp] theorem freshValue_mem (s : State) : ((freshValue s).2).mem = s.mem := rfl
@[simp] theorem freshValue_out (s : State) : ((freshValue s).2).out = s.out := rfl
@[simp] theorem freshValue_pending (s : State) : ((freshValue s).2).pending = s.pending := rfl

@[simp] theorem advance_store (dt : Nat) (s : State) : (advance dt s).store = s.store := rfl
@[simp] theorem advance_stg (dt : Nat) (s : State) : (advance dt s).stg = s.stg := rfl
@[simp] theorem advance_gal (dt : Nat) (s : State) : (advance dt s).gal = s.gal := rfl
@[simp] theorem advance_egr (dt : Nat) (s : State) : (advance dt s).egr = s.egr := rfl
@[simp] theorem advance_fsrc (dt : Nat) (s : State) : (advance dt s).fsrc = s.fsrc := rfl
@[simp] theorem advance_fnet (dt : Nat) (s : State) : (advance dt s).fnet = s.fnet := rfl
@[simp] theorem advance_counts (dt : Nat) (s : State) : (advance dt s).counts = s.counts := rfl
@[simp] theorem advance_trc (dt : Nat) (s : State) : (advance dt s).trc = s.trc := rfl
@[simp] theorem advance_lnk (dt : Nat) (s : State) : (advance dt s).lnk = s.lnk := rfl
@[simp] theorem advance_lfsr (dt : Nat) (s : State) : (advance dt s).lfsr = s.lfsr := rfl
@[simp] theorem advance_blocks (dt : Nat) (s : State) : (advance dt s).blocks = s.blocks := rfl
@[simp] theorem advance_host (dt : Nat) (s : State) : (advance dt s).host = s.host := rfl
@[simp] theorem advance_lane (dt : Nat) (s : State) : (advance dt s).lane = s.lane := rfl
@[simp] theorem advance_forme (dt : Nat) (s : State) : (advance dt s).forme = s.forme := rfl
@[simp] theorem advance_home (dt : Nat) (s : State) : (advance dt s).home = s.home := rfl
@[simp] theorem advance_dir (dt : Nat) (s : State) : (advance dt s).dir = s.dir := rfl
@[simp] theorem advance_pool (dt : Nat) (s : State) : (advance dt s).pool = s.pool := rfl
@[simp] theorem advance_frisk (dt : Nat) (s : State) : (advance dt s).frisk = s.frisk := rfl
@[simp] theorem advance_vcsPbr (dt : Nat) (s : State) : (advance dt s).vcsPbr = s.vcsPbr := rfl
@[simp] theorem advance_devs (dt : Nat) (s : State) : (advance dt s).devs = s.devs := rfl
@[simp] theorem advance_net (dt : Nat) (s : State) : (advance dt s).net = s.net := rfl
@[simp] theorem advance_plat (dt : Nat) (s : State) : (advance dt s).plat = s.plat := rfl
@[simp] theorem advance_slots (dt : Nat) (s : State) : (advance dt s).slots = s.slots := rfl
@[simp] theorem advance_prf (dt : Nat) (s : State) : (advance dt s).prf = s.prf := rfl
@[simp] theorem advance_pwr (dt : Nat) (s : State) : (advance dt s).pwr = s.pwr := rfl
@[simp] theorem advance_boot (dt : Nat) (s : State) : (advance dt s).boot = s.boot := rfl
@[simp] theorem advance_cnt (dt : Nat) (s : State) : (advance dt s).cnt = s.cnt := rfl
@[simp] theorem advance_tap (dt : Nat) (s : State) : (advance dt s).tap = s.tap := rfl
@[simp] theorem advance_ads (dt : Nat) (s : State) : (advance dt s).ads = s.ads := rfl
@[simp] theorem advance_mem (dt : Nat) (s : State) : (advance dt s).mem = s.mem := rfl
@[simp] theorem advance_out (dt : Nat) (s : State) : (advance dt s).out = s.out := rfl
@[simp] theorem advance_freeCtr (dt : Nat) (s : State) : (advance dt s).freeCtr = s.freeCtr := rfl
@[simp] theorem advance_pending (dt : Nat) (s : State) : (advance dt s).pending = s.pending := rfl

@[simp] theorem advanceTo_store (t : Nat) (s : State) : (advanceTo t s).store = s.store := by unfold advanceTo; split <;> rfl
@[simp] theorem advanceTo_stg (t : Nat) (s : State) : (advanceTo t s).stg = s.stg := by unfold advanceTo; split <;> rfl
@[simp] theorem advanceTo_gal (t : Nat) (s : State) : (advanceTo t s).gal = s.gal := by unfold advanceTo; split <;> rfl
@[simp] theorem advanceTo_egr (t : Nat) (s : State) : (advanceTo t s).egr = s.egr := by unfold advanceTo; split <;> rfl
@[simp] theorem advanceTo_fsrc (t : Nat) (s : State) : (advanceTo t s).fsrc = s.fsrc := by unfold advanceTo; split <;> rfl
@[simp] theorem advanceTo_fnet (t : Nat) (s : State) : (advanceTo t s).fnet = s.fnet := by unfold advanceTo; split <;> rfl
@[simp] theorem advanceTo_counts (t : Nat) (s : State) : (advanceTo t s).counts = s.counts := by unfold advanceTo; split <;> rfl
@[simp] theorem advanceTo_trc (t : Nat) (s : State) : (advanceTo t s).trc = s.trc := by unfold advanceTo; split <;> rfl
@[simp] theorem advanceTo_lnk (t : Nat) (s : State) : (advanceTo t s).lnk = s.lnk := by unfold advanceTo; split <;> rfl
@[simp] theorem advanceTo_lfsr (t : Nat) (s : State) : (advanceTo t s).lfsr = s.lfsr := by unfold advanceTo; split <;> rfl
@[simp] theorem advanceTo_blocks (t : Nat) (s : State) : (advanceTo t s).blocks = s.blocks := by unfold advanceTo; split <;> rfl
@[simp] theorem advanceTo_host (t : Nat) (s : State) : (advanceTo t s).host = s.host := by unfold advanceTo; split <;> rfl
@[simp] theorem advanceTo_lane (t : Nat) (s : State) : (advanceTo t s).lane = s.lane := by unfold advanceTo; split <;> rfl
@[simp] theorem advanceTo_forme (t : Nat) (s : State) : (advanceTo t s).forme = s.forme := by unfold advanceTo; split <;> rfl
@[simp] theorem advanceTo_home (t : Nat) (s : State) : (advanceTo t s).home = s.home := by unfold advanceTo; split <;> rfl
@[simp] theorem advanceTo_dir (t : Nat) (s : State) : (advanceTo t s).dir = s.dir := by unfold advanceTo; split <;> rfl
@[simp] theorem advanceTo_pool (t : Nat) (s : State) : (advanceTo t s).pool = s.pool := by unfold advanceTo; split <;> rfl
@[simp] theorem advanceTo_frisk (t : Nat) (s : State) : (advanceTo t s).frisk = s.frisk := by unfold advanceTo; split <;> rfl
@[simp] theorem advanceTo_vcsPbr (t : Nat) (s : State) : (advanceTo t s).vcsPbr = s.vcsPbr := by unfold advanceTo; split <;> rfl
@[simp] theorem advanceTo_devs (t : Nat) (s : State) : (advanceTo t s).devs = s.devs := by unfold advanceTo; split <;> rfl
@[simp] theorem advanceTo_net (t : Nat) (s : State) : (advanceTo t s).net = s.net := by unfold advanceTo; split <;> rfl
@[simp] theorem advanceTo_plat (t : Nat) (s : State) : (advanceTo t s).plat = s.plat := by unfold advanceTo; split <;> rfl
@[simp] theorem advanceTo_slots (t : Nat) (s : State) : (advanceTo t s).slots = s.slots := by unfold advanceTo; split <;> rfl
@[simp] theorem advanceTo_prf (t : Nat) (s : State) : (advanceTo t s).prf = s.prf := by unfold advanceTo; split <;> rfl
@[simp] theorem advanceTo_pwr (t : Nat) (s : State) : (advanceTo t s).pwr = s.pwr := by unfold advanceTo; split <;> rfl
@[simp] theorem advanceTo_boot (t : Nat) (s : State) : (advanceTo t s).boot = s.boot := by unfold advanceTo; split <;> rfl
@[simp] theorem advanceTo_cnt (t : Nat) (s : State) : (advanceTo t s).cnt = s.cnt := by unfold advanceTo; split <;> rfl
@[simp] theorem advanceTo_tap (t : Nat) (s : State) : (advanceTo t s).tap = s.tap := by unfold advanceTo; split <;> rfl
@[simp] theorem advanceTo_ads (t : Nat) (s : State) : (advanceTo t s).ads = s.ads := by unfold advanceTo; split <;> rfl
@[simp] theorem advanceTo_mem (t : Nat) (s : State) : (advanceTo t s).mem = s.mem := by unfold advanceTo; split <;> rfl
@[simp] theorem advanceTo_out (t : Nat) (s : State) : (advanceTo t s).out = s.out := by unfold advanceTo; split <;> rfl
@[simp] theorem advanceTo_freeCtr (t : Nat) (s : State) : (advanceTo t s).freeCtr = s.freeCtr := by unfold advanceTo; split <;> rfl
@[simp] theorem advanceTo_pending (t : Nat) (s : State) : (advanceTo t s).pending = s.pending := by unfold advanceTo; split <;> rfl

@[simp] theorem raiseFault_store (a k c : Nat) (s : State) : (raiseFault a k c s).store = s.store := by unfold raiseFault; dsimp only; (repeat' split) <;> rfl
@[simp] theorem raiseFault_clk (a k c : Nat) (s : State) : (raiseFault a k c s).clk = s.clk := by unfold raiseFault; dsimp only; (repeat' split) <;> rfl
@[simp] theorem raiseFault_stg (a k c : Nat) (s : State) : (raiseFault a k c s).stg = s.stg := by unfold raiseFault; dsimp only; (repeat' split) <;> rfl
@[simp] theorem raiseFault_gal (a k c : Nat) (s : State) : (raiseFault a k c s).gal = s.gal := by unfold raiseFault; dsimp only; (repeat' split) <;> rfl
@[simp] theorem raiseFault_egr (a k c : Nat) (s : State) : (raiseFault a k c s).egr = s.egr := by unfold raiseFault; dsimp only; (repeat' split) <;> rfl
@[simp] theorem raiseFault_counts (a k c : Nat) (s : State) : (raiseFault a k c s).counts = s.counts := by unfold raiseFault; dsimp only; (repeat' split) <;> rfl
@[simp] theorem raiseFault_trc (a k c : Nat) (s : State) : (raiseFault a k c s).trc = s.trc := by unfold raiseFault; dsimp only; (repeat' split) <;> rfl
@[simp] theorem raiseFault_lnk (a k c : Nat) (s : State) : (raiseFault a k c s).lnk = s.lnk := by unfold raiseFault; dsimp only; (repeat' split) <;> rfl
@[simp] theorem raiseFault_lfsr (a k c : Nat) (s : State) : (raiseFault a k c s).lfsr = s.lfsr := by unfold raiseFault; dsimp only; (repeat' split) <;> rfl
@[simp] theorem raiseFault_blocks (a k c : Nat) (s : State) : (raiseFault a k c s).blocks = s.blocks := by unfold raiseFault; dsimp only; (repeat' split) <;> rfl
@[simp] theorem raiseFault_host (a k c : Nat) (s : State) : (raiseFault a k c s).host = s.host := by unfold raiseFault; dsimp only; (repeat' split) <;> rfl
@[simp] theorem raiseFault_lane (a k c : Nat) (s : State) : (raiseFault a k c s).lane = s.lane := by unfold raiseFault; dsimp only; (repeat' split) <;> rfl
@[simp] theorem raiseFault_forme (a k c : Nat) (s : State) : (raiseFault a k c s).forme = s.forme := by unfold raiseFault; dsimp only; (repeat' split) <;> rfl
@[simp] theorem raiseFault_home (a k c : Nat) (s : State) : (raiseFault a k c s).home = s.home := by unfold raiseFault; dsimp only; (repeat' split) <;> rfl
@[simp] theorem raiseFault_dir (a k c : Nat) (s : State) : (raiseFault a k c s).dir = s.dir := by unfold raiseFault; dsimp only; (repeat' split) <;> rfl
@[simp] theorem raiseFault_pool (a k c : Nat) (s : State) : (raiseFault a k c s).pool = s.pool := by unfold raiseFault; dsimp only; (repeat' split) <;> rfl
@[simp] theorem raiseFault_frisk (a k c : Nat) (s : State) : (raiseFault a k c s).frisk = s.frisk := by unfold raiseFault; dsimp only; (repeat' split) <;> rfl
@[simp] theorem raiseFault_vcsPbr (a k c : Nat) (s : State) : (raiseFault a k c s).vcsPbr = s.vcsPbr := by unfold raiseFault; dsimp only; (repeat' split) <;> rfl
@[simp] theorem raiseFault_devs (a k c : Nat) (s : State) : (raiseFault a k c s).devs = s.devs := by unfold raiseFault; dsimp only; (repeat' split) <;> rfl
@[simp] theorem raiseFault_net (a k c : Nat) (s : State) : (raiseFault a k c s).net = s.net := by unfold raiseFault; dsimp only; (repeat' split) <;> rfl
@[simp] theorem raiseFault_plat (a k c : Nat) (s : State) : (raiseFault a k c s).plat = s.plat := by unfold raiseFault; dsimp only; (repeat' split) <;> rfl
@[simp] theorem raiseFault_slots (a k c : Nat) (s : State) : (raiseFault a k c s).slots = s.slots := by unfold raiseFault; dsimp only; (repeat' split) <;> rfl
@[simp] theorem raiseFault_prf (a k c : Nat) (s : State) : (raiseFault a k c s).prf = s.prf := by unfold raiseFault; dsimp only; (repeat' split) <;> rfl
@[simp] theorem raiseFault_pwr (a k c : Nat) (s : State) : (raiseFault a k c s).pwr = s.pwr := by unfold raiseFault; dsimp only; (repeat' split) <;> rfl
@[simp] theorem raiseFault_boot (a k c : Nat) (s : State) : (raiseFault a k c s).boot = s.boot := by unfold raiseFault; dsimp only; (repeat' split) <;> rfl
@[simp] theorem raiseFault_cnt (a k c : Nat) (s : State) : (raiseFault a k c s).cnt = s.cnt := by unfold raiseFault; dsimp only; (repeat' split) <;> rfl
@[simp] theorem raiseFault_tap (a k c : Nat) (s : State) : (raiseFault a k c s).tap = s.tap := by unfold raiseFault; dsimp only; (repeat' split) <;> rfl
@[simp] theorem raiseFault_ads (a k c : Nat) (s : State) : (raiseFault a k c s).ads = s.ads := by unfold raiseFault; dsimp only; (repeat' split) <;> rfl
@[simp] theorem raiseFault_mem (a k c : Nat) (s : State) : (raiseFault a k c s).mem = s.mem := by unfold raiseFault; dsimp only; (repeat' split) <;> rfl
@[simp] theorem raiseFault_out (a k c : Nat) (s : State) : (raiseFault a k c s).out = s.out := by unfold raiseFault; dsimp only; (repeat' split) <;> rfl
@[simp] theorem raiseFault_freeCtr (a k c : Nat) (s : State) : (raiseFault a k c s).freeCtr = s.freeCtr := by unfold raiseFault; dsimp only; (repeat' split) <;> rfl
@[simp] theorem raiseFault_pending (a k c : Nat) (s : State) : (raiseFault a k c s).pending = s.pending := by unfold raiseFault; dsimp only; (repeat' split) <;> rfl

@[simp] theorem countEvent_store (ct : Nat) (a : EvAttr) (w : Nat) (s : State) : (countEvent ct a w s).store = s.store := by unfold countEvent; split <;> rfl
@[simp] theorem countEvent_clk (ct : Nat) (a : EvAttr) (w : Nat) (s : State) : (countEvent ct a w s).clk = s.clk := by unfold countEvent; split <;> rfl
@[simp] theorem countEvent_stg (ct : Nat) (a : EvAttr) (w : Nat) (s : State) : (countEvent ct a w s).stg = s.stg := by unfold countEvent; split <;> rfl
@[simp] theorem countEvent_gal (ct : Nat) (a : EvAttr) (w : Nat) (s : State) : (countEvent ct a w s).gal = s.gal := by unfold countEvent; split <;> rfl
@[simp] theorem countEvent_egr (ct : Nat) (a : EvAttr) (w : Nat) (s : State) : (countEvent ct a w s).egr = s.egr := by unfold countEvent; split <;> rfl
@[simp] theorem countEvent_fsrc (ct : Nat) (a : EvAttr) (w : Nat) (s : State) : (countEvent ct a w s).fsrc = s.fsrc := by unfold countEvent; split <;> rfl
@[simp] theorem countEvent_fnet (ct : Nat) (a : EvAttr) (w : Nat) (s : State) : (countEvent ct a w s).fnet = s.fnet := by unfold countEvent; split <;> rfl
@[simp] theorem countEvent_trc (ct : Nat) (a : EvAttr) (w : Nat) (s : State) : (countEvent ct a w s).trc = s.trc := by unfold countEvent; split <;> rfl
@[simp] theorem countEvent_lnk (ct : Nat) (a : EvAttr) (w : Nat) (s : State) : (countEvent ct a w s).lnk = s.lnk := by unfold countEvent; split <;> rfl
@[simp] theorem countEvent_lfsr (ct : Nat) (a : EvAttr) (w : Nat) (s : State) : (countEvent ct a w s).lfsr = s.lfsr := by unfold countEvent; split <;> rfl
@[simp] theorem countEvent_blocks (ct : Nat) (a : EvAttr) (w : Nat) (s : State) : (countEvent ct a w s).blocks = s.blocks := by unfold countEvent; split <;> rfl
@[simp] theorem countEvent_host (ct : Nat) (a : EvAttr) (w : Nat) (s : State) : (countEvent ct a w s).host = s.host := by unfold countEvent; split <;> rfl
@[simp] theorem countEvent_lane (ct : Nat) (a : EvAttr) (w : Nat) (s : State) : (countEvent ct a w s).lane = s.lane := by unfold countEvent; split <;> rfl
@[simp] theorem countEvent_forme (ct : Nat) (a : EvAttr) (w : Nat) (s : State) : (countEvent ct a w s).forme = s.forme := by unfold countEvent; split <;> rfl
@[simp] theorem countEvent_home (ct : Nat) (a : EvAttr) (w : Nat) (s : State) : (countEvent ct a w s).home = s.home := by unfold countEvent; split <;> rfl
@[simp] theorem countEvent_dir (ct : Nat) (a : EvAttr) (w : Nat) (s : State) : (countEvent ct a w s).dir = s.dir := by unfold countEvent; split <;> rfl
@[simp] theorem countEvent_pool (ct : Nat) (a : EvAttr) (w : Nat) (s : State) : (countEvent ct a w s).pool = s.pool := by unfold countEvent; split <;> rfl
@[simp] theorem countEvent_frisk (ct : Nat) (a : EvAttr) (w : Nat) (s : State) : (countEvent ct a w s).frisk = s.frisk := by unfold countEvent; split <;> rfl
@[simp] theorem countEvent_vcsPbr (ct : Nat) (a : EvAttr) (w : Nat) (s : State) : (countEvent ct a w s).vcsPbr = s.vcsPbr := by unfold countEvent; split <;> rfl
@[simp] theorem countEvent_devs (ct : Nat) (a : EvAttr) (w : Nat) (s : State) : (countEvent ct a w s).devs = s.devs := by unfold countEvent; split <;> rfl
@[simp] theorem countEvent_net (ct : Nat) (a : EvAttr) (w : Nat) (s : State) : (countEvent ct a w s).net = s.net := by unfold countEvent; split <;> rfl
@[simp] theorem countEvent_plat (ct : Nat) (a : EvAttr) (w : Nat) (s : State) : (countEvent ct a w s).plat = s.plat := by unfold countEvent; split <;> rfl
@[simp] theorem countEvent_slots (ct : Nat) (a : EvAttr) (w : Nat) (s : State) : (countEvent ct a w s).slots = s.slots := by unfold countEvent; split <;> rfl
@[simp] theorem countEvent_prf (ct : Nat) (a : EvAttr) (w : Nat) (s : State) : (countEvent ct a w s).prf = s.prf := by unfold countEvent; split <;> rfl
@[simp] theorem countEvent_pwr (ct : Nat) (a : EvAttr) (w : Nat) (s : State) : (countEvent ct a w s).pwr = s.pwr := by unfold countEvent; split <;> rfl
@[simp] theorem countEvent_boot (ct : Nat) (a : EvAttr) (w : Nat) (s : State) : (countEvent ct a w s).boot = s.boot := by unfold countEvent; split <;> rfl
@[simp] theorem countEvent_cnt (ct : Nat) (a : EvAttr) (w : Nat) (s : State) : (countEvent ct a w s).cnt = s.cnt := by unfold countEvent; split <;> rfl
@[simp] theorem countEvent_tap (ct : Nat) (a : EvAttr) (w : Nat) (s : State) : (countEvent ct a w s).tap = s.tap := by unfold countEvent; split <;> rfl
@[simp] theorem countEvent_ads (ct : Nat) (a : EvAttr) (w : Nat) (s : State) : (countEvent ct a w s).ads = s.ads := by unfold countEvent; split <;> rfl
@[simp] theorem countEvent_mem (ct : Nat) (a : EvAttr) (w : Nat) (s : State) : (countEvent ct a w s).mem = s.mem := by unfold countEvent; split <;> rfl
@[simp] theorem countEvent_out (ct : Nat) (a : EvAttr) (w : Nat) (s : State) : (countEvent ct a w s).out = s.out := by unfold countEvent; split <;> rfl
@[simp] theorem countEvent_freeCtr (ct : Nat) (a : EvAttr) (w : Nat) (s : State) : (countEvent ct a w s).freeCtr = s.freeCtr := by unfold countEvent; split <;> rfl
@[simp] theorem countEvent_pending (ct : Nat) (a : EvAttr) (w : Nat) (s : State) : (countEvent ct a w s).pending = s.pending := by unfold countEvent; split <;> rfl

@[simp] theorem setEng_store (c : Nat) (e : Engine) (s : State) : (setEng c e s).store = s.store := rfl
@[simp] theorem setEng_clk (c : Nat) (e : Engine) (s : State) : (setEng c e s).clk = s.clk := rfl
@[simp] theorem setEng_stg (c : Nat) (e : Engine) (s : State) : (setEng c e s).stg = s.stg := rfl
@[simp] theorem setEng_gal (c : Nat) (e : Engine) (s : State) : (setEng c e s).gal = s.gal := rfl
@[simp] theorem setEng_egr (c : Nat) (e : Engine) (s : State) : (setEng c e s).egr = s.egr := rfl
@[simp] theorem setEng_fsrc (c : Nat) (e : Engine) (s : State) : (setEng c e s).fsrc = s.fsrc := rfl
@[simp] theorem setEng_fnet (c : Nat) (e : Engine) (s : State) : (setEng c e s).fnet = s.fnet := rfl
@[simp] theorem setEng_counts (c : Nat) (e : Engine) (s : State) : (setEng c e s).counts = s.counts := rfl
@[simp] theorem setEng_trc (c : Nat) (e : Engine) (s : State) : (setEng c e s).trc = s.trc := rfl
@[simp] theorem setEng_lnk (c : Nat) (e : Engine) (s : State) : (setEng c e s).lnk = s.lnk := rfl
@[simp] theorem setEng_lfsr (c : Nat) (e : Engine) (s : State) : (setEng c e s).lfsr = s.lfsr := rfl
@[simp] theorem setEng_blocks (c : Nat) (e : Engine) (s : State) : (setEng c e s).blocks = s.blocks := rfl
@[simp] theorem setEng_host (c : Nat) (e : Engine) (s : State) : (setEng c e s).host = s.host := rfl
@[simp] theorem setEng_lane (c : Nat) (e : Engine) (s : State) : (setEng c e s).lane = s.lane := rfl
@[simp] theorem setEng_forme (c : Nat) (e : Engine) (s : State) : (setEng c e s).forme = s.forme := rfl
@[simp] theorem setEng_home (c : Nat) (e : Engine) (s : State) : (setEng c e s).home = s.home := rfl
@[simp] theorem setEng_dir (c : Nat) (e : Engine) (s : State) : (setEng c e s).dir = s.dir := rfl
@[simp] theorem setEng_pool (c : Nat) (e : Engine) (s : State) : (setEng c e s).pool = s.pool := rfl
@[simp] theorem setEng_frisk (c : Nat) (e : Engine) (s : State) : (setEng c e s).frisk = s.frisk := rfl
@[simp] theorem setEng_vcsPbr (c : Nat) (e : Engine) (s : State) : (setEng c e s).vcsPbr = s.vcsPbr := rfl
@[simp] theorem setEng_devs (c : Nat) (e : Engine) (s : State) : (setEng c e s).devs = s.devs := rfl
@[simp] theorem setEng_plat (c : Nat) (e : Engine) (s : State) : (setEng c e s).plat = s.plat := rfl
@[simp] theorem setEng_slots (c : Nat) (e : Engine) (s : State) : (setEng c e s).slots = s.slots := rfl
@[simp] theorem setEng_prf (c : Nat) (e : Engine) (s : State) : (setEng c e s).prf = s.prf := rfl
@[simp] theorem setEng_pwr (c : Nat) (e : Engine) (s : State) : (setEng c e s).pwr = s.pwr := rfl
@[simp] theorem setEng_boot (c : Nat) (e : Engine) (s : State) : (setEng c e s).boot = s.boot := rfl
@[simp] theorem setEng_cnt (c : Nat) (e : Engine) (s : State) : (setEng c e s).cnt = s.cnt := rfl
@[simp] theorem setEng_tap (c : Nat) (e : Engine) (s : State) : (setEng c e s).tap = s.tap := rfl
@[simp] theorem setEng_ads (c : Nat) (e : Engine) (s : State) : (setEng c e s).ads = s.ads := rfl
@[simp] theorem setEng_mem (c : Nat) (e : Engine) (s : State) : (setEng c e s).mem = s.mem := rfl
@[simp] theorem setEng_out (c : Nat) (e : Engine) (s : State) : (setEng c e s).out = s.out := rfl
@[simp] theorem setEng_freeCtr (c : Nat) (e : Engine) (s : State) : (setEng c e s).freeCtr = s.freeCtr := rfl
@[simp] theorem setEng_pending (c : Nat) (e : Engine) (s : State) : (setEng c e s).pending = s.pending := rfl

@[simp] theorem emit_out (x : Output) (s : State) : (emit x s).out = s.out ++ [x] := rfl
@[simp] theorem answer_out (st : Status) (v : Option Nat) (s : State) : (answer st v s).out = s.out ++ [.answer st v] := rfl
@[simp] theorem setEng_mem' (c : Nat) (e : Engine) (s : State) : (setEng c e s).net.merge = s.net.merge := rfl

/-- The value of an object rests on the store alone. -/
theorem val_congr {s t : State} (h : s.store = t.store) (o : Obj) (p : Path) : s.val o p = t.val o p := by
  unfold State.val; rw [h]

@[simp] theorem emit_val (x : Output) (s : State) (o : Obj) (q : Path) : (emit x s).val o q = s.val o q := val_congr (by simp) o q
@[simp] theorem emit_flag (x : Output) (s : State) (o : Obj) (q : Path) : (emit x s).flag o q = s.flag o q := by simp [State.flag]
@[simp] theorem answer_val (st : Status) (v : Option Nat) (s : State) (o : Obj) (q : Path) : (answer st v s).val o q = s.val o q := val_congr (by simp) o q
@[simp] theorem answer_flag (st : Status) (v : Option Nat) (s : State) (o : Obj) (q : Path) : (answer st v s).flag o q = s.flag o q := by simp [State.flag]
@[simp] theorem freshValue_val (s : State) (o : Obj) (q : Path) : ((freshValue s).2).val o q = s.val o q := val_congr (by simp) o q
@[simp] theorem freshValue_flag (s : State) (o : Obj) (q : Path) : ((freshValue s).2).flag o q = s.flag o q := by simp [State.flag]
@[simp] theorem advance_val (dt : Nat) (s : State) (o : Obj) (q : Path) : (advance dt s).val o q = s.val o q := val_congr (by simp) o q
@[simp] theorem advance_flag (dt : Nat) (s : State) (o : Obj) (q : Path) : (advance dt s).flag o q = s.flag o q := by simp [State.flag]
@[simp] theorem advanceTo_val (t : Nat) (s : State) (o : Obj) (q : Path) : (advanceTo t s).val o q = s.val o q := val_congr (by simp) o q
@[simp] theorem advanceTo_flag (t : Nat) (s : State) (o : Obj) (q : Path) : (advanceTo t s).flag o q = s.flag o q := by simp [State.flag]
@[simp] theorem raiseFault_val (a k c : Nat) (s : State) (o : Obj) (q : Path) : (raiseFault a k c s).val o q = s.val o q := val_congr (by simp) o q
@[simp] theorem raiseFault_flag (a k c : Nat) (s : State) (o : Obj) (q : Path) : (raiseFault a k c s).flag o q = s.flag o q := by simp [State.flag]
@[simp] theorem countEvent_val (ct : Nat) (a : EvAttr) (w : Nat) (s : State) (o : Obj) (q : Path) : (countEvent ct a w s).val o q = s.val o q := val_congr (by simp) o q
@[simp] theorem countEvent_flag (ct : Nat) (a : EvAttr) (w : Nat) (s : State) (o : Obj) (q : Path) : (countEvent ct a w s).flag o q = s.flag o q := by simp [State.flag]
@[simp] theorem setEng_val (c : Nat) (e : Engine) (s : State) (o : Obj) (q : Path) : (setEng c e s).val o q = s.val o q := val_congr (by simp) o q
@[simp] theorem setEng_flag (c : Nat) (e : Engine) (s : State) (o : Obj) (q : Path) : (setEng c e s).flag o q = s.flag o q := by simp [State.flag]

/-- An object's instance that is written reads as written. -/
@[simp] theorem put_val_self (o : Obj) (p : Path) (v : Nat) (s : State) : (s.put o p v).val o p = v := by
  unfold State.put
  dsimp only
  split
  · assumption
  · simp [State.val]

/-- Every other instance, and every other object, reads as before. -/
theorem put_val_other (o o' : Obj) (p p' : Path) (v : Nat) (s : State) (h : o'.code ≠ o.code ∨ pathKey p' ≠ pathKey p) :
    (s.put o p v).val o' p' = s.val o' p' := by
  unfold State.put
  dsimp only
  split
  · rfl
  · simp only [State.val]
    by_cases hc : o'.code = o.code
    · have hp := h.resolve_left (fun n => n hc)
      simp [hc, hp]
    · simp [hc]

/-- Reading any object after a write of one, as codes and instances decide. -/
theorem put_val (o o' : Obj) (p p' : Path) (v : Nat) (s : State) (h : o'.code ≠ o.code) :
    (s.put o p v).val o' p' = s.val o' p' := put_val_other o o' p p' v s (.inl h)

end Sys2Proof.Machine
end

