-- ==== Sys2Proof/Laws/Memory.lean ====
section
/-!
SUPPORT. Every operation on the block's memory keeps its canonical form.
-/
namespace Sys2Proof.Machine

theorem memSet_wf (m : List Host.Cell) (a : Nat) (b : BitVec 8) (h : Memory.wf m = true) : Memory.wf (memSet m a b) = true :=
  Tbl.wf_upd 0 m a b h

theorem memWrite_wf (m : List Host.Cell) (a n v : Nat) (h : Memory.wf m = true) : Memory.wf (memWrite m a n v) = true := by
  induction n generalizing m a v with
  | zero => exact h
  | succ n ih => exact ih _ _ _ (memSet_wf m a _ h)

/-- Cells may be struck off. -/
theorem memFilter_wf (m : List Host.Cell) (p : Host.Cell → Bool) (h : Memory.wf m = true) : Memory.wf (m.filter p) = true :=
  Tbl.wf_filter 0 m p h

@[simp] theorem breakResv_mem (a n : Nat) (s : State) : (breakResv a n s).mem = s.mem := rfl

/-- A write of the internal space changes memory as `memWrite` does. -/
@[simp] theorem spaceWrite_mem (a n v : Nat) (s : State) : (spaceWrite a n v s).mem = memWrite s.mem a n v := by
  unfold spaceWrite
  dsimp only
  split
  · split <;> simp
  · simp

theorem spaceWrite_wf (a n v : Nat) (s : State) (h : Memory.wf s.mem = true) : Memory.wf (spaceWrite a n v s).mem = true := by
  rw [spaceWrite_mem]
  exact memWrite_wf _ _ _ _ h

/-- A read of the internal space changes nothing of it. -/
@[simp] theorem spaceRead_mem (a n : Nat) (s : State) : (spaceRead a n s).2.mem = s.mem := by
  induction n generalizing a s with
  | zero => rfl
  | succ n ih =>
    simp only [spaceRead, ih]
    split <;> split <;> simp

theorem zeroSpan_wf (a n : Nat) (s : State) (h : Memory.wf s.mem = true) : Memory.wf (zeroSpan a n s).mem = true :=
  memFilter_wf _ _ h

theorem reset_memory_wf : Memory.wf State.reset.mem = true := rfl

end Sys2Proof.Machine
end

