-- ==== Sys2Proof/Laws/Ops.lean ====
section
/-!
SUPPORT. What each shared operation on objects can do, said once.
-/
namespace Sys2Proof.Machine

/-- A closed gate gives its status and changes nothing. -/
@[simp] theorem managed_closed (role : Role) (o : Obj) (p : Path) (h : State → Status × State) (s : State) (st : Status)
    (hg : writeGate role o p s = some st) : managed role o p h s = (st, s) := by
  simp [managed, hg]

/-- An open gate leaves the write to the object's own handler. -/
@[simp] theorem managed_open (role : Role) (o : Obj) (p : Path) (h : State → Status × State) (s : State)
    (hg : writeGate role o p s = none) : managed role o p h s = h s := by
  simp [managed, hg]

theorem managed_cases (role : Role) (o : Obj) (p : Path) (h : State → Status × State) (s : State) :
    (∃ st, writeGate role o p s = some st ∧ managed role o p h s = (st, s)) ∨
      (writeGate role o p s = none ∧ managed role o p h s = h s) := by
  cases hg : writeGate role o p s with
  | none => exact .inr ⟨rfl, by simp [hg]⟩
  | some st => exact .inl ⟨st, rfl, by simp [hg]⟩

theorem answered_eq (st : Status) (s : State) : answered (st, s) = { s with out := s.out ++ [.answer st none] } := rfl

theorem plainWrite_in (o : Obj) (p : Path) (v : Nat) (s : State) (h : inRange o v = true) :
    plainWrite o p v s = (.ok, s.put o p (v &&& o.mask)) := by
  simp [plainWrite, h]

theorem plainWrite_out (o : Obj) (p : Path) (v : Nat) (s : State) (h : inRange o v = false) : plainWrite o p v s = (.refused, s) := by
  simp [plainWrite, h]

/-- A write of an object at the value it has changes nothing; else it touches the object store alone. -/
theorem put_cases (o : Obj) (p : Path) (v : Nat) (s : State) :
    (s.val o p = v ∧ s.put o p v = s) ∨ (s.val o p ≠ v ∧ ∃ st, s.put o p v = { s with store := st }) := by
  by_cases h : s.val o p = v
  · exact .inl ⟨h, by simp [State.put, h]⟩
  · exact .inr ⟨h, (s.put o p v).store, by unfold State.put; simp only [h, if_false]⟩

/-- A fault of a source with nothing outstanding is sent. -/
theorem raiseFault_sends (source kind ctx : Nat) (s : State) (h : (Tbl.look {} s.fsrc source).outstanding = false) :
    (raiseFault source kind ctx s).fnet = s.fnet ++ [{ source := source, kind := kind, ctx := ctx, time := tbNs s }] := by
  simp [raiseFault, h]

end Sys2Proof.Machine
end

