-- ==== Sys2Proof/Machine/Lands.lean ====
section
/-!
DEFINITION. The lands of the module (20 R548-R557): which signal stands at which row and column, the edge rate that the sampled straps select,
the glitch filter of three inputs, and the output types of the sideband.
-/
namespace Sys2Proof.Machine

/-- A wire of a lane. -/
inductive LaneWire where
  | txp | txn | rxp | rxn
  deriving DecidableEq, Repr

/-- The sideband signals, in the order of their lands (Table PKG-2). -/
inductive Sideband where
  | resetN | pwrgd | faultN | vinWarnN | alertN | thermN | hbIn | hbOut | tsyncIn | tsyncOut
  deriving DecidableEq, Repr

/-- What a land carries (20 R548, R549). -/
inductive Land where
  | gnd
  | nc
  | lane (l : Nat) (w : LaneWire)
  | vin (feed : Nat)
  | vsb
  | refclk (n : Nat) (negative : Bool)
  | mgmtClk
  | mgmt (n : Nat) (w : LaneWire)
  | i3c (n : Nat) (sda : Bool)
  | slotBus (n : Nat) (sda : Bool)
  | side (x : Sideband)
  | slew (n : Nat)
  | flash (k : Nat)
  | jtag (k : Nat)
  | factory (k : Nat)
  | slotPower (sp j : Nat)
  deriving DecidableEq, Repr

/-- The row of a wire of a lane (20 R548). -/
def laneRow (l : Nat) (w : LaneWire) : Nat :=
  (if l / 64 ≤ 3 then 0 else 56) + 10 * (l / 16 % 4) +
    (match w with | .txp => 1 | .txn => 2 | .rxp => 5 | .rxn => 6)

/-- The column of a lane (20 R548). -/
def laneColumn (l : Nat) : Nat := 22 * (l / 64 % 4) + 1 + l % 16 + l % 16 / 4

/-- The land of a row outside the central band (20 R548): the lane whose column and row these are, else GND. -/
def bandLand (row col : Nat) : Land :=
  let r := if row < 40 then row else row - 56
  let off := col % 22
  let wire : Option LaneWire :=
    match r % 10 with | 1 => some .txp | 2 => some .txn | 5 => some .rxp | 6 => some .rxn | _ => none
  match wire with
  | none => .gnd
  | some w =>
    if off = 0 ∨ off ≥ 20 ∨ off % 5 = 0 then .gnd
    else .lane (64 * ((if row < 40 then 0 else 4) + col / 22) + 16 * (r / 10) + (off - 1 - off / 5)) w

/-- The sideband signal of a place in 045.040 to 045.049. -/
def sidebandAt : Nat → Sideband
  | 0 => .resetN | 1 => .pwrgd | 2 => .faultN | 3 => .vinWarnN | 4 => .alertN
  | 5 => .thermN | 6 => .hbIn | 7 => .hbOut | 8 => .tsyncIn | _ => .tsyncOut

/-- The land of a row of the central band (20 Table PKG-2). `flash` counts FL_CLK, FL_CS0_N, FL_CS1_N, FL_DQS, FL_DQ0 to FL_DQ7, FL_RESET_N;
`jtag` counts TCK, TMS, TDI, TDO, TRST_N; `slotPower` counts GATE, SENP, SENN. -/
def centralLand (row col : Nat) : Land :=
  let within (a b : Nat) : Bool := decide (a ≤ col) && decide (col ≤ b)
  if 40 ≤ row ∧ row ≤ 43 ∧ within 0 7 then .vin 0
  else if 40 ≤ row ∧ row ≤ 43 ∧ within 80 87 then .vin 1
  else if 40 ≤ row ∧ row ≤ 47 ∧ (within 8 11 || within 76 79) then .nc
  else if 52 ≤ row ∧ row ≤ 53 ∧ within 0 3 then .vsb
  else match row with
  | 42 => if within 40 41 then .i3c 0 (col == 41) else if within 43 44 then .i3c 1 (col == 44) else .gnd
  | 43 => if within 40 50 ∧ (col - 40) % 3 < 2 then .slotBus ((col - 40) / 3) ((col - 40) % 3 == 1) else .gnd
  | 45 => if within 40 49 then .side (sidebandAt (col - 40)) else if within 50 51 then .slew (col - 50) else .gnd
  | 47 => if within 40 52 then .flash (col - 40) else .gnd
  | 48 => if within 20 21 then .refclk 0 (col == 21) else if within 66 67 then .refclk 1 (col == 67) else .gnd
  | 49 => if within 40 44 then .jtag (col - 40) else .gnd
  | 50 => if col = 26 then .mgmtClk else if within 30 31 then .mgmt 0 (if col = 30 then .txp else .txn)
      else if within 34 35 then .mgmt 1 (if col = 34 then .txp else .txn) else .gnd
  | 51 => if within 40 47 then .factory (col - 40) else .gnd
  | 52 => if within 30 31 then .mgmt 0 (if col = 30 then .rxp else .rxn)
      else if within 34 35 then .mgmt 1 (if col = 34 then .rxp else .rxn) else .gnd
  | 54 => if within 12 59 then .slotPower ((col - 12) / 3) ((col - 12) % 3) else .gnd
  | 55 => if within 12 59 then .slotPower (16 + (col - 12) / 3) ((col - 12) % 3) else .gnd
  | _ => .gnd

/-- The land at a row and a column of the grid of 96 rows and 88 columns (20 R547); none outside it. -/
def landAt (row col : Nat) : Option Land :=
  if 96 ≤ row ∨ 88 ≤ col then none
  else some (if 40 ≤ row ∧ row ≤ 55 then centralLand row col else bandLand row col)

/-- The edge rates of the sideband outputs (20 Table PKG-8). -/
inductive Slew where
  | slow | medium | fast
  deriving DecidableEq, Repr

/-- The edge rate that the straps select, as they were sampled when VSB entered its range (20 R556). [DESIGN CHOICE, log 168] -/
def slewOf (s : State) : Slew :=
  match s.pwr.straps with | 1 => .medium | 2 => .fast | _ => .slow

/-- Whether a pulse of a width in ns passes the glitch filter of RESET_N, HB_IN and TSYNC_IN (20 R557); none where the manual leaves it open. [DESIGN CHOICE, log 168] -/
def glitchPasses (ns : Nat) : Option Bool :=
  if ns ≤ 40 then some false else if 60 ≤ ns then some true else none

/-- The sideband outputs that pull low when asserted, and are off otherwise (20 Table PKG-6). -/
def openDrain : Sideband → Bool
  | .faultN | .vinWarnN | .alertN | .thermN => true
  | _ => false

/-! ### Boundary scan (21 R572, R573) -/

/-- The boundary cells of a 1.8 V land of the central band: an input one, an output or a bidirectional land a control and then a data cell. -/
def landCells : Land → Nat
  | .mgmtClk | .slew _ => 1
  | .side .resetN | .side .hbIn | .side .tsyncIn => 1
  | .side _ | .flash _ | .i3c _ _ | .slotBus _ _ => 2
  | .slotPower _ j => if j = 0 then 2 else 0
  | _ => 0

/-- The lands of a row that have cells, in ascending column. -/
def rowScan (row : Nat) : List Land := (List.range 88).filterMap fun c => (landAt row c).filter fun l => landCells l != 0

/-- The lands behind the cells from 1,028 on, in ascending row and then ascending column. -/
def scanLands : List Land := (List.range 16).flatMap fun r => rowScan (40 + r)

/-- The first boundary cell of a land, cell 0 nearest TDO: of a lane or of MGMT0 and MGMT1 the cell of its pair. -/
def cellOf : Land → Nat
  | .lane l w => 2 * l + (if w = .txp ∨ w = .txn then 0 else 1)
  | .mgmt n w => 1024 + 2 * n + (if w = .txp ∨ w = .txn then 0 else 1)
  | l => 1028 + ((scanLands.takeWhile (· != l)).map landCells).sum

/-- A boundary instruction is in effect that drives the lands in place of R526: EXTEST to HIGHZ. -/
def boundaryDrives (s : State) : Bool :=
  let c := s.val oE000_01 [] % 256
  decide (3 ≤ c) && decide (c ≤ 7)

/-- What the boundary register drives on a land with a control cell, none where it is off: HIGHZ turns every output off, a control cell of 1 enables
one, and an open-drain output only pulls low. -/
def cellLevel (s : State) (l : Land) (drain : Bool) : Option Bool :=
  let c := cellOf l
  if s.val oE000_01 [] % 256 = 7 ∨ bit s.tap.bound c = false ∨ (drain = true ∧ bit s.tap.bound (c + 1) = true) then none
  else some (bit s.tap.bound (c + 1))

/-! ### The levels of the sideband outputs (20 R553, R554) -/

/-- The condition that an output shows outside a pulse: power good, a fault, the input warning, an alert, a temperature. -/
def asserted (s : State) : Sideband → Bool
  | .pwrgd => powerGood s
  | .faultN => s.flag o9010_02 []
  | .vinWarnN => s.flag oA004_01 []
  | .alertN => s.flag o9012_04 []
  | .thermN => s.pwr.therm
  | _ => false

/-- The level of a sideband output, none while it is off: an open-drain output pulls low when asserted, a push-pull one drives high, and each is
off otherwise and while R526 has it high-impedance; a boundary instruction drives it in their place. -/
def landLevel (s : State) (x : Sideband) : Option Bool :=
  if boundaryDrives s then cellLevel s (.side x) (openDrain x)
  else if outputsDriven s ∧ asserted s x = true then some (!openDrain x) else none

end Sys2Proof.Machine
end

