-- ==== Sys2Proof/Tests/Slice0.lean ====
section
/-!
SUPPORT. Tests of the model on small states, and a witness for the hypotheses of every statement.
-/
namespace Sys2Proof.Tests
open Sys2Proof Sys2Proof.Machine
set_option maxRecDepth 8000
set_option Elab.async false

/-! ### States the tests start from -/

/-- The machine after reset with some objects set. -/
def withObjs (l : List (Obj × Path × Nat)) (s : State) : State := l.foldl (fun s e => s.put e.1 e.2.1 e.2.2) s

/-! ### Lands: the examples of 20 R548 and R549 -/

theorem test_lands_of_lane_208 : (laneRow 208 .txp, laneColumn 208, landAt 16 67) = (11, 67, some (.lane 208 .rxn)) := by decide
theorem test_lands_of_sp20 : landAt 55 24 = some (.slotPower 20 0) ∧ landAt 55 26 = some (.slotPower 20 2) := by decide

theorem test_boundary_cells : (scanLands.map landCells).sum = 134 ∧ cellOf (.side .resetN) = 1052 := by decide

/-! ### The form of a command -/

theorem test_wf_register_write : Instr.wf (.registerWrite .manager 0x4020 1 [pQ 0] 3 {}) = true := by decide
theorem test_wf_refuses_path : Instr.wf (.registerWrite .manager 0x4020 1 [(45, 0)] 3 {}) = false := by decide
theorem test_wf_refuses_packet : Instr.wf (.bar4Access 0 { op := .mWr, addr := 2 ^ 64, len := 4 }) = false := by decide
theorem test_wf_refuses_data : Instr.wf (.bar4Access 0 { op := .mWr, len := 1, data := 256 }) = false := by decide
theorem test_wf_refuses_engine_address : Instr.wf (.engineLoad 0 (2 ^ 64) 3 true) = false := by decide
theorem test_wf_refuses_engine_data : Instr.wf (.engineStore 0 0 0 256 false) = false := by decide
theorem test_wf_refuses_value : Instr.wf (.ringAssign .manager 0 (2 ^ 32)) = false := by decide
theorem test_wf_refuses_debug_word : Instr.wf (.dbgAccess (2 ^ 128) true) = false := by decide
theorem test_wf_refuses_fault : Instr.wf (.faultRaise ⟨4096, 0, 0⟩) = false := by decide
theorem test_wf_refuses_flit :
    Instr.wf (.folioFlitReceive 0 { ty := 1, cb := { ack := 4096 } }) = false := by decide

/-! EveryStepKeepsMemoryCanonical -/

theorem wit_sound : ∃ t, Sound State.reset ∧ step State.reset = .next t := ⟨_, rfl, rfl⟩

/-! SlotsCarrySortsAcrossTheSheets -/

/-- An express sort for port 37 at quire 0. -/
def xExp : DSort := { cls := 0, dport := 37, pkt := { op := .cmp } }
def sLaunch : State := { State.reset with stg := { expQ := [(creditKey 0 2 0, [xExp])] } }
theorem wit_stage1 : sLaunch.clk.done1 = false ∧ sLaunch.stg.expQ = [(creditKey 0 ((0 + sLaunch.clk.slot + 2) % 8) 0, [xExp])]
    ∧ expressHeld sLaunch xExp = false ∧ queueOf sLaunch (stageRef 2 37 0) = {} := by decide
def gExp : GEnt := ⟨0, 0, xExp⟩
def sDeliver : State := { State.reset with gal := { queues := [((stageRef 0 37 0).key, { ents := [gExp] })] } }
theorem wit_stage2 : 37 / 16 = (0 + sDeliver.clk.slot + 2) % 8 ∧ gExp.ready ≤ sDeliver.clk.now
    ∧ gExp.x.home = false ∧ gExp.x.cls = 0 := by decide
theorem wit_dark (q : Nat) : quireDark sLaunch q = false ∧ quireDark sDeliver q = false := ⟨rfl, rfl⟩
def sSlot : State := { State.reset with clk := { done1 := true } }
theorem wit_slot_quiet : sLaunch.gal.orig = [] ∧ sSlot.gal.orig = [] ∧ comingDepth sDeliver 37 0 < 64 := by decide
theorem wit_slot : 0 < cycle sSlot ∧ sSlot.clk.now < sSlot.clk.slotAt + cycle sSlot := by decide

/-! FramesCloseAndSpread -/

def xBulk : DSort := { cls := 4, dstq := 2, dport := 37, pkt := { op := .mWr, len := 8 } }
def sFrame : State := { State.reset with stg := { frames := [(streamKey xBulk, { sorts := [xBulk] })] } }
theorem wit_frame_timer : oldestFrame sFrame 0 = some (streamKey xBulk, { sorts := [xBulk] })
    ∧ Tbl.look {} sFrame.stg.frames (streamKey xBulk) = { sorts := [xBulk] } := by decide
def sClosed : State := { State.reset with stg := { closed := [(2, [[xBulk, xBulk], [xBulk]])] } }
theorem wit_frame_spread : Tbl.look [] sClosed.stg.closed (8 * 0 + 2) = [xBulk, xBulk] :: [[xBulk]] := by decide
theorem wit_bulk_quire (m : Nat) : bulkQuire sClosed m = m := rfl

/-! SortsArriveAndCollate -/

def sArrive (x : DSort) : State := { State.reset with stg := { toEgress := [(2, [⟨5, x⟩])] } }
def xUp : DSort := { xExp with dport := 37 }
def sUp : State := withObjs [(o2020_02, [pP 37], 2)] (sArrive xUp)
theorem wit_arrive_express : Tbl.look [] sUp.stg.toEgress 2 = [⟨5, xUp⟩] ∧ portLost sUp 37 = false
    ∧ (queueOf sUp (classRef 37 0)).broken = false ∧ (queueOf sUp (classRef 37 0)).drop = [] ∧ (queueOf sUp (classRef 37 0)).flush = none
    ∧ xUp.unit = none := by decide
theorem wit_arrive_held : 0 < seqAhead (sArrive xBulk) (streamKey xBulk) 511 ∧ seqAhead (sArrive xBulk) (streamKey xBulk) 511 < 512 := by decide
theorem wit_arrive_late : 512 ≤ seqAhead (sArrive xBulk) (streamKey xBulk) 512 := by decide
def sGap : State := { State.reset with stg := { coll := [(2, [⟨0, { xBulk with sop := false, seq := 3 }⟩])] } }
theorem wit_gap : Tbl.look [] sGap.stg.coll 2 = [⟨0, { xBulk with sop := false, seq := 3 }⟩]
    ∧ (sGap.gal.queues.any fun g => g.2.pushing.any (·.1 == streamKey xBulk)) = false := by decide

/-! CrossingsDriftAndOverrun -/

def sCross : State := setCross 3 19 { occ := 2, drifted := true } State.reset
theorem wit_drift : (crossOf State.reset 3 19).drifted = false ∧ (crossOf State.reset 3 19).failed = false := by decide
theorem wit_drift_end : (crossOf sCross 3 19).drifted = true ∧ (crossOf sCross 3 19).failed = false
    ∧ 2 ≤ (crossOf sCross 3 19).occ ∧ (crossOf sCross 3 19).occ ≤ 6 := by decide

/-! FrisketPlatesAndKeys -/

theorem wit_plate_lock : writeGate .boot o6001_00 [pSPACE 1] State.reset = none ∧ lockFaulty State.reset 1 = false := by decide
def sBadPlate : State := withObjs [(o6000_01, [pSPACE 0, pPL 0], 5 * 2 ^ 104 + 2 ^ 31)] State.reset
theorem wit_plate_lock_faulty : lockFaulty sBadPlate 0 = true := by decide
theorem wit_key_commit : writeGate .manager o6020_01 [] State.reset = none ∧ 1 = (State.reset.val o6020_02 [] + 1) % 65536
    ∧ State.reset.val o6020_03 [] = 0 ∧ shadowFaulty State.reset = false := by decide
theorem wit_key_complete : (withObjs [(o6020_03, [], 1)] State.reset).val o6020_03 [] = 1 := by decide
theorem wit_key_copy : (withObjs [(o6020_03, [], 2)] State.reset).val o6020_03 [] = 2 := by decide
theorem wit_plate_damage : plateDenyall (State.reset.val o6000_01 [pSPACE 1, pPL 4095]) = false := by decide

/-! IngressRoutesAndChecks -/

/-- VCS 0 has upstream port 0; vPPB 0 of it leads to port 16; both links are up. -/
def sRoute : State := withObjs [(o4100_01, [pVCS 0], 0), (o4100_02, [pVCS 0], 1), (o2020_01, [pP 0], 1), (o2020_01, [pP 16], 2),
  (o2020_02, [pP 0], 2), (o2020_02, [pP 16], 2), (o4100_03, [pVCS 0], 4), (o4110_01, [pVCS 0, pV 0], 2 ^ 31 + 16 * 2 ^ 17)] State.reset
def pCpl : Packet := { op := .cplD, len := 4, vppb := some 0 }
def pWr : Packet := { op := .mWr, len := 4, vppb := some 0 }
theorem wit_ingress : roleOf sRoute 0 = 1 ∧ linkOf sRoute 0 = 2 ∧ quireDark sRoute 0 = false ∧ inStopPress sRoute = false
    ∧ innerAddr sRoute 0 pCpl = some 0 ∧ innerAddr sRoute 0 pWr = some 0
    ∧ (routePacket sRoute 0 (markSource sRoute 0 pCpl)).1 = .port 16 0 ∧ dpcAt sRoute 16 0 = false
    ∧ busMasterOk sRoute 0 pCpl (.port 16 0) = true ∧ checkedOp pCpl.op = false := by decide
theorem wit_ingress_refused : (routePacket sRoute 0 (markSource sRoute 0 pWr)).1 = .port 16 0 ∧ checkedOp pWr.op = true
    ∧ friskCheck sRoute (ckPort 0) 0 none 0 0 4 = .refuse 0x6 0x1FFF := by decide

/-! IntakeAdmitsPacketsAndMessages -/

def rBulk : Routed := { pkt := { op := .mWr, len := 8 }, sport := 0, dport := 16, dld := 0, cls := 4, midq := 0, home := false, init := 0, asked := true }
def rExp : Routed := { rBulk with pkt := { op := .cmp }, cls := 0 }
/-- Maps of quires 0 and 1 are good at quire 0. -/
def sIntake (r : Routed) : State := { State.reset with gal := {
  intake := [(0, [r])], mapIn := (List.range 8).map fun e => (e, { good := true, next := 1 }) } }
theorem wit_admit : intakeOf (sIntake rBulk) 0 0 = [rBulk] ∧ mayAsk (sIntake rBulk) 0 0 rBulk = true
    ∧ bulkHold (sIntake rBulk) (onVc (sIntake rBulk) (routedSort rBulk (substQuire (sIntake rBulk) 0) none)) = none := by decide
def sFull : State := withObjs [(o4034_03, [pP 0, pQ 1], 10496), (o4034_04, [pQ 0, pQ 1], 10496)] (sIntake rBulk)
theorem wit_account_holds : bulkHold sFull (onVc sFull (routedSort rBulk (substQuire sFull 0) none)) = some .account
    ∧ limiterOf sFull 2 0 16 = none := by decide
theorem wit_express_admit : mayAsk (sIntake rExp) 0 0 rExp = true ∧ 0 < creditOf (sIntake rExp) 0 (substQuire (sIntake rExp) 0) 0
    ∧ entryRoom (sIntake rExp) (routedSort rExp 0 none) = true := by decide
theorem wit_express_held : creditOf (setCredit 0 0 0 0 (sIntake rExp)) 0 (substQuire (sIntake rExp) 0) 0 = 0
    ∧ mayAsk (setCredit 0 0 0 0 (sIntake rExp)) 0 0 rExp = true := by decide

/-! GalleyQueuesFlushResetAndSweep -/

theorem wit_flush : writeGate .owner o4032_05 [pP 127, pEQ 255] State.reset = none
    ∧ (queueOf State.reset (egressRef 127 255)).popping = none ∧ (queueOf State.reset (egressRef 127 255)).pushing = [] := by decide
theorem wit_check : ∀ e ∈ State.reset.gal.queues, e.2.broken = false := by decide
def sSwept : State := { State.reset with gal := { swept := [⟨.egress 17 3, 2, []⟩, ⟨.home 3 1, 0, []⟩] } }
theorem wit_sweep : sSwept.gal.swept = ⟨.egress 17 3, 2, []⟩ :: [⟨.home 3 1, 0, []⟩]
    ∧ (∀ v ∈ [(⟨.home 3 1, 0, []⟩ : Swept)], v.queue.quire ≠ 1) := by decide

/-! CreditAuditAndCongestionMaps -/

def sMaps : State := { State.reset with gal := { maps := [(8 * 7 + 3, [{ mseq := 0 }, { mseq := 1 }])] } }
theorem wit_map_receive : Tbl.look [] sMaps.gal.maps (8 * 7 + 3) = { mseq := 0 } :: [{ mseq := 1 }]
    ∧ ({ mseq := 0 } : CMap).mseq = (Tbl.look {} sMaps.gal.mapIn (8 * 7 + 3)).next := by decide

/-! EgressPortsGrantAndLimit -/

def gSend : GEnt := ⟨0, 0, { cls := 0, dport := 0, pkt := { op := .cmp } }⟩
def sGrant : State := { sRoute with
  gal := { queues := [((classRef 0 0).key, { ents := [gSend] })] }, egr := { credH := [(0 * 32 + 12 + 3, 1)] } }
theorem wit_grant : roleOf sGrant 0 ≠ 3 ∧ tier1 sGrant 0 = some (classRef 0 0) ∧ tier2 sGrant 0 = none ∧ tier3 sGrant 0 = false
    ∧ (queueOf sGrant (classRef 0 0)).ents = [gSend] ∧ (queueOf sGrant (classRef 0 0)).broken = false ∧ viralData sGrant 0 gSend.x = gSend.x := by decide
theorem wit_partner : (roleOf sRoute 16 = 1 ∨ roleOf sRoute 16 = 2) ∧ Tbl.look [] sRoute.egr.staging (16 * 4 + 0) = [] := by decide
def vLim : Nat := 2 ^ 30 + 127 * 2 ^ 23 + 255 * 2 ^ 15
theorem wit_limiter : writeGate .manager o4044_01 [pQ 7, pRL 8191] State.reset = none ∧ bits vLim 31 30 = 1
    ∧ quireOf (bits vLim 29 23) = 7 ∧ limiterOf State.reset 1 127 255 = none ∧ onWheel State.reset (7 * 8192 + 8191) = false := by decide

/-! KeysAndRemapsOfAPort -/

theorem wit_keying : writeGate .manager o4040_01 [pP 127] State.reset = none ∧ writeGate .manager o4040_04 [pP 127] State.reset = none
    ∧ State.reset.flag o4040_05 [pP 127] = false := by decide
def sRemap : State := { State.reset with egr := { remap := [(5, some ⟨1, [(0, 3)], 400⟩)] } }
theorem wit_remap : Tbl.look none sRemap.egr.remap 5 = some ⟨1, [(0, 3)], 400⟩ ∧ remapDrained sRemap 5 ⟨1, [(0, 3)], 400⟩ = true := by decide
theorem wit_commit_busy : (withObjs [(o4040_05, [pP 5], 1)] State.reset).flag o4040_05 [pP 5] = true := by decide

/-! QueuesAreSampled -/

def sSample : State := withObjs [(o4048_02, (QRef.egress 17 3).path, 1)] State.reset
theorem wit_sample : sampledQueues sSample 1 = [.egress 17 3] := by decide
theorem wit_hist : (QRef.egress 17 3).real = true := by decide
theorem wit_sampling_on : writeGate .manager o4048_02 (QRef.home 7 3).path State.reset = none
    ∧ State.reset.flag o4048_02 (QRef.home 7 3).path = false ∧ (sampledQueues State.reset 7).length < 1024 := by decide
theorem wit_sampling_off : sSample.flag o4048_02 (QRef.egress 17 3).path = true
    ∧ writeGate .manager o4048_02 (QRef.egress 17 3).path sSample = none := by decide

/-! LaneTestsAndEqualisers -/

theorem wit_rate : writeGate .manager o3000_01 [pP 16] sRoute = none ∧ roleOf sRoute 16 = 2 ∧ linkOf sRoute 16 = 2 := by decide
theorem wit_manual : writeGate .manager o3012_03 [pL 511] State.reset = none ∧ State.reset.val o3012_02 [pL 511] ≠ 2
    ∧ (withObjs [(o3012_02, [pL 511], 2)] State.reset).val o3012_02 [pL 511] = 2 := by decide

theorem wit_lane_test : (∀ o ∈ [o3020_01, o3020_02, o3020_03], writeGate .manager o [pL 511] State.reset = none) ∧ testable State.reset 511 = true
    ∧ State.reset.flag o3020_01 [pL 511] = false := by decide
theorem wit_lane_busy : testable sRoute 64 = false := by decide +kernel
theorem wit_checker_locks : (withObjs [(o3020_01, [pL 3], 2), (o3020_02, [pL 3], 4)] State.reset).val o3020_02 [pL 3] = 4
    ∧ testable (withObjs [(o3020_01, [pL 3], 2), (o3020_02, [pL 3], 4)] State.reset) 3 = true := by decide
def vScan : Nat := 40 * 2 ^ 58 + 2 * 2 ^ 56 + 193 * 2 ^ 48 + 224 * 2 ^ 40
theorem wit_scan : writeGate .manager o3022_01 [pL 0] State.reset = none ∧ 20 ≤ bits vScan 63 58 ∧ bits vScan 63 58 ≤ 40
    ∧ bits vScan 57 56 ≤ 2 ∧ 193 ≤ bits vScan 55 48 ∧ 224 ≤ bits vScan 47 40 := by decide
def sScan : State := { State.reset with lane := { scan := [(7, some 1048576)] } }
theorem wit_scan_ends : Tbl.look none sScan.lane.scan 7 = some 1048576 ∧ Tbl.look none sScan.lane.scan 8 = none := by decide

/-! FolioLinksComeUpAndRetrain -/

/-- Port 20 is a Folio port of width 8 in a state of Table LAN-7. -/
def sFolio (st : Nat) : State := withObjs [(o2020_01, [pP 20], 3), (o2010_02, [pG 5], 3 * 2 ^ 6 + 3 * 2 ^ 3), (o3030_06, [pP 20], st),
  (o4200_01, [], 0)] State.reset
theorem wit_pll : roleOf (sFolio 1) 20 = 3 ∧ folioState (sFolio 1) 20 = 1 ∧ noTraining (sFolio 1) 20 = false := by decide
def mGood : Markers := { rate128 := false, width := 3, precode := false, arrivals := [0, 64] }
theorem wit_align : folioState (sFolio 2) 20 = 2 ∧ ownSettings (sFolio 2) 20 { mGood with rate128 := (sFolio 2).val o3030_01 [pP 20] == 6, precode := (sFolio 2).flag o3030_09 [pP 20] } = true
    ∧ mGood.arrivals.foldl max 0 - mGood.arrivals.foldl min (mGood.arrivals.foldl max 0) ≤ 64 := by decide
theorem wit_align_mismatch : ownSettings (sFolio 2) 20 { mGood with width := 4 } = false
    ∧ (portLink (sFolio 2) 20).mismatch = false := by decide
theorem wit_lock_timeout : (withObjs [(o3030_0A, [pP 20], 1)] (sFolio 2)).flag o3030_0A [pP 20] = true ∧ 8 ≤ widthOf (sFolio 2) 20
    ∧ (portLink (sFolio 2) 20).degraded = false ∧ (portLink (sFolio 2) 20).noLockAt = none := by decide
theorem wit_partner_aligned : folioState (sFolio 3) 20 = 3 ∧ (sFolio 3).val o4200_01 [] < 16 ∧ posTaken (sFolio 3) 15 7 = false
    ∧ (sFolio 3).flag o4200_06 [pP 20] = false := by decide
theorem wit_marker : folioState (sFolio 4) 20 = 4 := by decide
def sBound : State := { sFolio 2 with lane := { ports := [(20, { bound := some (4, 84) })] } }
theorem wit_bound : (portLink sBound 20).bound = some (4, 84) ∧ folioState sBound 20 ≠ 4 ∧ folioState sBound 20 ≠ 5 := by decide

/-! FolioLinksGoDormant -/

def sActive (dreq : Bool) (dack : Option Nat) : State := { withObjs [(o3030_04, [pP 20], 10)] (sFolio 4) with
  lnk := { folio := [(20, { inited := true })] }, lane := { ports := [(20, { dreq := dreq, dackUntil := dack })] } }
theorem wit_idle : folioState (sActive false none) 20 = 4 ∧ (sActive false none).val o3030_04 [pP 20] ≠ 0
    ∧ (folioOf (sActive false none) 20).inited = true ∧ dormantReady (sActive false none) 20 = true
    ∧ (portLink (sActive false none) 20).dreq = false ∧ (portLink (sActive false none) 20).dackUntil = none := by decide
def sWaits : State := { sActive true none with gal := { queues := [((classRef 20 0).key, { ents := [gSend] })] } }
theorem wit_dreq_refused : dormantReady sWaits 20 = false ∧ trafficWaits sWaits 20 = true ∧ (portLink sWaits 20).dreq = true := by decide
theorem wit_dack : trafficWaits (sActive true none) 20 = false ∧ (portLink (sActive true none) 20).dreq = true := by decide
theorem wit_ack : (portLink (sActive false (some 8)) 20).dackUntil = some 8 ∧ folioState (sActive false (some 8)) 20 = 4 := by decide
def sDormant : State := { sFolio 5 with forme := { peer := [(20, some 3)] } }
theorem wit_dormant : folioState sDormant 20 = 5 ∧ Tbl.look none sDormant.forme.peer 20 = some 3 := by decide
theorem wit_clkreq : (withObjs [(o3000_06, [pP 16], 1), (o3014_01, [pL 64], 4)] sRoute).val o3000_06 [pP 16] = 1
    ∧ (withObjs [(o3000_06, [pP 16], 1), (o3014_01, [pL 64], 4)] sRoute).val o3014_01 [pL (4 * 16)] = 4 := by decide

/-! FolioFlitsAreTakenInSequence -/

/-- Port 20 is a joined Folio port in ACTIVE; PBR ID 7 is port 16 of this member. -/
def sJoin (f : Folio) : State := { withObjs [(o4180_01, [pPBR 7], 2 ^ 31 + 2 ^ 30 + 16 * 2 ^ 23)] (sFolio 4) with
  lnk := { folio := [(20, f)] }, lane := { ports := [(20, { joined := true })] }, forme := { bound := [(512, some (3, 2, 1))] } }
def wOne : WireSlot := { cls := 4, dpbr := 7, pkt := { op := .mWr, len := 4, dev := 3, vcs := some 2 } }
theorem wit_flit : roleOf (sJoin {}) 20 = 3 ∧ folioState (sJoin {}) 20 = 4 ∧ (portLink (sJoin {}) 20).joined = true
    ∧ (folioOf (sJoin {}) 20).incoming = (folioOf (sJoin {}) 20).e ∧ (folioOf (sJoin {}) 20).bad = false
    ∧ folioRoute (sJoin {}) wOne wOne.pkt = some (16, 0, 7, false) ∧ farMasterOk (sJoin {}) 16 wOne.spbr.val wOne.pkt = true
    ∧ isAnswer wOne.pkt.op = false ∧ wOne.pkt.forme = none ∧ (sJoin {}).forme.waits = [] ∧ (sJoin {}).forme.inbox = [] := by decide
theorem wit_stray : (folioOf (sJoin { incoming := 4095 }) 20).incoming ≠ (folioOf (sJoin { incoming := 4095 }) 20).e := by decide
def fHeld : Folio := { s := 1, held := [{ slots := [], cb := false }, { slots := [], cb := false }] }
theorem wit_init : (folioOf (sJoin fHeld) 20).inited = false
    ∧ ((0 + 4096 - oldestCount (folioOf (sJoin fHeld) 20)) % 4096 ≤ (folioOf (sJoin fHeld) 20).held.length) := by decide
theorem wit_cb_due : (folioOf (sJoin { cbDue := 9 }) 20).cbDue ≠ 0 := by decide

/-! FolioReplaysAndTracksRequests -/

def fReplay (misses : Nat) : Folio := { fHeld with inited := true, misses := misses }
theorem wit_replay : (folioOf (sJoin (fReplay 0)) 20).held ≠ [] ∧ (folioOf (sJoin (fReplay 0)) 20).inited = true
    ∧ 0 + 1 < (sJoin (fReplay 0)).val o2110_02 [pP 20] ∧ (sJoin (fReplay 15)).val o2110_02 [pP 20] ≤ 15 + 1 := by decide
def sLeak : State := withObjs [(o2100_02, [pP 20, pCLS 4], 100), (o2100_05, [pP 20], 50)] (sJoin { inited := true, minDiff := [(4, some 51)] })
theorem wit_leak : Tbl.look none (folioOf sLeak 20).minDiff 4 = some 51
    ∧ (sLeak.val o2100_02 [pP 20, pCLS 4] - 51) * 100 < sLeak.val o2100_05 [pP 20] * sLeak.val o2100_02 [pP 20, pCLS 4] := by decide
theorem wit_retrain_request : writeGate .manager o2120_01 [pP 20] (sJoin {}) = none
    ∧ (∀ n, Role.manager = .host n → hostBound (sJoin {}) n.val 20 = true) ∧ folioState (sJoin {}) 20 = 4
    ∧ folioState (sFolio 2) 20 ≠ 4 := ⟨by decide, (fun _ h => nomatch h), by decide, by decide⟩
def tReq : Track := ⟨3, { cls := 4, sport := 0, dport := 16, pkt := { op := .mRd, len := 4, tag := 9 } }, 800⟩
def sTrack : State := { sRoute with lnk := { track := [(16, [tReq])] } }
def pAns : Packet := { op := .cplD, len := 4, tag := 9 }
theorem wit_tracker : (roleOf sTrack 16 = 1 ∨ roleOf sTrack 16 = 2) ∧ linkOf sTrack 16 = 2 ∧ isAnswer pAns.op = true
    ∧ quireDark sTrack (quireOf 16) = false ∧ tReq.x.fromHome = false ∧ tReq.x.orig = false ∧ pAns.last = true
    ∧ takeFirst (fun t : Track => t.x.pkt.tag == 9 && answers t.x.pkt.op pAns.op) (tracksOf sTrack 16) = some (tReq, [])
    ∧ takeFirst (fun t : Track => t.x.pkt.tag == 8 && answers t.x.pkt.op pAns.op) (tracksOf sTrack 16) = none
    ∧ firstTrack (tracksOf sTrack 16) = some tReq := by decide

/-! HomesServeTheirLines -/

/-- Range 0 is homed (mode 1) or broadcast-homed (mode 2) in domain 3 and starts at 256 MB; VCS 0 of this member is slot 5 of it;
port 0 is its upstream port, port 16 takes the range. -/
def sHome (mode : Nat) (l : List TSort) (q : Nat) : State := { withObjs [(o5020_01, [pRG 0], 2 ^ 28 + 2 ^ 8 + mode * 2 ^ 6 + 3 * 4),
  (o5010_01, slotPath 3 5, 0), (o5010_02, slotPath 3 5, 1)] sRoute with stg := { toHome := [(q, l)] } }
def xReq (op : MsgOp) (v : Option (Fin 64)) : DSort :=
  { cls := if op.channel = 1 then 1 else 3, midq := 0, dport := 16, pkt := { op := op, addr := 2 ^ 28 + 64, len := 64, vcs := v } }
theorem sHome_home (mode : Nat) (l : List TSort) (q : Nat) : (sHome mode l q).home = {} := by
  unfold sHome; dsimp only; simp [withObjs, sRoute]; rfl
theorem quiet_sHome (mode : Nat) (l : List TSort) (q n : Nat) : HomeQuiet (sHome mode l q) n := by
  unfold HomeQuiet opsOf
  rw [sHome_home]
  exact ⟨rfl, rfl, rfl, (fun _ h => nomatch h), (fun _ h => nomatch h)⟩
theorem wit_home_room : answerRoom (sHome 1 [] 2) (xReq .memRdData (some 0)) = true ∧ answerRoom (sHome 2 [] 2) (xReq .memWr (some 0)) = true
    ∧ isLate (sHome 2 [] 2) (2 ^ 22 + 1) 3 5 = false ∧ (xReq .memWr (some 0)).pkt.inner = false := by decide +kernel
theorem wit_home_refuses : rangeAt (sHome 1 [⟨4, xReq .memRd none⟩] 1) (2 ^ 28 + 64) = some (0, 2 ^ 28 + 2 ^ 8 + 2 ^ 6 + 12)
    ∧ rangeMode (2 ^ 28 + 2 ^ 8 + 2 ^ 6 + 12) ≠ 3 ∧ quireDark (sHome 1 [] 1) 1 = false
    ∧ slotFrom (sHome 1 [] 1) 3 (xReq .memRd none).pkt false = none := by decide
theorem wit_home_spec : slotFrom (sHome 1 [] 1) 3 (xReq .memSpecRd (some 0)).pkt false = some 5
    ∧ homeView (sHome 1 [] 1) 3 5 ≠ 3 := by decide
theorem wit_home_read : fenced (sHome 1 [] 1) (2 ^ 28 + 64) = none ∧ lineOf (sHome 1 [] 1) (2 ^ 22 + 1) = {}
    ∧ homeQuire (2 ^ 28 + 64) = 2 ∧ regionHeld (sHome 1 [] 2) 2 (2 ^ 28 + 64) = false ∧ dirServed (sHome 1 [] 2) 2 (2 ^ 28 + 64) = true
    ∧ findReg (sHome 1 [] 2) 2 (2 ^ 28 + 64) = none
    ∧ freeWay (sHome 1 [] 2) 2 (regionSet (2 ^ 28 + 64)) = some (16 * regionSet (2 ^ 28 + 64))
    ∧ queueOf (sHome 1 [] 2) (stageRef 2 16 3) = {} := by decide
theorem wit_home_write : dirServed (sHome 2 [] 2) 2 (2 ^ 28 + 64) = false ∧ slotFrom (sHome 2 [] 2) 3 (xReq .memWr (some 0)).pkt true = some 5
    ∧ rangeMode (2 ^ 28 + 2 ^ 8 + 2 * 2 ^ 6 + 12) ≠ 3 := by decide
def xCmp : DSort := { cls := 0, hid := 7, pkt := { op := .cmp, addr := 2 ^ 28 + 64 } }
def bSent : WBuf := { hid := 7, line := 2 ^ 22 + 1, x := xReq .memWr (some 0), sent := true }
def sBuffered : State := { sHome 1 [⟨0, xCmp⟩] 2 with home := { wbuf := [(2, [bSent])] } }
theorem wit_device_answer : wbufOf sBuffered 2 = [bSent]
    ∧ Tbl.look [] sBuffered.stg.toHome 2 = ⟨0, xCmp⟩ :: [] ∧ (xReq .memWr (some 0)).hown = false
    ∧ (xReq .memWr (some 0)).orig = false := by decide
theorem wit_stray_answer : homeQuire xCmp.pkt.addr ≠ 6 ∧ (lineOf (sHome 1 [⟨0, xCmp⟩] 6) (2 ^ 22 + 1)).begun = false := by decide
def mSnoop : RMsg := ⟨.biSnpInv, 2 ^ 28 + 64, 1, 0, 2, 3, 2 ^ 5⟩
def sRing : State := { sHome 1 [] 2 with home := { ring := [(0, some mSnoop)] } }
theorem wit_ring : slotsOf mSnoop.mask = [5] ∧ slotPort sRing 3 5 = some 0 ∧ quireOf 0 = (0 + 0) / 2 % 8
    ∧ queueOf sRing (classRef 0 2) = {} ∧ portLost sRing 0 = false ∧ Tbl.look none sRing.home.ring 0 = some mSnoop
    ∧ Tbl.look none sRing.home.ring 1 = none ∧ opsOf sRing 0 = [] := by decide
theorem wit_ring_part : ({ op := .biSnpData, data := 2 ^ 63 } : Packet).op.channel = 5
    ∧ ({ op := .biSnpData, data := 2 ^ 63 } : Packet).data % 2 ^ 64 ≠ 0 := by decide
theorem wit_inspect : writeGate .manager o5042_01 [pQ 7] State.reset = none := by decide

/-! DomainSlotsAndTheirViews -/

theorem nolead_reset : NoLead State.reset := fun h => nomatch h
/-- This device is the lead of a forme of two, member 1 its standby. -/
def sLead : State := withObjs [(o4200_01, [], 0), (o4200_07, [], 0), (o4200_08, [], 3), (o4200_09, [], 1)] (sHome 1 [] 2)
theorem wit_lead_slots : LeadTakes sLead (.slot 4 6 1) ∧ LeadTakes sLead (.slot 3 5 0xFFFF)
    ∧ writeGate .manager o5010_01 (slotPath 4 6) sLead = none ∧ writeGate .manager o5010_01 (slotPath 3 5) sLead = none :=
  ⟨⟨by decide, by decide, rfl, by decide +kernel, by decide⟩, ⟨by decide, by decide, rfl, by decide +kernel, by decide⟩, by decide, by decide⟩
theorem wit_assign : writeGate .manager o5010_01 (slotPath 15 63) State.reset = none ∧ slotState State.reset 15 63 = 0
    ∧ domSlot State.reset 15 0 63 true = none ∧ slotState (sHome 1 [] 2) 3 5 ≠ 0
    ∧ writeGate .manager o5010_01 (slotPath 3 5) (sHome 1 [] 2) = none := by decide
def sLeaving : State := { withObjs [(o5010_02, slotPath 3 5, 2), (o5010_01, slotPath 3 5, 0xFFFF)] (sHome 1 [] 2) with
  home := { leaving := [(64 * 3 + 5, 0)] } }
theorem wit_leaving : slotState sLeaving 3 5 = 2
    ∧ ∀ q : Fin 8, regsWith sLeaving q.val 3 5 = [] ∧ ∀ o ∈ opsOf sLeaving q.val, ∀ k, o.why ≠ .leave 3 5 k :=
  ⟨by decide, fun q => ⟨by revert q; decide, fun _ h => nomatch h⟩⟩
def sIsolated : State := withObjs [(o5030_06, slotPath 3 5, 3), (o5030_01, slotPath 3 5, 2), (o4100_05, [pVCS 0], 2)] (sHome 1 [] 2)
theorem wit_release : writeGate .manager o5030_03 (slotPath 3 5) sIsolated = none ∧ homeView sIsolated 3 5 = 3
    ∧ (∀ x ∈ sIsolated.home.sweeps, ¬ (x.dom = 3 ∧ x.slot = 5)) ∧ slotState sIsolated 3 5 = 1
    ∧ wordActive sIsolated (slotWord sIsolated 3 5) = true := by decide
theorem wit_suspect : writeGate .manager o5030_01 (slotPath 15 63) State.reset = none := by decide
def eReg : DirReg := { sharers := 2 ^ 5 + 1, tag := regionTag (2 ^ 28), state := 1, valid := true }
/-- Slot 5 of domain 3 is swept while the region of its range's first lines is tracked at quire 2. -/
def sSweep : State := { withObjs [(o5030_06, slotPath 3 5, 2)] (sHome 1 [] 2) with
  home := { sweeps := [⟨3, 5, 0⟩] }, dir := { reg := [(2 * 262144 + 16 * regionSet (2 ^ 28), eReg)] } }
theorem wit_sweep_end : takeFirst (fun w : SlotSweep => w.dom == 3 && w.slot == 5) sSweep.home.sweeps = some (⟨3, 5, 0⟩, [])
    ∧ homeView sSweep 3 5 = 2 ∧ regsWith sSweep 2 3 5 = [16 * regionSet (2 ^ 28)] := by decide

/-! DirectorySlicesAreWalkedDrainedAndRebuilt -/

def kReg : Nat := 16 * regionSet (2 ^ 28)
def sWalk (e : DirReg) : State := { sHome 1 [] 2 with dir := { reg := [(2 * 262144 + kReg, e)] } }
theorem wit_walk : sliceState (sWalk eReg) 2 = 0
    ∧ (validRegs (sWalk eReg) 2).find? (fun k => decide (0 ≤ k)) = some kReg ∧ (regEnt (sWalk eReg) 2 kReg).valid = true := by decide
theorem wit_walk_prom : 0 < (sWalk { eReg with prom := true, ref := true }).val o5110_02
      [pDOM (domAt (sWalk { eReg with prom := true, ref := true }) (regionAddr (sWalk { eReg with prom := true, ref := true }) kReg eReg))]
    ∧ (regEnt (sWalk { eReg with prom := true, ref := true }) 2 kReg).prom = true := by decide
def sDemote : State := withObjs [(o5120_01, [pQ 2], 16385)] (sWalk { eReg with prom := true })
theorem wit_demote : 16384 - blocksUsed sDemote 2 < sDemote.val o5120_01 [pQ 2]
    ∧ (validRegs sDemote 2).filter (demotable sDemote 2) = [kReg] := by decide
theorem wit_no_demote : (withObjs [(o5120_01, [pQ 2], 64)] State.reset).val o5120_01 [pQ 2] + 64 ≤ 16384 - blocksUsed State.reset 2 := by decide
theorem wit_slice_out : writeGate .manager o5100_02 [pQ 7] State.reset = none := by decide
def sDrained : State := withObjs [(o5100_01, [pQ 2], 1)] (sWalk eReg)
theorem wit_drained : sliceState sDrained 2 = 1 ∧ drained sDrained 2 = true := by decide
def sOut : State := withObjs [(o5100_01, [pQ 2], 2)] (sHome 1 [] 2)
theorem wit_slice_return : writeGate .manager o5100_03 [pQ 2] sOut = none ∧ sliceState sOut 2 = 2
    ∧ bits (sOut.val oE010_02 [pQ 2, pDIR]) 63 61 ≠ 4 ∧ nextHomed sOut 2 0 = some (2 ^ 28)
    ∧ nextHomed (withObjs [(o5100_01, [pQ 2], 2)] State.reset) 2 0 = none := by decide
def oDone : SnoopOp := { id := 1, dom := 3, msg := .biSnpInvBlk, why := .rebuild, base := 2 ^ 28, count := 16, next := 16, mask := 2 ^ 5 }
def sRebuild (a : Nat) : State := { sOut with home := { ops := [(2, [oDone])] }, dir := { rebuild := [(2, some a)] } }
theorem wit_rebuild : firstDone (sRebuild (2 ^ 28)) 2 (fun w => w == .rebuild) = some oDone
    ∧ (nextHomed (sRebuild (2 ^ 28)) 2 (2 ^ 28 + 4096)).isSome = true ∧ nextHomed (sRebuild (2 ^ 29)) 2 (2 ^ 29) = none := by decide

/-! BlocksAreBoundReleasedAndRebound -/

/-- Block 9 is the first 256 MB of range 0, in a pooled plate; VCS 0 holds PBR ID 7. -/
def sBlock (v : Block) : State := { withObjs [(o6000_01, [pSPACE 0, pPL 0], 2 ^ 20 * 2 ^ 104 + (2 ^ 21 - 1) * 2 ^ 48 + 3 * 2 ^ 30)]
    (sHome 1 [] 2) with blocks := [(9, some v)], vcsPbr := [(0, 7)] }
def vBlk : Block := { base := 1, range := 0, colour := 3, applied := 3 }
set_option maxRecDepth 20000 in
theorem wit_block_bind : writeGate .manager o5220_01 [pCB 9] (sBlock vBlk) = none ∧ blk (sBlock vBlk) 9 = some vBlk
    ∧ opsRunning (sBlock vBlk) < 256 ∧ ownerOk (sBlock vBlk) vBlk 0 7 = true ∧ inPooledPlate (sBlock vBlk) vBlk = true
    ∧ freeSlot (sBlock vBlk) 0 7 = some 0 ∧ ownerOk (sBlock vBlk) vBlk 1 3 = true := by decide +kernel
theorem wit_block_bound : blk (sBlock { vBlk with state := 1, owner := 7 }) 9 = some { vBlk with state := 1, owner := 7 }
    ∧ blk (sBlock { vBlk with run := true }) 9 = some { vBlk with run := true } := by decide
def vRun (step : Nat) : Block := { vBlk with run := true, cmd := true, next := 7, step := step }
def rStep (step : Nat) : JRec := { seq := 1, block := 9, step := step, rec_ := vRun step, colour := 0, time := 0 }
def sJournal : State := { sBlock (vRun 5) with pool := { wait := [rStep 5] } }
theorem wit_journal : sJournal.pool.wait = rStep 5 :: [] ∧ (rStep 5).begun = true ∧ blk sJournal (rStep 5).block = some (vRun 5)
    ∧ (vRun 5).base = (rStep 5).rec_.base ∧ (vRun 5).opid = (rStep 5).rec_.opid ∧ vinWarn sJournal = false := by decide
theorem wit_presentation : writeGate .manager o5230_01 [pVCS 63] State.reset = none := by decide

/-! BlockOperationsGoOnStepByStep -/

def sAsk (ask : Nat) : State := sBlock { vRun 1 with state := 1, owner := 7, ask := ask, until_ := 60 }
theorem wit_ask : blk (sAsk 5) 9 = some { vRun 1 with state := 1, owner := 7, ask := 5, until_ := 60 } ∧ bit 5 0 = true
    ∧ askBit (sAsk 5) { vRun 1 with owner := 7 } 0 0 = 0 ∧ dropSlot 5 0 ≠ 0 ∧ dropSlot 1 0 = 0 ∧ (sAsk 5).forme.asked = [] := by decide
theorem wit_colour_done : blk (sBlock (vRun 5)) 9 = some (vRun 5) ∧ (vRun 5).waitRec = false ∧ (vRun 5).colourDone = none
    ∧ otherMembers (sBlock (vRun 5)) = [] := by decide
theorem wit_transit : blk (sBlock { vRun 3 with colourDone := some 4 }) 9 = some { vRun 3 with colourDone := some 4 }
    ∧ blockSettled (sBlock { vRun 3 with colourDone := some 4 }) { vRun 3 with colourDone := some 4 } = true
    ∧ blockSettled { sBlock (vRun 3) with home := { wbuf := [(2, [bSent])] } } (vRun 3) = false := by
  decide
def vScrub (next fails : Nat) : Block := { vRun 4 with state := 3, next := next, fails := fails, scrubAt := some 8, scrubm := 1 }
theorem wit_scrub : blk (sBlock (vScrub 0xFFF 0)) 9 = some (vScrub 0xFFF 0) ∧ (vScrub 7 0).next ≠ 0xFFF
    ∧ (vScrub 7 0).fails + 1 < (sBlock (vScrub 7 0)).val o5210_05 [] ∧ (sBlock (vScrub 7 6)).val o5210_05 [] ≤ (vScrub 7 6).fails + 1 := by
  decide
theorem wit_scrub_link : linkOf (sBlock (vScrub 7 0)) (blockPort (vScrub 7 0)) = 2 ∧ recalling (sBlock (vScrub 7 0)) 9 = false := by decide
theorem wit_add_response : (ownersOf (sBlock { vBlk with state := 1, owner := 7 }) 0 7).any (fun o => o.2 == (ownPos State.reset, 0)) = true := by decide
theorem wit_far_response : takeFirst (fun a : Nat × Nat × Nat × Nat => a.2 == (9, 0, 2)) [(3, 9, 0, 2)] = some ((3, 9, 0, 2), []) := by decide

/-! RangesConvertAndSnoopsEnd -/

def vRange (mode : Nat) : Nat := 2 ^ 28 + 2 ^ 8 + mode * 2 ^ 6 + 3 * 4
theorem wit_range : writeGate .manager o5020_01 [pRG 0] (sHome 2 [] 2) = none ∧ (sHome 2 [] 2).val o5020_02 [pRG 0] ≠ 2
    ∧ rangeBad (sHome 2 [] 2) 0 (vRange 2) (vRange 3) = false ∧ rangeBad (sHome 2 [] 2) 0 (vRange 2) (vRange 2) = false
    ∧ rangeBad (sHome 2 [] 2) 0 (vRange 2) (vRange 2 + 2 ^ 28) = true ∧ rangeBad State.reset 0 0 (vRange 1) = false
    ∧ rangeMode (vRange 1) ≠ 0 ∧ rangeBlocks (vRange 1) ≤ 65536 := by decide
def sConv : State := { withObjs [(o5020_02, [pRG 0], 2)] (sHome 2 [] 2) with home := { conv := [(0, some (vRange 3))] } }
theorem wit_conversion : Tbl.look none sConv.home.conv 0 = some (vRange 3) ∧ sConv.val o5020_02 [pRG 0] = 2
    ∧ rangeQuiet sConv 0 (rangeBase (sConv.val o5020_01 [pRG 0])) (rangeBlocks (sConv.val o5020_01 [pRG 0])) = true := by decide
def oWait : SnoopOp := { id := 1, dom := 3, msg := .biSnpInv, why := .failed, base := 2 ^ 28, count := 1, next := 1, mask := 32,
                         waits := [⟨5, 2 ^ 28 + 64, 400⟩] }
def xRsp : DSort := { cls := 2, home := true, pkt := { op := .biRspI, addr := 2 ^ 28 + 64, tag := 1, vcs := some 0 } }
def sSnooped (l : List SnoopOp) : State := { sHome 1 [⟨4, xRsp⟩] 2 with home := { ops := [(2, l)] } }
theorem wit_snooped : opsOf (sSnooped [oWait]) 2 = [oWait] ∧ oWait.id = xRsp.pkt.tag ∧ slotFrom (sSnooped [oWait]) 3 xRsp.pkt true = some 5
    ∧ domAt (sSnooped []) xRsp.pkt.addr = 3 ∧ homedHere (sSnooped []) xRsp.pkt.addr = true ∧ oWait.todo = [] ∧ quireDark (sSnooped []) 2 = false := by decide
def sEnds (w : SnoopFor) (e : DirReg) : State := { sWalk e with home := { ops := [(2, [{ oWait with waits := [], why := w }])] } }
theorem wit_recall_done : firstDone (sEnds (.recallOf kReg 1 32) eReg) 2 (fun w => match w with | .recallOf .. => true | _ => false) =
    some { oWait with waits := [], why := .recallOf kReg 1 32 }
    ∧ ((slotsOf eReg.sharers).all fun n => homeView (sEnds (.recallOf kReg 1 32) eReg) 3 n != 3) = true
    ∧ homedStill (sEnds (.recallOf kReg 1 32) eReg) (regionAddr (sEnds (.recallOf kReg 1 32) eReg) kReg eReg) = true := by decide
theorem wit_evict_done : firstDone (sEnds (.evict kReg) eReg) 2 (fun w => match w with | .evict _ => true | _ => false) =
    some { oWait with waits := [], why := .evict kReg } := by decide
theorem wit_demote_done : firstDone (sEnds (.demote kReg []) { eReg with prom := true, busy := 3 }) 2
    (fun w => match w with | .demote .. => true | _ => false) = some { oWait with waits := [], why := .demote kReg [] }
    ∧ demoteLines (sEnds (.demote kReg []) { eReg with prom := true, busy := 3 }) 2 kReg = [] := by decide

/-! RingsAreAssignedEnabledAndSquashed -/

/-- Ring 9 belongs to engine 0, in the internal space, at unit 2 of quire 0. -/
def vRing : Nat := 2 ^ 31 + 0x1840 * 2 ^ 18 + 2 * 2 ^ 13 + 2 ^ 12
def vCfg : Nat := 2 ^ 63 + 4 * 2 ^ 58 + 5 * 2 ^ 53 + 16 * 2 ^ 24 + 2 * 2 ^ 8
def sRing9 (v : Ring) : State := { withObjs [(o8000_01, [pRI 9], vRing)] State.reset with plat := { ring := [(9, v)] } }
def rOn : Ring := { state := 1, cfg := vCfg % 2 ^ 63, sqHead := 1, sqTail := 3, cqHead := 1, cqTail := 4 }
theorem wit_ring_assign : writeGate .manager o8000_01 [pRI 9] (sRing9 {}) = none ∧ vRing < 2 ^ 32
    ∧ ownerAllowed (ringOwner vRing) = true ∧ isFnOwner (ringOwner vRing) = false ∧ ringUnit vRing / 4 = 9 / 8192
    ∧ ringUnit (vRing + 2 ^ 17) / 4 ≠ 9 / 8192 ∧ vRing + 2 ^ 13 ≠ ringWord (sRing9 {}) 9 := by decide
theorem wit_ring_page : pageTakes (sRing9 {}) 9 = true ∧ ringDark (sRing9 {}) 9 = false ∧ pageTakes (sRing9 rOn) 9 = true
    ∧ pageTakes (sRing9 { rOn with state := 4 }) 9 = true := by decide
theorem wit_ring_enable : bit vCfg 63 = true ∧ enableOk (ringOwner (ringWord (sRing9 {}) 9)) {} vCfg = true
    ∧ enableOk (ringOwner (ringWord (sRing9 {}) 9)) {} (2 ^ 63) = false := by decide
theorem wit_ring_index : 15 < sqSize rOn ∧ sqDepth rOn ≤ sqDepth { rOn with sqTail := 15 } ∧ ¬ 16 < sqSize rOn
    ∧ 4 < cqSize rOn ∧ cqDepth { rOn with cqHead := 4 } ≤ cqDepth rOn ∧ ¬ cqDepth { rOn with cqHead := 5 } ≤ cqDepth rOn := by decide
theorem wit_ring_squash : writeGate .manager o8000_06 [pRI 9] (sRing9 rOn) = none := by decide
theorem wit_ring_drain : (ringOf (sRing9 { state := 5, assign := some (vRing + 2 ^ 13) }) 9).left = [] := by decide
def aLeft : PAcc := { pid := 3, off := 0, len := 8, write := true }
def sResidue : State := { sRing9 { state := 5, left := [aLeft] } with
  stg := { expQ := [(0, [{ cls := 3, orig := true, pid := 3, pkt := { op := .memWr } }])] } }
theorem wit_ring_residue : (ringOf sResidue 9).left = [aLeft] ∧ pidInside sResidue 3 = true
    ∧ Tbl.look none sResidue.plat.residue (ringOwner (ringWord sResidue 9)) ≠ some 0 := by decide

/-! PlatenFetchesServesAndCompletes -/

/-- The engine of ring 9 holds colour 1, and a locked plate of it covers the first 4 KB of the spine's SRAM. -/
def sPlaten (v : Ring) : State := { withObjs [(o8000_01, [pRI 9], vRing), (o6001_01, [pSPACE 1], 1), (o6010_01, [pIN 0x1840], 1), (o6010_02, [pIN 0x1840], 1),
  (o6000_01, [pSPACE 1, pPL 0], 5 * 2 ^ 32 * 2 ^ 104 + (5 * 2 ^ 32 + 15) * 2 ^ 48 + 2 ^ 32 + 2 ^ 31)] State.reset with
  plat := { ring := [(9, v)] } }
def wFill : Nat := 2 * 2 ^ 504 + 3 * 2 ^ 500 + 16 * 2 ^ 448 + (5 * 2 ^ 40 + 64) * 2 ^ 320 + 0xABCD * 2 ^ 256
def rFetch : Ring := { rOn with hasFifo := true, sqBase := 5 * 2 ^ 40, cqBase := 5 * 2 ^ 40 + 1024 }
theorem wit_fetch : quireDark (sPlaten rFetch) 0 = false ∧ unitRings (sPlaten rFetch) 2 0 (fun _ v =>
      v.state == 1 && v.hasFifo && !v.disabling && sqDepth v != 0 && decide (v.fifo.length < 16)) = [9]
    ∧ ringInside (ringWord (sPlaten rFetch) 9) = true ∧ ringInside (vRing - 2 ^ 12) = false := by decide
def eFill : PExec := { word := wFill, idx := 0, next := 8 }
def sFill : State := sPlaten { rFetch with run := [eFill] }
theorem wit_chunk : nextRing sFill 2 = some (9, true) ∧ hasWork eFill = true ∧ dOp wFill = 2 ∧ dasp wFill = 3
    ∧ min 4096 (dLen wFill - 8) = 8 ∧ dDst wFill + 8 = 5 * 2 ^ 40 + 72 ∧ insideOk sFill (5 * 2 ^ 40 + 72) 8 true = true
    ∧ heldIn sFill (5 * 2 ^ 40 + 72) 8 = none := by decide +kernel
/-- With no commit under way and no block, a checker decides whatever its free value is. -/
theorem frisk_settled (ck i : Nat) (pasid : Option Nat) (sp a n : Nat) (s : State) (h : s.val o6020_03 [] ≠ 1) (hb : s.blocks = []) :
    (friskAsk ck i pasid sp a n false s).1 = friskCheck { s with freeCtr := s.freeCtr + 1 } ck i pasid sp a n false := by
  have h' : ({ s with freeCtr := s.freeCtr + 1 } : State).val o6020_03 [] ≠ 1 := h
  simp only [friskAsk, friskTurn, freshValue, h', false_and, if_false]
  split
  · simp only [hb, List.map_nil]
  · rfl
theorem wit_chunk_allowed : (friskAsk (ckUnit 2) 0x1840 none 1 (5 * 2 ^ 40 + 72) 8 false sFill).1 = .allow := by
  rw [frisk_settled _ _ _ _ _ _ _ (by decide) rfl]; decide +kernel
def xAnswer (pid : Nat) : DSort := { cls := 0, orig := true, srcq := 0, sport := 0x12, pid := pid, pkt := { op := .cmp, err := true } }
def sAnswered : State := { sPlaten { rFetch with run := [{ eFill with accs := [aLeft] }] } with stg := { toUnit := [⟨0, xAnswer 3⟩] } }
theorem wit_access_response : takeFirst (fun t : TSort => t.x.orig && t.x.srcq == 0 && t.x.sport == 0x10 + 2) sAnswered.stg.toUnit =
      some (⟨0, xAnswer 3⟩, []) ∧ ringWaits sAnswered 3 = some 9 ∧ ringWaits sAnswered 4 = none := by decide
def sOver : State := sPlaten { rFetch with run := [{ eFill with next := 16 }] }
theorem wit_complete : hasWork { eFill with next := 16 } = false ∧ heldIn sOver (5 * 2 ^ 40 + 1024 + 32 * 4) 32 = none
    ∧ quireDark sOver 0 = false := by decide +kernel

/-! SlotChannelsRampTripAndRestart -/

/-- Port 5 has slot channel 3, in a state of the channel. -/
def sChan (st n : Nat) (c : Chan) : State := { withObjs [(o4420_02, [pP 5], 3), (oA010_01, [pSP 3], st), (oA010_0A, [pSP 3], n)] State.reset with
  slots := { chan := [(3, c)] } }
theorem wit_channel_on : writeGate .manager oA010_0B [pSP 3] (sChan 0 0 {}) = none ∧ chanState (sChan 0 0 {}) 3 = 0
    ∧ chanPort (sChan 0 0 {}) 3 = some 5 ∧ vppbsOf (sChan 0 0 {}) 5 = [] ∧ boundFar (sChan 0 0 {}) 5 = false := by decide +kernel
def sChanBound : State := withObjs [(o4110_01, [pVCS 2, pV 1], 0x800A0000)] (sChan 0 0 {})
theorem wit_channel_bound : writeGate .manager oA010_0B [pSP 3] sChanBound = none
    ∧ ((chanPort sChanBound 3).all fun p => (vppbsOf sChanBound p).isEmpty && !boundFar sChanBound p) = false := by decide +kernel
theorem wit_channel_ramp : chanState (sChan 1 1 { since := 7 }) 3 = 1 ∧ (chanOf (sChan 1 1 { since := 7 }) 3).goodAt = none
    ∧ (sChan 1 1 {}).val oA010_03 [pSP 3] < 100000 ∧ (sChan 1 1 {}).val oA010_04 [pSP 3] < 100000
    ∧ ((chanPort (sChan 1 1 {}) 3).all fun p => linkOf (sChan 1 1 {}) p == 0) = true := by decide +kernel
def sChanGood : State := sChan 1 1 { since := 7, goodAt := some 9 }
theorem wit_channel_perst : chanState sChanGood 3 = 1 ∧ (chanOf sChanGood 3).goodAt = some 9 ∧ present sChanGood 5 = false
    ∧ expanderOf sChanGood 5 = none ∧ present (withObjs [(o2020_03, [pP 5], 1)] sChanGood) 5 = true
    ∧ noTraining (withObjs [(o2020_03, [pP 5], 1)] sChanGood) 5 = false ∧ foreignSwitch (withObjs [(o2020_03, [pP 5], 1)] sChanGood) 5 = false := by decide +kernel
theorem wit_channel_cooling : chanState (sChan 3 1 {}) 3 = 3 := by decide
theorem wit_latched : writeGate .manager oA010_0C [pSP 3] (sChan 4 9 {}) = none ∧ chanState (sChan 4 9 {}) 3 = 4 := by decide

/-! SlotControlsActAndAreShown -/

/-- VCS 2 has four vPPBs; its vPPB 1 is bound to a word; port 5 has slot channel 3. -/
def sSlotCtl (w : Nat) : State := withObjs [(o4420_02, [pP 5], 3), (o4100_02, [pVCS 2], 1), (o4100_03, [pVCS 2], 4), (o2020_01, [pP 5], 2),
  (o2020_01, [pP 6], 2), (o2020_03, [pP 5], 1), (o4110_01, [pVCS 2, pV 1], w), (o4100_05, [pVCS 2], 2), (oD000_03, [], 3)] State.reset
theorem wit_slot_takes : HostTakes (sSlotCtl 0) 2 (.vppb 1) ∧ HostTakes (sSlotCtl 0x800A0000) 2 (.vppb 1)
    ∧ HostTakes (sSlotCtl 0x900A0000) 2 (.vppb 1) := by unfold HostTakes; decide +kernel
theorem wit_slot_control : recState 0 = 0 ∧ recState 0x800A0000 = 2 ∧ recDev 0x800A0000 = ownPos (sSlotCtl 0) ∧ recKind 0x800A0000 = 0 ∧ recPort 0x800A0000 = 5
    ∧ recKind 0x900A0000 = 1 ∧ channelOf (sSlotCtl 0) 5 = some 3 ∧ channelOf (sSlotCtl 0) 6 = none
    ∧ present (sSlotCtl 0) 5 = true ∧ noTraining (sSlotCtl 0) 5 = false ∧ foreignSwitch (sSlotCtl 0) 5 = false ∧ linkOf (sSlotCtl 0) 5 = 0 := by decide +kernel
def sBlink : State := setCfg (vppbFn 2 1) .slotCtl (2 * 64 + 3 * 256) (sSlotCtl 0x800A0000)
theorem wit_blink : wholeVppb sBlink 5 = some (2, 1) ∧ (channelOf sBlink 5).isSome = true
    ∧ bits (cfgOf sBlink (vppbFn 2 1) .slotCtl) 7 6 = 2 := by decide +kernel
theorem wit_button : roleOf (sSlotCtl 0) 5 = 2 ∧ boundFar (sSlotCtl 0) 5 = false ∧ vppbsOf (sSlotCtl 0) 5 = [] ∧ vppbsOf (sSlotCtl 0x800A0000) 5 = [(2, 1)] := by
  decide +kernel
def sSlotBus : State := { withObjs [(oA020_01, [pP 5], 2 ^ 31 + 2 ^ 14 + 33 * 2 ^ 7)] (sSlotCtl 0x800A0000) with
  slots := { bad := [(128 + 33, some 4)], fails := [(128 + 33, 2)] } }
theorem wit_slot_bus : expanderPorts sSlotBus (128 + 33) = [(5, 0)] ∧ expanderPorts sSlotBus 1 = []
    ∧ Tbl.look 0 sSlotBus.slots.fails (128 + 33) = 2 ∧ Tbl.look none sSlotBus.slots.bad (128 + 33) = some 4
    ∧ bits 6 (4 * 0 + 2) (4 * 0 + 1) = 3 ∧ bit (Tbl.look 0xF sSlotBus.slots.ins 5) 0 ≠ bit 6 (4 * 0) := by decide +kernel

/-! ImpositionMissIsUnsupported -/

/-- VCS 2 is enabled with upstream port 5 and a 16 MB BAR4; window 7 of it leads to port 21. -/
def vWin : Nat := (21 * 2 ^ 53 + 5 * 2 ^ 12) * 2 ^ 64 + 3 * 2 ^ 32 + 12 * 2 ^ 26 + 2 ^ 24 + 2 * 2 ^ 16 + 2 ^ 15
def sHost : State := withObjs [(o2020_01, [pP 5], 1), (o2020_02, [pP 5], 2), (o4100_01, [pVCS 2], 5), (o4100_02, [pVCS 2], 1),
  (o4100_03, [pVCS 2], 4), (o4100_05, [pVCS 2], 2), (o4400_01, [pVCS 2], 24), (o4400_02, [pVCS 2], 3), (oD000_03, [], 1)] State.reset
def sWin : State := withObjs [(o4410_01, [pIW 7], vWin), (o4410_02, [pIW 7], 1)] sHost
theorem wit_bar4_miss : sWin.flag o4100_02 [pVCS 2] = true ∧ upOf sWin 2 = some 5 ∧ linkOf sWin 5 = 2 ∧ inD3 sWin 2048 = false
    ∧ flrRuns sWin 2048 = false ∧ sWin.net.imp = [] ∧ windowAt sWin 1 2 0 = none ∧ windowAt sWin 1 2 0x3008 = some (7, vWin)
    ∧ winWrite vWin = false ∧ winRead vWin = true := by decide +kernel
theorem wit_origin_free : OriginFree sHost 0 5 := ⟨rfl, rfl, rfl, rfl, by decide, fun _ => rfl, rfl,
  fun c => by unfold originOk; split <;> rfl⟩
theorem wit_bar4_window : 12 ≤ winSize vWin ∧ winBase vWin % 2 ^ winSize vWin = 0 ∧ winBase vWin = 0x3000 := by decide

/-! ImpositionTranslatesAndWindowsTurnOff -/

/-- The target of window 7, and one in a homed range, under locked plates of colour 1 that VCS 2 holds. -/
def sWinGo (w : Nat) : State := withObjs [(o6001_01, [pSPACE 0], 1), (o6010_01, [pIN 2], 1), (o6010_02, [pIN 2], 1),
  (o6000_01, [pSPACE 0, pPL 0], (2 ^ 56 - 1) * 2 ^ 48 + 2 ^ 32 + 2 ^ 31), (o5020_01, [pRG 0], (44 * 2 ^ 24) * 2 ^ 28 + 4 * 2 ^ 8 + 64),
  (o4410_01, [pIW 7], w)] sWin
/-- A window into the homed range at port 22, for reads and writes. -/
def vWinHome : Nat := (22 * 2 ^ 53 + 5 * 2 ^ 12) * 2 ^ 64 + 3 * 2 ^ 32 + 12 * 2 ^ 26 + 2 ^ 24 + 2 * 2 ^ 16 + 2 ^ 15 + 2 ^ 14
theorem wit_bar4_go : windowAt (sWinGo vWin) 1 2 0x3008 = some (7, vWin) ∧ caDev (winAddr vWin 0x3008) = ownPos (sWinGo vWin)
    ∧ winAddr vWin 0x3008 % 64 + 8 ≤ 64 ∧ homedHere (sWinGo vWin) (winAddr vWin 0x3008) = false
    ∧ firstCut (winAddr vWin 0x3008) 8 (readCut (sWinGo vWin) 21) = 8 ∧ upOf (sWinGo vWin) 2 = some 5
    ∧ homedHere (sWinGo vWinHome) (winAddr vWinHome 0x3008) = true ∧ caPort (winAddr vWin 0x3008) = 21 := by decide +kernel
theorem wit_bar4_allowed : (friskAsk (ckImp 1) 2 none 0 (winAddr vWin 0x3008) 8 false (sWinGo vWin)).1 = .allow := by
  rw [frisk_settled _ _ _ _ _ _ _ (by decide) rfl]; decide +kernel
theorem wit_bar4_credit : creditOf (sWinGo vWinHome) (impQuire (winAddr vWinHome 0x3008))
    (substQuire (sWinGo vWinHome) (homeQuire (winAddr vWinHome 0x3008))) 3 ≠ 0 ∧ impQuire (winAddr vWin 0x3008) = 1 := by decide +kernel
theorem wit_window_off : writeGate .manager o4410_01 [pIW 7] sWin = none ∧ sWin.val o4410_02 [pIW 7] ≠ 2 ∧ winOkind (winOf sWin 7) = 1
    ∧ winOkind (winOf State.reset 7) = 0 := by decide +kernel
/-- Window 7 belongs to engine 1, which has a load under way in it. -/
def xImp : ImpWait := { window := 7, who := .load 1, addr := 0, len := 8, write := false, parts := [{ pid := 4, off := 0, len := 8 }] }
def sWinBusy : State := { withObjs [(o4410_01, [pIW 7], vWin + 2 ^ 24 - 2 ^ 16)] sWin with net := { imp := [(0, some xImp)] } }
theorem wit_window_busy : winOkind (winOf sWinBusy 7) = 2 ∧ sWinBusy.net.imp = [(0, some xImp)]
    ∧ writeGate .manager o4410_01 [pIW 7] sWinBusy = none := by decide +kernel

/-! InterruptsAreSignalledMaskedAndReleased -/

def sVec (cmd ctl ent : Nat) (h : HostView) : State := setMsixEntry 2048 3 ent (setCfg 2048 .command cmd (setCfg 2048 .msixCtl ctl
  { sHost with host := h }))
def vEnt : Nat := 0x1234 * 2 ^ 64 + 0xFEE00000
theorem wit_vector : hasFunc (sVec 4 0x8000 vEnt {}) 2 .pf = true ∧ (3 : Nat) < vectorsOf .pf ∧ fnKey 2 .pf = 2048
    ∧ flrRuns (sVec 4 0x8000 vEnt {}) 2048 = false ∧ msixOn (sVec 4 0x8000 vEnt {}) 2048 = true ∧ msixMask (sVec 4 0x8000 vEnt {}) 2048 = false
    ∧ mayMaster (sVec 4 0x8000 vEnt {}) 2048 = true ∧ upOf (sVec 4 0x8000 vEnt {}) 2 = some 5
    ∧ msixMask (sVec 4 0xC000 vEnt {}) 2048 = true ∧ mayMaster (sVec 0 0x8000 vEnt {}) 2048 = false := by decide +kernel
theorem wit_vf : hasFunc (setCfg 2048 .numVfs 3 (setCfg 2048 .sriovCtl 1 sHost)) 2 (.vf 1) = true ∧ (63 : Nat) < vectorsOf (.vf 1) := by
  decide +kernel
theorem wit_unmask : (sVec 4 0x8000 (vEnt + 2 ^ 96) { pba := [(2048 * 2048 + 3, true)] }).host.pba = [(2048 * 2048 + 3, true)] := by decide
def hInta : HostView := { events := [(2048 * 2048 + 3, true)], intx := [(2048, true)] }
theorem wit_inta : msixOn (sVec 4 0 vEnt hInta) 2048 = false ∧ intxOff (sVec 4 0 vEnt {}) 2048 = false
    ∧ (sVec 4 0 vEnt hInta).host.events = [(2048 * 2048 + 3, true)] ∧ (sVec 4 0 vEnt hInta).host.intx = [(2048, true)] := by decide
theorem wit_doorbell : storesSeen sHost 1 = true ∧ storesSeen { sHost with net := { eng := [(1, { sb := [⟨0, 8, 0, 0⟩] })] } } 1 = false := by
  decide
/-- Ring 9 belongs to the management function of VCS 2. -/
def sFnRing (st : Nat) : State := { withObjs [(o8000_01, [pRI 9], 2 ^ 31 + 2 * 2 ^ 18 + 2 * 2 ^ 13)] sHost with
  plat := { ring := [(9, { state := st, prev := 2 })] } }
theorem wit_bus_master : ringsOf (sFnRing 1) (initOfFn (sFnRing 1) 2048) = [9] ∧ ownsRings .pf = true ∧ ringsOf (sFnRing 1) 2 = [9]
    ∧ hasFunc (sFnRing 1) 2 .pf = true := by decide +kernel
theorem wit_d0 : inD3 (setCfg 2048 .pmcsr 3 (setCfg 2048 .command 4 (sFnRing 3))) 2048 = true
    ∧ bmeOf (setCfg 2048 .pmcsr 3 (setCfg 2048 .command 4 (sFnRing 3))) 2048 = true := by decide
theorem wit_vector_takes : HostTakes (sVec 4 0 vEnt hInta) 2 .pf ∧ HostTakes (sFnRing 1) 2 .pf ∧ HostTakes (sVec 4 0 vEnt {}) 2 .pf
    ∧ inD3 (sFnRing 1) 2048 = false ∧ HostTakes (setCfg 2048 .pmcsr 3 (setCfg 2048 .command 4 (sFnRing 3))) 2 .pf := by
  unfold HostTakes; decide +kernel

/-! FunctionsAreResetEnabledAndConfigured -/

theorem wit_flr : ownsRings .pf = true ∧ flrRuns (sFnRing 1) (fnKey 2 .pf) = false
    ∧ ringsOf (sFnRing 1) (initOfFn (sFnRing 1) (fnKey 2 .pf)) = [9] ∧ (ringOf (sFnRing 1) 9).state ≠ 0 := by decide +kernel
def sFlr : State := { sHost with host := { flr := [(2048, some 40)], cfg := [(2048 * 64 + 1, 6)], pba := [(2048 * 2048 + 5, true)] } }
theorem wit_flr_complete : Tbl.look none sFlr.host.flr 2048 ≠ none ∧ ringsOf sFlr (initOfFn sFlr 2048) = [] ∧ vfsOf sFlr 2 = 0 := by
  decide +kernel
def sVfs : State := setCfg 2048 .numVfs 3 (setCfg 2048 .sriovCtl 1 { sHost with host := { vfWait := [(2, some 40)] } })
theorem wit_vfs : vfsOf sVfs 2 = 3 ∧ Tbl.look none sVfs.host.vfWait 2 = some 40 ∧ bit (cfgOf sVfs (2 * 1024) .sriovCtl) 0 = true
    ∧ bit (cfgOf sHost (2 * 1024) .sriovCtl) 0 = false := by decide +kernel
def sBindHost : State := withObjs [(o2020_03, [pP 6], 1), (o4110_01, [pVCS 2, pV 1], 0x800C0000)] { sHost with
  host := { crs := [(2, some 9)], dpcOn := [(128 * 2 + 1, true)] } }
theorem wit_hot_reset : writeGate .manager oD002_01 [pVCS 2] sBindHost = none ∧ bindsOf sBindHost 2 = [(1, 0x800C0000)]
    ∧ Tbl.look none sBindHost.host.crs 2 ≠ none ∧ recPort 0x800C0000 = 6 ∧ recDev 0x800C0000 = ownPos sBindHost := by decide +kernel
def sDpc : State := { sBindHost with host := { sBindHost.host with crs := [] } }
theorem wit_dpc_takes : HostTakes sDpc 2 (.vppb 1) ∧ HostTakes sHost 2 .pf ∧ HostTakes { sVfs with host := { sVfs.host with vfWait := [] } } 2 .pf := by
  unfold HostTakes; decide +kernel
theorem wit_dpc : dpcOf sDpc 2 1 = true ∧ bindLive (bindRec sDpc 2 1) = true ∧ present sDpc 6 = true ∧ noTraining sDpc 6 = false
    ∧ foreignSwitch sDpc 6 = false := by decide +kernel
theorem wit_config : retryStatus sHost 2 .pf = false ∧ hasFunc sHost 2 .pf = true ∧ hasFunc sHost 2 (.vf 0) = false
    ∧ retryStatus sBindHost 2 .pf = true ∧ sHost.val o4100_05 [pVCS 2] = 2 := by decide +kernel

/-! LaneGroupsAndVcsEnables -/

/-- Group 1 has an upstream x4 port 5; its shadow word makes port 6 downstream x4 too. -/
def vGroup : Nat := 0x50 * 256 + 0x90 * 65536
def sGroup (w : Nat) (c : Option Nat) : State := { withObjs [(o2010_02, [pG 1], 0x50 * 256), (o2010_01, [pG 1], w), (o2020_01, [pP 5], 1),
  (o4100_01, [pVCS 2], 5)] State.reset with lane := { commits := Tbl.upd none [] 1 c } }
theorem wit_commit : writeGate .manager o2011_00 [pG 1] (sGroup vGroup none) = none ∧ groupFaulty vGroup = false
    ∧ groupFaulty (vGroup + 0x10) = false ∧ groupFaulty 0x5890 = true
    ∧ upstreams vGroup + (((List.range 32).filter (· != 1)).map fun h => upstreams (groupWord (sGroup vGroup none) h)).sum ≤ 64
    ∧ ((slotsChanged 1 ((sGroup vGroup none).val o2010_02 [pG 1]) vGroup).all fun p => quiesced (sGroup vGroup none) p) = true
    ∧ Tbl.look none (sGroup vGroup (some 3)).lane.commits 1 ≠ none := by decide +kernel
theorem wit_commit_applied : Tbl.look none (sGroup 0 (some vGroup)).lane.commits 1 = some vGroup
    ∧ slotsChanged 1 ((sGroup 0 (some vGroup)).val o2010_02 [pG 1]) vGroup = [6] ∧ roleOf (sGroup 0 (some vGroup)) 6 = 0
    ∧ slotRole (slotByte vGroup 6) = 2 ∧ slotsChanged 1 ((sGroup 0 (some (0x50 * 256))).val o2010_02 [pG 1]) (0x50 * 256) = [] := by decide +kernel
theorem wit_vcs_enable : writeGate .manager o4100_02 [pVCS 2] (sGroup 0 none) = none ∧ roleOf (sGroup 0 none) 5 = 1
    ∧ vcsOfUp (sGroup 0 none) 5 = none ∧ vppbTotal (sGroup 0 none) + (sGroup 0 none).val o4100_03 [pVCS 2] ≤ 2048
    ∧ sHost.flag o4100_02 [pVCS 2] = true ∧ writeGate .manager o4100_02 [pVCS 2] sHost = none := by decide +kernel

/-! BindToAnEmptyPortGoesToBound -/

/-- VCS 2 with four vPPBs, and an empty downstream port 6. -/
def sBindFree : State := withObjs [(o2020_01, [pP 6], 2)] sHost
theorem wit_bind_empty : writeGate .manager o4110_02 [pVCS 2, pV 1] sBindFree = none ∧ recState (bindRec sBindFree 2 1) = 0
    ∧ (1 : Nat) < sBindFree.val o4100_03 [pVCS 2] ∧ presents sBindFree 2 1 = false ∧ targetFaulty sBindFree 2 (6 * 2 ^ 17) = false
    ∧ ((sBindFree.listed o4110_01).any fun e => recState e.2 != 0 && sameTarget e.2 (6 * 2 ^ 17)) = false
    ∧ present sBindFree 6 = false ∧ ownPos sBindFree = 0 := by decide +kernel
theorem wit_bind_nolead : NoLead sBindFree := by unfold NoLead; decide
/-- The same at member 0, which leads a forme of its own and member 1, without a standby. -/
def sBindLead : State := withObjs [(o4200_01, [], 0), (o4200_08, [], 3), (o4200_07, [], 0)] sBindFree
theorem wit_bind_lead : writeGate .manager o4110_02 [pVCS 2, pV 1] sBindLead = none ∧ targetFaulty sBindLead 2 (6 * 2 ^ 17) = false
    ∧ formed sBindLead = true ∧ sBindLead.val o4200_07 [] = ownPos sBindLead ∧ sBindLead.val o4200_09 [] = 0xFF
    ∧ sBindLead.forme.waits = [] := by decide +kernel

/-! UnbindDuringAPendingOperation -/

def sBindAt (st : Nat) : State := withObjs [(o4110_01, [pVCS 2, pV 1], st * 2 ^ 30 + 6 * 2 ^ 17), (o2020_03, [pP 6], 1)] { sBindFree with
  forme := { bindAt := [(128 * 2 + 1, some 50)] } }
theorem wit_unbind_pending : writeGate .manager o4110_04 [pVCS 2, pV 1] (sBindAt 1) = none ∧ recState (bindRec (sBindAt 1) 2 1) = 1
    ∧ writeGate .manager o4110_04 [pVCS 2, pV 1] (sBindAt 3) = none ∧ recState (bindRec (sBindAt 3) 2 1) = 3
    ∧ writeGate .manager o4110_02 [pVCS 2, pV 1] (sBindAt 3) = none := by decide +kernel
theorem wit_unbind_nolead : NoLead (sBindAt 3) ∧ NoLead (sBindAt 2) := by unfold NoLead; decide
def sBindDev : State := withObjs [(o2020_03, [pP 6], 2)] sBindFree
/-- Member 0 leads, and member 1 is its standby. -/
def sLeads (s : State) : State := withObjs [(o4200_01, [], 0), (o4200_08, [], 3), (o4200_07, [], 0), (o4200_09, [], 1)] s
theorem wit_unbind_lead : LeadTakes (sLeads (sBindAt 3)) (.unbind 0 2 1 2) ∧ LeadTakes (sLeads (sBindAt 2)) (.unbind 0 2 1 0)
    ∧ LeadTakes (sLeads (sBindAt 2)) (.unbind 0 2 1 1) ∧ LeadTakes (sLeads sBindDev) (.bind 0 2 1 (6 * 2 ^ 17) none)
    ∧ ownPos (sLeads (sBindAt 3)) = 0 := by
  unfold LeadTakes; decide +kernel

/-! BindsCompleteAndUnbindsRelease -/

theorem wit_bind : writeGate .manager o4110_02 [pVCS 2, pV 1] sBindDev = none ∧ recKind (6 * 2 ^ 17) = 0 ∧ recLd (6 * 2 ^ 17) = 0
    ∧ recDev (6 * 2 ^ 17) = ownPos sBindDev ∧ recState (bindRec sBindDev 2 1) = 0 ∧ targetFaulty sBindDev 2 (6 * 2 ^ 17) = false
    ∧ presents sBindDev 2 1 = false ∧ present sBindDev 6 = true ∧ targetBusy sBindDev (6 * 2 ^ 17) = false ∧ leads sBindDev = true
    ∧ otherMembers sBindDev = [] ∧ targetBusy (sBindAt 3) (6 * 2 ^ 17) = true ∧ targetFaulty sBindDev 2 (2 ^ 28 + 6 * 2 ^ 17) = true := by decide +kernel
theorem wit_bind_ends : recState (bindRec (sBindAt 1) 2 1) = 1 ∧ recState (bindRec (sBindAt 3) 2 1) = 3 ∧ unbindReady (sBindAt 3) 2 1 = true
    ∧ recKind (bindRec (sBindAt 1) 2 1) = 0 ∧ recDev (bindRec (sBindAt 1) 2 1) = ownPos (sBindAt 1)
    ∧ noTraining (sBindAt 1) 6 = false ∧ foreignSwitch (sBindAt 1) 6 = false := by decide +kernel
theorem wit_bind_free : NoLead sBindDev := by unfold NoLead; decide
theorem wit_unbind : writeGate .manager o4110_04 [pVCS 2, pV 1] (sBindAt 2) = none ∧ recState (bindRec (sBindAt 2) 2 1) = 2
    ∧ writeGate .manager o4110_04 [pVCS 2, pV 1] sBindDev = none := by decide +kernel

/-! PresenceLinksAndTheFormesLead -/

theorem wit_presence : roleOf sBindFree 6 = 2 ∧ portBound sBindFree 6 = false ∧ portBound (sBindAt 2) 6 = true ∧ noTraining sBindFree 6 = false ∧ noTraining sHost 5 = false
    ∧ slotReady (sBindAt 2) 6 = true ∧ linkOf (sBindAt 2) 6 ≠ 2 ∧ vppbsOf (sBindAt 2) 6 = [(2, 1)] ∧ present (sBindAt 2) 6 = true
    ∧ (sBindAt 2).blocks = [] := by decide +kernel
theorem wit_upstream : roleOf sHost 5 = 1 ∧ sHost.blocks = [] ∧ linkOf sHost 5 ≠ 0 ∧ vcsOfUp sHost 5 = some 2
    ∧ linkOf (withObjs [(o2020_02, [pP 5], 0)] sHost) 5 ≠ 2 := by decide +kernel
/-- Members 0 to 3 have joined; this is member 1, member 0 is lead and 1 the standby; port 8 leads to member 0, port 9 to member 3. -/
def sForme : State := { withObjs [(o4200_01, [], 1), (o4200_03, [], 1), (o4200_04, [], 4), (o4200_08, [], 15), (o4200_07, [], 0), (o4200_09, [], 1),
  (o2020_02, [pP 9], 2), (o2020_01, [pP 8], 3), (o2020_01, [pP 9], 3)] State.reset with
  forme := { peer := [(8, some 0), (9, some 3)] }
  lane := { ports := [(8, { downSince := some 7, joined := true }), (9, { joined := true })] } }
theorem wit_forme_loss : joinedAt sForme 0 = true ∧ (0 : Nat) ≠ ownPos sForme ∧ memberDown sForme 0 = some 7 ∧ joinedAt sForme 2 = true
    ∧ memberDown sForme 2 = some 0 ∧ portToward sForme 2 = none ∧ sForme.forme.inbox = [] ∧ sForme.forme.waits = [] ∧ portToward sForme 3 = some 9 ∧ formeHolds sForme = none ∧ portToward sForme 0 = none := by decide +kernel
theorem wit_takeover : ({ sForme with forme := { leadLost := some 3 } } : State).forme.leadLost = some 3
    ∧ (formeHolds { sForme with forme := { leadLost := some 3 } }).isSome = true := by decide

/-! EngineInterruptsAndTrays -/

theorem wit_target_return : writeGate .manager o7030_02 [pNT 5] (withObjs [(o7030_01, [pNT 5], 1)] State.reset) = none
    ∧ targetState (withObjs [(o7030_01, [pNT 5], 1)] State.reset) 5 ≠ 0 ∧ targetState State.reset 5 = 0 := by decide
/-- Engine 1 runs, with vectors 4 and 9 pending and 9 enabled. -/
def nEng : Net := { eng := [(1, { pend := 0x210, enab := 0x200, mtimecmp := 5 })], tray := [(32 * 1 + 3, { ents := [7, 8] })] }
def sEng : State := { withObjs [(o7000_01, [pC 1], 1)] State.reset with net := nEng }
theorem wit_claim : engState sEng 1 = 1 ∧ targetState sEng 204 = 0 ∧ lowestBit ((engOf sEng 1).pend &&& (engOf sEng 1).enab) 2048 = some 9
    ∧ lowestBit ((engOf State.reset 1).pend &&& (engOf State.reset 1).enab) 10 = none ∧ sEng.clk.inc ≠ 0
    ∧ targetState (withObjs [(o7030_01, [pNT 204], 1)] sEng) 204 ≠ 0 := by decide +kernel
theorem wit_tray : (trayOf sEng 1 3).ents = [7, 8] ∧ (trayOf sEng 1 4).ents = [] ∧ bit (trayOf sEng 1 3).ctl 16 = false
    ∧ targetState sEng (204 + 1) = 0 := by decide

/-! EnginesHaltDomainsDrainProgramsLoad -/

def sRun (c : Nat) (e : Engine) : State := { withObjs [(o7000_01, [pC c], 1)] State.reset with net := { eng := [(c, e)] } }
theorem wit_halt : writeGate .manager o7050_08 [pC 1] (sRun 1 {}) = none ∧ engState (sRun 1 {}) 1 = 1 ∧ engineDrained (sRun 1 {}) 1 = true
    ∧ storesSeen (sRun 1 { sb := [⟨0, 8, 0, 0⟩] }) 1 = false := by decide +kernel
theorem wit_run_control : writeGate .manager o7000_02 [pC 130] (sRun 130 {}) = none ∧ engState (sRun 130 {}) 130 = 1
    ∧ engineDrained (sRun 130 {}) 130 = true ∧ engState State.reset 131 = 0
    ∧ writeGate .manager o7000_02 [pC 131] State.reset = none ∧ testStatus State.reset [pC 131] ≠ 4 := by decide +kernel
def lOpen : MLine := { line := 4, engs := [1], since := 0, target := 200 }
def sDrain (l : List MLine) (st : Nat) : State := { withObjs [(o7040_02, [pK 0], st)] State.reset with
  net := { merge := Tbl.upd [] [] 0 l, drainAt := if st = 1 then [(8, some 4)] else [] } }
theorem wit_drain : writeGate .manager o7040_01 (domPath 8) (sDrain [] 0) = none ∧ domState (sDrain [] 0) 8 = 0 ∧ domDrained (sDrain [] 0) 8 = true
    ∧ Tbl.look [] (sDrain [lOpen] 0).net.merge (domCluster 8) ≠ [] ∧ domState (sDrain [] 2) 8 = 2
    ∧ Tbl.look none (sDrain [lOpen] 1).net.drainAt 8 = some 4 ∧ (sDrain [lOpen] 0).net.drainAt = [] := by decide +kernel
/-- A program of 8 bytes for engine 17, its key slot 0 holding a key. -/
def vImg : Nat := 0x1122334455667788 * 2 ^ 512 + 0x53565047 * 2 ^ 480 + 2 ^ 464 + 77 * 2 ^ 416 + 3 * 2 ^ 384 + 8 * 2 ^ 320 + 2 ^ 240
def sLoad : State := withObjs [(o7050_01, [pOK 0], 5), (o7050_04, [], vImg), (o7010_02, [], 1)] State.reset
theorem wit_load : writeGate .owner o7050_05 [] sLoad = none ∧ loadFault (2 ^ 28 + 2) true sLoad = none ∧ cmdEngines (2 ^ 28 + 2) = [17]
    ∧ hdrSsize (vImg % 2 ^ 512) = 0 ∧ loadFault (2 ^ 28 + 2) false sLoad = some 3 ∧ hdrLsize (vImg % 2 ^ 512) = 8
    ∧ testStatus sLoad [pC 17] ≠ 4 := by decide +kernel

/-! FaultWordsAreSentCapturedAndRead -/

theorem wit_fault_raise : (Tbl.look {} State.reset.fsrc 5).outstanding = false ∧ (5 : Nat) < 4096 := by decide
def wFault : FWord := { source := 5, kind := 0x30, ctx := 0, time := 7, missed := 2 }
def sFault (n : Nat) : State := { withObjs [(o9020_05, [], n), (o9000_03, [pFS 5], 0)] State.reset with fnet := [wFault] }
theorem wit_fault_accept : (sFault 3).fnet = [wFault] ∧ inStopPress (sFault 3) = false
    ∧ wFault.kind ∉ [0x05, 0x0C, 0x0A, 0x0B, 0x5B, 0x5E, 0x36, 0x37, 0x38, 0x39]
    ∧ ((sFault 3).flag o9000_03 [pFS 5] = false ∨ kindSev wFault.kind < (sFault 3).val o9012_01 []) := by decide
def sFaultA (l : Tbl (Option Nat)) : State := { State.reset with fnet := [wFault], prf := { alarmAt := l } }
theorem wit_fault_alarm : (sFaultA []).val o9012_01 [] ≤ kindSev wFault.kind ∧ (sFaultA []).flag o9000_03 [pFS 5] = true
    ∧ (sFaultA [(5, some 0)]).clk.now < 0 + us ((sFaultA []).val o9012_02 []) := by decide
def sAck (w : Option FWord) : State := { State.reset with fsrc := [(5, { outstanding := true, waiting := w, missed := 3 })], prf := { acks := [5] } }
theorem wit_fault_ack : (sAck (some wFault)).prf.acks = [5] ∧ (Tbl.look {} (sAck (some wFault)).fsrc 5).waiting = some wFault
    ∧ (Tbl.look {} (sAck none).fsrc 5).waiting = none ∧ (Tbl.look {} (sAck none).fsrc 5).outstanding = true := by decide
theorem wit_log_read : writeGate .manager o9020_02 [] (sFault 3) = none ∧ (sFault 3).val o9020_02 [] = 0 := by decide
def sSticky : State := withObjs [(o9000_01, [pFS 5], 2 ^ 63), (o9010_02, [], 1)] State.reset
theorem wit_status_clear : writeGate .manager o9000_01 [pFS 5] sSticky = none ∧ bit (2 ^ 63) 63 = true
    ∧ (sSticky.listed o9000_01).map (·.1) = [pathKey [pFS 5]] := by decide
def sAlarm (w : Option (List Nat)) : State := { State.reset with prf := { alarmAt := [(5, some 9)], held := Tbl.upd none [] 5 w } }
theorem wit_alarm : Tbl.look none (sAlarm (some [2])).prf.alarmAt 5 = some 9 ∧ frozen (sAlarm (some [2])) = false
    ∧ Tbl.look none (sAlarm (some [2])).prf.held 5 = some [2] ∧ Tbl.look none (sAlarm none).prf.held 5 = none := by decide

/-! ContainmentAndStopPress -/

def sDevice : State := { withObjs [(o9000_03, [pFS 0xFFF], 0), (o9000_03, [pFS 0x2A3], 0)] State.reset with fnet := [{ source := 0x2A3, kind := 0x0A, ctx := 5, time := 7 }] }
theorem wit_device_rung : inStopPress sDevice = false ∧ sDevice.flag o9000_03 [pFS 0xFFF] = false
    ∧ sDevice.flag o9000_03 [pFS 0x2A3] = false := by decide
def sRunFol : State := withObjs [(o2020_01, [pP 7], 3), (o2020_02, [pP 7], 2)] (sRun 1 {})
theorem wit_stop_entry : inStopPress sRunFol = false ∧ engState sRunFol 1 = 1 ∧ engineDrained sRunFol 1 = true
    ∧ roleOf sRunFol 7 = 3 ∧ linkOf sRunFol 7 = 2 := by decide
def sStop (done : Bool) : State := { withObjs [(o9040_02, [], 1), (o2020_01, [pP 7], 3), (o2020_02, [pP 7], 2)] State.reset with
  prf := { spReason := 2, spAt := 9, spDone := done } }
theorem wit_stop_steps : inStopPress (sStop false) = true ∧ (sStop false).prf.spDone = false ∧ (sStop true).prf.spDone = true
    ∧ (sStop true).pwr.hot = false ∧ roleOf (sStop false) 7 ≠ 0 := by decide
theorem wit_notice : joinedAt sForme 2 = true ∧ (2 : Nat) ≠ ownPos sForme := by decide
def sRetrain : State := { withObjs [(o2020_02, [pP 5], 0)] sHost with prf := { retrain := [(2, some 50)] } }
theorem wit_retrain : Tbl.look none sRetrain.prf.retrain 2 = some 50 ∧ upOf sRetrain 2 = some 5 ∧ vcsOfUp sRetrain 5 = some 2
    ∧ linkOf sRetrain 5 = 0 ∧ noTraining sRetrain 5 = false ∧ foreignSwitch sRetrain 5 = false := by decide +kernel

/-! FeedPathsFollowTheirStates -/

def sFeed (st st1 : Nat) (v : Feed) : State := { withObjs [(oA000_01, [pFEED 0], st), (oA000_01, [pFEED 1], st1), (oA000_02, [pFEED 0], 54000),
  (oA002_01, [], 50000), (oA002_03, [], 1)] State.reset with pwr := { feed := [(0, v)] } }
theorem wit_feed_off : (sFeed 0 0 {}).pwr.vsb = true ∧ feedState (sFeed 0 0 {}) 0 = 0 ∧ (sFeed 0 0 {}).flag oA000_05 [pFEED 0] = true := by decide
theorem wit_feed_check : feedState (sFeed 1 0 {}) 0 = 1 ∧ feedState (sFeed 1 0 {}) 1 ≠ 3 ∧ vinOf (sFeed 1 0 {}) 0 ≤ 53000 + 2000
    ∧ feedState (sFeed 2 0 {}) 0 = 2 := by decide
theorem wit_feed_on : feedState (sFeed 3 3 { limiting := true, acc := 5 }) 0 = 3 ∧ feedState (sFeed 3 3 {}) 1 = 3
    ∧ (feedOf (sFeed 3 3 { limiting := true, acc := 5 }) 0).limiting = true ∧ (feedOf (sFeed 3 3 {}) 1).acc = 0 := by decide
theorem wit_feed_trip : powerGood (sFeed 3 0 {}) = true ∧ powerGood (withObjs [(oA002_03, [], 0)] (sFeed 3 0 {})) = false := by decide
theorem wit_feed_blocked : feedState (sFeed 4 0 {}) 0 = 4 ∧ (sFeed 4 0 {}).val oA002_01 [] + 100 ≤ 54000 := by decide
theorem wit_feed_clear : writeGate .manager oA000_04 [pFEED 0] (sFeed 5 0 {}) = none ∧ feedState (sFeed 5 0 {}) 0 = 5 := by decide

/-! SuppliesWarnDropAndReturn -/

theorem wit_vsb : State.reset.pwr.vsb = true ∧ ({ State.reset with pwr := { vsb := false } } : State).pwr.vsb = false := ⟨rfl, rfl⟩
def sQualify : State := { withObjs [(oA002_03, [], 0)] (sFeed 3 0 {}) with pwr := { conv := some 8, cause := 3 } }
theorem wit_qualify : sQualify.pwr.conv = some 8 ∧ powerGood sQualify = false ∧ feedState sQualify 0 = 3 ∧ feedState sQualify 1 ≠ 3
    ∧ (feedOf sQualify 0).limiting = false ∧ sQualify.boot.resetN = true := by decide
def sWarn : State := withObjs [(oA004_01, [], 1)] (sFeed 3 0 {})
theorem wit_warn : (sFeed 3 0 {}).flag oA004_01 [] = false ∧ sWarn.flag oA004_01 [] = true
    ∧ ((List.range 128).filter fun p => (roleOf (sFeed 3 0 {}) p == 2 || roleOf (sFeed 3 0 {}) p == 3) && (sFeed 3 0 {}).flag oA004_02 [pP p]) = [] := by
  decide +kernel
theorem wit_lockout : sQualify.pwr.conv.isSome = true := rfl
theorem wit_droop : State.reset.pwr.droopAt = none
    ∧ ({ State.reset with pwr := { droopAt := some 5 } } : State).clk.now < 5 + ms 1 := by decide

/-! ClocksTimebaseAndThermal -/

theorem wit_refclk : bit State.reset.pwr.refLost 0 = false ∧ State.reset.pwr.refLost < 4 ∧ (∀ j : Fin 64, roleOf State.reset (64 * 0 + j.val) = 0)
    ∧ State.reset.pwr.ref = 0 ∧ (withObjs [(oB000_02, [], 1)] State.reset).val oB000_02 [] = 1 := by decide +kernel
def sPtp (p : Power) : State := { withObjs [(oB020_03, [], 1)] State.reset with pwr := p, clk := { now := sec 11, tb := 2 ^ 60 } }
theorem wit_ptp : (sPtp {}).val oB020_03 [] = 1 ∧ (sPtp {}).pwr.mgmtLost = false ∧ (sPtp {}).val oB020_07 [] ≠ 2
    ∧ 4 + sec 10 ≤ (sPtp { lockAt := some 4 }).clk.now := by decide
def sTsync : State := { withObjs [(oB022_02, [], 2), (oB022_03, [], 5), (oA002_03, [], 1)] State.reset with clk := { tb := 2 ^ 63 }, boot := { resetN := false } }
theorem wit_tsync : sTsync.val oB022_02 [] = 2 ∧ sTsync.val oB020_03 [] = 0 ∧ sTsync.val oB022_03 [] ≠ 0
    ∧ outputsDriven sTsync = true := by decide
theorem wit_rails : (List.replicate 9 800).length = 9 ∧ ∀ v ∈ List.replicate 9 800, v < 65536 := by decide

/-! ResetsBootAndLifecycle -/

/-- A valid loader and runtime in slot 0, under production key 0. -/
def imgOf (kind : Nat) : Image := { body := 0x52494541 * 2 ^ 240 * 2 ^ 240 + 2 ^ 232 * 2 ^ 232 + kind * 2 ^ 230 * 2 ^ 230 + 4 * 2 ^ 216 * 2 ^ 216, sig := true }
def sBoot (b : Boot) : State := { withObjs [(oA002_03, [], 1)] State.reset with boot := b }
def bImg : Boot := { flash := [(0, { loader := some (imgOf 1), runtime := some (imgOf 2) })] }
theorem wit_reset_n : (sBoot { resetN := false }).boot.resetN = false ∧ powerGood (sBoot { resetN := false }) = true
    ∧ powerGood State.reset = false := by decide
theorem wit_reset_release : (sBoot {}).boot.resetN = true ∧ (sBoot {}).pwr.offAt = none ∧ (sBoot {}).boot.proof = 0 ∧ (sBoot {}).val oD050_01 [] ≠ 3
    ∧ slotOk (sBoot bImg) ((sBoot bImg).val oD010_01 [] % 2) = true ∧ (sBoot bImg).val oD030_01 [] = 0 := by decide +kernel
def bUp : Boot := { startAt := some 3, running := some (imgOf 2) }
theorem wit_booting : (sBoot bUp).boot.startAt = some 3 ∧ booting (sBoot bUp) = true ∧ (sBoot bUp).boot.running.isSome = true := by decide
theorem wit_failed : (sBoot { failed := some (7, 4) }).boot.failed = some (7, 4) := rfl
def sServe : State := withObjs [(oD000_03, [], 1)] (sBoot { running := some (imgOf 2), hbAt := some 6 })
theorem wit_serve : sServe.val oD000_03 [] = 1 ∧ sServe.boot.running.isSome = true ∧ sServe.boot.hbAt = some 6 := by decide
theorem wit_watchdog : writeGate (.engine 130) oD070_04 [] sServe = none ∧ writeGate .manager oD070_04 [] sServe = none := by decide
theorem wit_reset_commands : writeGate .manager oD000_01 [] sServe = none ∧ writeGate .manager oD000_02 [] sServe = none
    ∧ writeGate .manager oD030_02 [] sServe = none ∧ writeGate .manager oD040_03 [] sServe = none
    ∧ writeGate .owner oD050_04 [] sServe = none ∧ writeGate .owner oD010_08 [] sServe = none ∧ sServe.val oD050_01 [] = 1 := by decide
theorem wit_debug_token : writeGate .owner oD050_03 [] sServe = none ∧ tokenFault true false sServe = none
    ∧ tokenFault false false sServe ≠ none := by decide

/-! PortsClustersImagesAndTheRoll -/

theorem wit_port_reset : writeGate .manager oD002_02 [pP 6] sBindDev = none ∧ roleOf sBindDev 6 = 2 ∧ present sBindDev 6 = true
    ∧ targetBusy sBindDev (ownPos sBindDev * 2 ^ 24 + 6 * 2 ^ 17) = false ∧ targetBusy (sBindAt 3) (ownPos (sBindAt 3) * 2 ^ 24 + 6 * 2 ^ 17) = true
    ∧ noTraining sBindDev 6 = false ∧ foreignSwitch sBindDev 6 = false ∧ writeGate .manager oD002_02 [pP 5] sBindDev = none ∧ roleOf sBindDev 5 = 1 ∧ linkOf sBindDev 5 = 2
    ∧ roleOf sBindDev 7 = 0 := by decide
theorem wit_cluster_reset : writeGate .manager oD002_03 [pK 0] (sDrain [] 2) = none ∧ domState (sDrain [] 2) 8 = 2 := by decide
theorem wit_engine_reset : writeGate .manager oD002_04 [pC 1] (sRun 1 {}) = none ∧ engineDrained (sRun 1 {}) 1 = true
    ∧ (engOf (sRun 1 {}) 1).halting = false := by decide
def sInstall (kind st : Nat) (b : Boot) : State := withObjs [(oD020_01, [], (imgOf kind).body), (oD020_03, [], st)] (sBoot b)
theorem wit_install : writeGate .manager oD020_02 [] (sInstall 2 0 {}) = none ∧ imgKind ((imgOf 2).body % 2 ^ 512) = 2
    ∧ imageFault (sInstall 2 0 {}) 2 (imgOf 2) = none ∧ (imageFault (sInstall 2 0 {}) 2 { imgOf 2 with sig := false }).isSome = true
    ∧ (sInstall 2 1 {}).val oD020_03 [] = 1 ∧ imgKind ((imgOf 3).body % 2 ^ 512) = 3 := by decide +kernel
def bRoll (r : Option (Nat × Nat × Nat)) : Boot := { flash := [(1, { loader := some (imgOf 1), runtime := some (imgOf 2) })], roll := r }
theorem wit_roll : (sInstall 2 0 (bRoll none)).val oD010_06 [] ≠ 2 ∧ slotOk (sInstall 2 0 (bRoll none)) (idleSlot (sInstall 2 0 (bRoll none))) = true
    ∧ mayOffline (sInstall 2 0 (bRoll none)) (.cluster 8) = true
    ∧ (sInstall 2 1 (bRoll (some (11, 4, 1)))).boot.roll = some (11, 4, 1) := by decide +kernel

/-! UnitsGoOfflineAndReturn -/

def sUnit (l : List (Obj × Path × Nat)) (b : Boot) : State := { withObjs l State.reset with boot := b }
theorem wit_unit_offline : writeGate .manager oD060_01 (unitPath (.quire 1)) State.reset = none ∧ mayOffline State.reset (.quire 1) = true
    ∧ writeGate .manager oD060_01 (unitPath (.cluster 1)) State.reset = none ∧ mayOffline State.reset (.cluster 1) = true
    ∧ domDrained State.reset 9 = true ∧ domState State.reset 9 = 0
    ∧ writeGate .manager oD060_01 (unitPath (.group 1)) (sGroup 0 none) = none ∧ mayOffline (sGroup 0 none) (.group 1) = true
    ∧ roleOf (sGroup 0 none) (4 * 1 + 1) ≠ 0 := by decide +kernel
theorem wit_unit_return : unitState (sUnit [(oD060_02, [pQ 1], 2)] {}) (.quire 1) = 2 ∧ testStatus State.reset [pQ 1] ≠ 4
    ∧ unitState (sUnit [(oD060_02, [pK 9], 2), (o7040_02, [pK 9], 2)] {}) (.cluster 9) = 2
    ∧ unitState (sUnit [(oD060_02, [pG 1], 2)] {}) (.group 1) = 2 := by decide
theorem wit_drain_quire : repairPhase (sUnit [(oD060_02, [pQ 1], 1)] { phase := [(1, 1)] }) 1 = 1
    ∧ owesNothing (sUnit [(oD060_02, [pQ 1], 1)] { phase := [(1, 1)] }) 1 = true := by decide
theorem wit_power_down : repairPhase (sUnit [(oD060_02, [pQ 1], 1), (o7040_02, [pQ 1], 2)] { phase := [(1, 2)] }) 1 = 2
    ∧ domState (sUnit [(oD060_02, [pQ 1], 1), (o7040_02, [pQ 1], 2)] { phase := [(1, 2)] }) 1 = 2 := by decide

/-! BanksSnapshotsAndTraceRecords -/

def sCnt (c : Counts) : State := { withObjs [(oC020_01, [pFB 1], 5)] State.reset with cnt := c, counts := [(7, 99)] }
theorem wit_bank : writeGate .manager oC020_03 [] (sCnt {}) = none ∧ (sCnt { commitAt := some 5000 }).cnt.commitAt = some 5000
    ∧ (sCnt {}).val oC030_02 [] = 0 ∧ writeGate .manager oC030_01 [] (sCnt {}) = none := by decide
theorem wit_snapshot : (sCnt { snaps := [4000] }).cnt.snaps = [4000] ∧ (withObjs [(oC030_02, [], 3)] (sCnt {})).val oC030_02 [] ≠ 0
    ∧ (sCnt {}).clk.inc ≠ 0 ∧ (sCnt {}).clk.tickAt ≤ (sCnt {}).clk.now := by decide
def sTrace (b : Bool) : State := { withObjs [(oC050_08, [], 2)] State.reset with trc := [(0, { open_ := b, t0 := 5 })] }
theorem wit_trace : (traceOf (sTrace true) 0).open_ = true ∧ writeGate .manager oC050_06 [] (sTrace false) = none
    ∧ ((List.range 2).any fun j => (traceOf (sTrace false) ((0 + j) % 4096)).open_) = false := by decide

/-! TestPortInstructionsAndSelfTests -/

theorem wit_tap : tapOn State.reset = true ∧ tapOn { State.reset with pwr := { vsb := false } } = false := by decide
def sHeld : State := withObjs [(oA002_03, [], 1)] State.reset
theorem wit_held : heldReset sHeld = true ∧ heldReset State.reset = false ∧ tapOn sHeld = true ∧ sHeld.val oD050_01 [] = 1
    ∧ (withObjs [(oD050_01, [], 0)] sHeld).val oD050_01 [] = 0 := by decide
theorem wit_self_test : writeGate .manager oE010_01 (testPath (.engine 1)) State.reset = none ∧ testAllowed State.reset (.engine 1) = true
    ∧ testStatus State.reset (testPath (.engine 1)) ≠ 1 ∧ testAllowed State.reset .spine = false := by decide
def sTest (u : TestUnit) : State := { withObjs [(oE010_02, testPath u, 2 ^ 61), (oD060_02, [pQ 1], 3)] State.reset with
  mem := [(0x10000020004, 7), (0x50000000000, 9)] }
theorem wit_self_test_runs : testStatus (sTest (.engine 1)) (testPath (.engine 1)) = 1 ∧ testStatus (sTest .spine) (testPath .spine) = 1
    ∧ testStatus (sTest (.quire 1)) (testPath (.quire 1)) = 1 ∧ (sTest (.quire 1)).val oD060_02 [pQ 1] = 3 := by decide

/-! WritesFramesAndSessions -/

theorem wit_write : 16 ≤ State.reset.val o4200_01 [] ∧ objAt 0x4020 1 = some o4020_01 ∧ instances State.reset o4020_01 [pQ 3] = some (true, [[pQ 3]])
    ∧ writeGate .manager o4020_01 [pQ 3] State.reset = none ∧ writeGate .observer o4020_01 [pQ 3] State.reset = some .auth
    ∧ inRange o4020_01 8 = true ∧ inRange o4020_01 7 = false ∧ instances State.reset o4020_01 [pQ 8] = none ∧ objAt 0x4020 255 = none := by
  decide +kernel
def vSess : Sess := { ready := true, via := .mgmt 0 5, role := 2, rk := 1, recAt := 0, reqAt := 0, high := some 3, seen := [3], answered := [(7, ⟨0x10, .ok, 7, 0, []⟩)] }
def sAds (l : List InMsg) : State := { withObjs [(o1130_01, [pRK 1], 77), (o1130_02, [pRK 1], 2)] State.reset with
  ads := { sess := [(0, some vSess)], inbox := l } }
def inMsg (m : WireMsg) : InMsg := { via := .mgmt 0 5, ses := some 0, msg := m }
def fAds (seq : Nat) (rid : Fin 65536) : AdsFrame := { seq := seq, msg := .adsum .get rid [] }
theorem wit_frame : hears (sAds []) (.mgmt 0 5) (fAds 4 8) = true ∧ hears (sAds []) (.mgmt 0 5) { fAds 4 8 with udp := 1 } = false
    ∧ oversize (.mgmt 0 5) (fAds 4 8) = false ∧ sessOf (sAds []) 0 = some vSess ∧ fresh vSess 4 = true ∧ fresh vSess 3 = false
    ∧ vSess.ready = true ∧ 7 ∉ outstanding (sAds []) 0 ∧ sessOf (sAds []) 1 = none := by decide
theorem wit_spdm : (sAds [inMsg .heartbeat]).ads.inbox = [{ via := .mgmt 0 5, ses := some 0, msg := .heartbeat }]
    ∧ entryOf (sAds []) 77 = some (1, 2) ∧ entryOf (sAds []) 78 = none ∧ freeSess (sAds []) = some 1 := by decide
theorem wit_session_end : writeGate .manager o1120_08 [pSES 0] (sAds []) = none ∧ vinWarn State.reset = false ∧ State.reset.pwr.vsb = true := by decide

/-! RequestsAndSubscriptions -/

def itGet : AdsItem := { idx := 0x4020, sub := 1, path := [pQ 3] }
def itSet (d : Nat) : AdsItem := { itGet with len := 4, data := d }
def bSub : Sub := { ses := 0, code := o4020_01.code, path := [pQ 3], wild := false, every := 10, insts := [(pathKey [pQ 3], ⟨5, 0, some 7⟩)] }
def sReq (op : AdsOp) (l : List AdsItem) : State :=
  let s := sAds [inMsg (.adsum op 9 l)]
  { s with ads := { s.ads with subs := [(1, some bSub)] } }
theorem wit_request : (sReq .get [itGet]).ads.inbox = [{ via := .mgmt 0 5, ses := some 0, msg := .adsum .get 9 [itGet] }]
    ∧ sessOf (sReq .get [itGet]) 0 = some vSess ∧ 16 ≤ (sReq .get [itGet]).val o4200_01 [] ∧ viewed (sReq .get [itGet]) .manager o4020_01 [pQ 3] = true
    ∧ measured (sReq .get [itGet]) o4020_01 [pQ 3] = false ∧ indexOpen (sReq .get [itGet]) 0x4020 = true := by decide
theorem wit_named : objAt itGet.idx.val itGet.sub.val = some o4020_01 ∧ instances (sReq .get [itGet]) o4020_01 itGet.path = some (true, [itGet.path])
    ∧ fitsType o4020_01 [pQ 3] 9 4 = true ∧ writeGate .manager o4020_01 [pQ 3] (sReq .set [itSet 9]) = none
    ∧ inRange o4020_01 9 = true ∧ inRange o4020_01 7 = false ∧ freeSub (sReq .subscribe [itGet]) = some 0 := by decide +kernel
theorem wit_event : Tbl.look none (sReq .get []).ads.subs 1 = some bSub ∧ dictionary.find? (fun o => o.code == bSub.code) = some o4020_01
    ∧ instances (sReq .get []) o4020_01 [pQ 3] = some (true, [[pQ 3]])
    ∧ (derived (sReq .get []) o4020_01 [pQ 3]).getD ((sReq .get []).val o4020_01 [pQ 3]) ≠ (Tbl.look {} bSub.insts (pathKey [pQ 3])).val := by
  decide +kernel

/-! AccessBlocksAndDirectReads -/

def sBlockIn : State := withObjs [(o7060_01, [pC 5], 2 ^ 4 + 2 ^ 20)] sHost
theorem wit_block : blockTakes sBlockIn (.host 2 0) = true ∧ blockTakes sBlockIn (.host 3 0) = false ∧ blockTakes sBlockIn (.engine 5) = true
    ∧ 16 ≤ sBlockIn.val o4200_01 [] ∧ viewed sBlockIn (blockRole sBlockIn (.host 2 0)) o4100_05 [pVCS 2] = true
    ∧ viewed sBlockIn (blockRole sBlockIn (.host 2 0)) o4100_05 [pVCS 3] = false ∧ objAt 0x4100 5 = some o4100_05
    ∧ instances sBlockIn o4100_05 [pVCS 2] = some (true, [[pVCS 2]]) ∧ indexOpen sBlockIn 0x4100 = true
    ∧ measured sBlockIn o4100_05 [pVCS 2] = false ∧ o4100_05.acc = .ro ∧ inD3 sBlockIn (2 * 1024) = false := by decide +kernel
theorem wit_block_set : writeGate (.engine 5) o4020_01 [pQ 3] sBlockIn = none ∧ fitsType o4020_01 [pQ 3] 9 4 = true ∧ inRange o4020_01 9 = true
    ∧ inRange o4020_01 7 = false ∧ writeGate (.engine 6) o4020_01 [pQ 3] sBlockIn = some .notInView
    ∧ instances sBlockIn o4020_01 [pQ 3] = some (true, [[pQ 3]]) ∧ sBlockIn.val oD000_03 [] ≠ 2 := by decide +kernel

/-! FmApiRunsTheManagedActions -/

def sFm (l : List (Obj × Path × Nat)) : State := withObjs ([(o4100_04, [pVCS 2], 1), (o9020_05, [], 1), (o9020_02, [], 4), (o9020_01, [pLG 4], 99)] ++ l) sBindFree
theorem wit_fm : fmTaken (sFm []) (.mailbox 2) = true ∧ fmTaken (sFm []) (.mailbox 3) = false ∧ formeHolds (sFm []) ≠ some .formeBusy
    ∧ (sFm []).boot.moveUntil ≤ (sFm []).clk.now ∧ 16 ≤ (sFm []).val o4200_01 [] ∧ (sFm []).val o9020_05 [] = 1
    ∧ (formed (sFm []) = true → (sFm []).val o4200_07 [] = ownPos (sFm [])) ∧ roleOf (sFm []) 6 = 2 ∧ (sFm [(o2020_03, [pP 6], 1)]).val o2020_03 [pP 6] ≠ 0
    ∧ (sFm []).val o4100_02 [pVCS 2] = 1 ∧ (1 : Nat) < (sFm []).val o4100_03 [pVCS 2] := by decide +kernel
/-- A member of a forme that is not its lead. -/
def sFmFar (lead : Nat) : State := sFm [(o4200_01, [], 1), (o4200_08, [], 6), (o4200_07, [], lead)]
theorem wit_fm_forme : fmTaken (sFmFar 2) (.mailbox 2) = true ∧ formeHolds (sFmFar 2) ≠ some .formeBusy ∧ (sFmFar 2).val o4200_08 [] ≠ 0
    ∧ (sFmFar 2).val o4200_07 [] ≠ ownPos (sFmFar 2) ∧ formeHolds (sFmFar 0xFF) = some .formeBusy := by decide +kernel
theorem wit_fm_moves : (sFm []).clk.now < ({ sFm [] with boot := { moveUntil := 9 } } : State).boot.moveUntil := by decide +kernel
theorem wit_fm_extents : ∀ m : Fin 4096, (sFm []).val o5230_03 [pVCS 2, pM m.val] = 0xFFFF := fun _ => rfl

/-! EngineAccessesCompleteOrTrap -/

def sAcc (e : Engine) (l : List (Obj × Path × Nat)) : State := { withObjs ([(o7000_01, [pC 1], 1), (o6001_01, [pSPACE 1], 1),
    (o6000_01, [pSPACE 1, pPL 0], 0x500000000 * 2 ^ 104 + 0x500003FFF * 2 ^ 48 + 2 ^ 32 + 2 ^ 31), (o6010_01, [pIN 0x1841], 1), (o6010_02, [pIN 0x1841], 1)] ++ l) State.reset with
  net := { eng := Tbl.upd {} [] 1 e }, mem := [(0x10000020008, 7), (0x50000000080, 9)] }
/-- A Normal region of the spine SRAM for engine 1. -/
def vReg (ty : Nat) : Nat := 0x50000000 * 2 ^ 28 + 22 * 2 ^ 22 + ty * 2 ^ 20 + 2 ^ 19
def sNorm (e : Engine) : State := sAcc e [(o7010_01, [pC 1, pRT 0], vReg 0)]
theorem wit_not_ready : engineReady State.reset 1 = false := by decide
theorem wit_ready : engineReady (sAcc {} []) 1 = true ∧ NetQuiet (sAcc {} []) ∧ SramAt 0x50000000080 241
    ∧ accessType (sAcc {} []) 1 8 = 0 ∧ (engOf (sAcc {} []) 1).undet = false ∧ targetState (sAcc {} []) 241 = 0
    ∧ (placeOf 0x50000000080).map targetOf = some 241 ∧ regionOf (sAcc {} []) 1 0x50000000080 = none := by
  unfold NetQuiet SramAt
  decide +kernel
theorem entry_settled (c a n : Nat) (w : Bool) (s : State) (h : s.val o6020_03 [] ≠ 1) (hb : s.blocks = []) (ha : a / 2 ^ 44 ≠ 1) :
    (entryCheck c a n w s).1 =
      decide (friskCheck { s with freeCtr := s.freeCtr + 1 } (ckEntry (c / 16)) (0x1840 + c) none 1 a n false = .allow) := by
  unfold entryCheck
  rw [if_neg ha]
  dsimp only
  rw [frisk_settled _ _ _ _ _ _ s h hb]
  split <;> rename_i hv <;> rw [hv] <;> rfl
theorem wit_entry : (entryCheck 1 0x50000000080 8 false (sAcc {} [])).1 = true ∧ (entryCheck 1 0x50000000080 8 true (sNorm {})).1 = true
    ∧ regionOf (sNorm {}) 1 0x50000000080 = some 0 ∧ (entryCheck 1 0x50000000080 8 false (sAcc {} [(o6010_02, [pIN 0x1841], 0)])).1 = false := by
  rw [entry_settled _ _ _ _ _ (by decide) rfl (by decide), entry_settled _ _ _ _ _ (by decide) rfl (by decide),
    entry_settled _ _ _ _ _ (by decide) rfl (by decide)]
  decide +kernel
theorem wit_atomic : (engOf (sNorm { resv := some (0x50000000080 / 128) }) 1).resv = some (0x50000000080 / 128)
    ∧ (engOf (sNorm { failed := some (0x50000000080 / 128) }) 1).failed = some (0x50000000080 / 128)
    ∧ (regionOf (sNorm {}) 1 0x50000000080).any (· < 2) = true := by decide +kernel

/-! LinesHoldsTargetsAndDebugAccesses -/

def lNet (l : MLine) : State := { State.reset with net := { merge := [(0, [l])] } }
def lWide : MLine := { line := 0x50000000080 / 64, engs := [1], since := 5, target := 241, own := some ⟨0x50000000080, 8, 77, 2⟩, closed := true, issued := some 9 }
def lByte : MLine := { line := 0x50000000080 / 64, engs := [1], since := 5, target := 241, bytes := [(3, some 200)] }
theorem wit_line : (mergeOf (lNet lByte) 0).getLast?.any (fun l => !l.closed) = true ∧ lineAper lByte = false ∧ lineAper lWide = false
    ∧ targetState (lNet lWide) lWide.target = 0 ∧ (placeOf 0x50000000080).isSome = true
    ∧ (mergeOf (lNet lByte) 0).head?.any (fun l => l.issued.isSome) = false := by decide
def sHeld2 (ws : List (Nat × Nat × Nat × Nat)) : State := { State.reset with
  net := { holds := [(0x50000000080 / 128, some { eng := some 1, since := 7, writes := ws })] } }
theorem wit_hold : (sHeld2 []).net.holds = [(0x50000000080 / 128, some { eng := some 1, since := 7, writes := [] })]
    ∧ ringWaits (sHeld2 [(0x50000000080, 4, 9, 3)]) 3 = none ∧ Tbl.look none State.reset.net.holds 5 = none := by decide
def wLoad : EReq := { acc := { kind := .load, addr := 0x50000000080, len := 8 }, answered := false, out := some 40 }
theorem wit_dead : oldestTo (sAcc { wait := some wLoad } []) 241 = some 40 ∧ targetState (sAcc { wait := some wLoad } []) 241 = 0
    ∧ (placeOf (globalAddr 1 wLoad.acc.addr)).map targetOf = some 241 ∧ oldestTo State.reset 241 = none := by decide
def sDbg (l : List (Obj × Path × Nat)) : State := { sAcc {} ([(oD050_01, [], 2), (oA002_03, [], 1)] ++ l) with boot := { resetN := false } }
def dbgW (op size data : Nat) : Nat := 0x50000000080 * 2 ^ 80 + op * 2 ^ 78 + size * 2 ^ 76 + data
theorem wit_debug : tapOn (sDbg []) = true ∧ outputsDriven (sDbg []) = true ∧ (sDbg []).val oD000_03 [] ≠ 3
    ∧ bits (dbgW 1 3 0) 127 80 = 0x50000000080 ∧ bits (dbgW 1 3 0) 79 78 = 1 ∧ (sDbg [(oD000_03, [], 3)]).val oD000_03 [] = 3 := by decide +kernel
theorem wit_debug_asks : (friskAsk ckDebug 0x1920 none 1 0x50000000080 8 false (sDbg [])).1 = .allow
    ∧ (friskAsk ckDebug 0x1920 none 1 0x50000000080 8 false (sAcc {} [])).1 ≠ .allow := by
  rw [frisk_settled _ _ _ _ _ _ _ (by decide) rfl, frisk_settled _ _ _ _ _ _ _ (by decide) rfl]
  decide +kernel

end Sys2Proof.Tests
end

section
/-!
PROOFS. Object writes on a standalone device, and the frames, records and sessions of the Adsum endpoint: what each operation does, case by case,
and the statement about them.
-/
namespace Sys2Proof.Machine

/-! ### REGISTER_WRITE on a standalone device (00 R7, 15 R428) -/

/-- The gate of a write never says that the answer waits. -/
theorem writeGate_ne_held (role : Role) (o : Obj) (p : Path) (s : State) : writeGate role o p s ≠ some .held := by
  have hm : mayWrite role o p s ≠ some .held := by
    unfold mayWrite
    cases role <;> dsimp only <;> (repeat' split) <;> simp
  have hf : formeHolds s ≠ some .held := by
    unfold formeHolds
    (repeat' split) <;> simp
  unfold writeGate
  split
  · rename_i st h
    exact h ▸ hm
  · (repeat' split) <;> simp [hf]

/-- A standalone device answers a path without a forme element itself. -/
theorem reachOf_standalone (s : State) (o : Option Obj) (p : Path) (h : 16 ≤ s.val o4200_01 []) (hp : p.head?.map (·.1) ≠ some 1) :
    reachOf s o p = .here p := by
  have hf : ¬ s.val o4200_01 [] < 16 := Nat.not_lt.2 h
  cases p with
  | nil => simp [reachOf, hf]
  | cons e r =>
    obtain ⟨k, j⟩ := e
    have hk : k ≠ 1 := by simpa using hp
    simp [reachOf, hf, hk]

/-- A write whose answer waits for nothing is answered. -/
theorem settleWrite_answered (s : State) (r : Status × State) (h : r.1 ≠ .held) (hl : r.2.ads.late = s.ads.late) :
    settleWrite s r = answered r := by
  simp [settleWrite, h, hl]

theorem setObject_missing (role : Role) (o : Obj) (p : Path) (v len : Nat) (x : Extra) (s : State) (h : instances s o p = none) :
    setObject role o p v len x s = (.notFound, s) := by
  simp [setObject, h]

/-- A path that names one exactly writes that one alone. -/
theorem setObject_exact (role : Role) (o : Obj) (p q : Path) (v len : Nat) (x : Extra) (s : State)
    (h : instances s o p = some (true, [q])) : setObject role o p v len x s = setLeaf role o v len x q s := by
  simp [setObject, h]

/-- Objects that have no rule of their own: a write of one is the plain one. -/
def plainObjects : List Obj :=
  [o4020_01, o4022_02, o4034_02, o4048_01, o5120_01, o5210_01, o3000_06, o2130_02, o4420_02, o7022_01, o1100_08, o1120_01, o9012_01,
    oA010_07, oB020_05, oC050_04, oD060_03]

/-- A write of a plain object has no rule of its own. -/
theorem writeLeaf_plain (role : Role) (o : Obj) (p : Path) (v len : Nat) (x : Extra) (s : State) (h : o ∈ plainObjects) :
    writeLeaf role o p v len x s = plainWrite o p v s := by
  have hc : o.code ∈ [0x402001, 0x402202, 0x403402, 0x404801, 0x512001, 0x521001, 0x300006, 0x213002, 0x442002, 0x702201, 0x110008,
      0x112001, 0x901201, 0xA01007, 0xB02005, 0xC05004, 0xD06003] := List.mem_map_of_mem (f := Obj.code) h
  unfold writeLeaf
  generalize o.code = c at hc ⊢
  simp only [List.mem_cons, List.not_mem_nil, or_false] at hc
  rcases hc with rfl | rfl | rfl | rfl | rfl | rfl | rfl | rfl | rfl | rfl | rfl | rfl | rfl | rfl | rfl | rfl | rfl <;> rfl

/-- An exact path's write of a plain object, admitted, is the plain write. -/
theorem setObject_plain (role : Role) (o : Obj) (p q : Path) (v len : Nat) (x : Extra) (s : State) (ho : o ∈ plainObjects)
    (hi : instances s o p = some (true, [q])) (hg : writeGate role o q s = none) :
    setObject role o p v len x s = plainWrite o q v s := by
  rw [setObject_exact _ _ _ _ _ _ _ _ hi, setLeaf, managed_open _ _ _ _ _ hg, writeLeaf_plain _ _ _ _ _ _ _ ho]

/-- A closed gate gives its status and changes nothing. -/
theorem setObject_closed (role : Role) (o : Obj) (p q : Path) (v len : Nat) (x : Extra) (s : State) (st : Status)
    (hi : instances s o p = some (true, [q])) (hg : writeGate role o q s = some st) :
    setObject role o p v len x s = (st, s) := by
  rw [setObject_exact _ _ _ _ _ _ _ _ hi, setLeaf, managed_closed _ _ _ _ _ _ hg]

/-- A value that is put leaves everything else of the object store as it was. -/
theorem put_objsKept (o : Obj) (p : Path) (v : Nat) (s : State) : ObjsKept s (s.put o p v) [(o, p)] :=
  fun o' p' h => put_val_other o o' p p' v s (h (o, p) (List.mem_singleton_self _))

theorem put_onlyStore (o : Obj) (p : Path) (v : Nat) (s : State) : OnlyStore s (s.put o p v) := by
  obtain ⟨-, h⟩ | ⟨-, st, h⟩ := put_cases o p v s <;> rw [h] <;> rfl

/-- A value that is put and answered is a write taken. -/
theorem answered_put_writes (o : Obj) (p : Path) (v : Nat) (s : State) : Writes s (answered (.ok, s.put o p v)) o p v := by
  refine ⟨by simp [answered], fun o' p' h => ?_, by simp [answered, answer, emit], ?_⟩
  · simpa [answered] using put_objsKept o p v s o' p' h
  · obtain ⟨-, h⟩ | ⟨-, st, h⟩ := put_cases o p v s <;> rw [h] <;> rfl

/-- An answer with a status that says no waiting is the whole effect of a write that changes nothing. -/
theorem settleWrite_turnedAway (s : State) (st : Status) (h : st ≠ .held) : TurnedAway s (settleWrite s (st, s)) st := by
  rw [settleWrite_answered s (st, s) h rfl]
  rfl

/-- A plain write ends taken or refused, as its range decides. -/
theorem settleWrite_plainWrite (o : Obj) (p : Path) (v : Nat) (s : State) :
    (inRange o v = true → Writes s (settleWrite s (plainWrite o p v s)) o p (v &&& o.mask)) ∧
      (inRange o v = false → TurnedAway s (settleWrite s (plainWrite o p v s)) .refused) := by
  constructor <;> intro h
  · rw [plainWrite_in _ _ _ _ h, settleWrite_answered _ _ (by simp) (by simp)]
    exact answered_put_writes o p _ s
  · rw [plainWrite_out _ _ _ _ h]
    exact settleWrite_turnedAway s .refused (by simp)

theorem registerWrite_unknown (role : Role) (i : Fin 65536) (k : Fin 256) (p : Path) (v : Nat) (x : Extra) (s : State)
    (ho : objAt i.val k.val = none) :
    execRegisterWrite role i k p v x s =
      .next (answer (if k.val = 255 ∧ (objsAt i.val).isEmpty = false then .refused else .notFound) none s) := by
  simp only [execRegisterWrite, ho]

/-- A standalone device writes its own object and answers as the object's rule says. -/
theorem registerWrite_standalone (role : Role) (i : Fin 65536) (k : Fin 256) (p : Path) (v : Nat) (x : Extra) (s : State) (o : Obj)
    (ha : 16 ≤ s.val o4200_01 []) (hp : p.head?.map (·.1) ≠ some 1) (ho : objAt i.val k.val = some o) :
    execRegisterWrite role i k p v x s = .next (settleWrite s (setObject role o p v (byteLen v) x s)) := by
  simp only [execRegisterWrite, ho, reachOf_standalone s (some o) p ha hp]

/-! ### Sessions -/

@[simp] theorem setSess_store (n : Nat) (v : Option Sess) (s : State) : (setSess n v s).store = s.store := rfl
@[simp] theorem setSess_out (n : Nat) (v : Option Sess) (s : State) : (setSess n v s).out = s.out := rfl
@[simp] theorem setSess_clk (n : Nat) (v : Option Sess) (s : State) : (setSess n v s).clk = s.clk := rfl
@[simp] theorem setSess_inbox (n : Nat) (v : Option Sess) (s : State) : (setSess n v s).ads.inbox = s.ads.inbox := rfl
@[simp] theorem tbNs_setSess (n : Nat) (v : Option Sess) (s : State) : tbNs (setSess n v s) = tbNs s := rfl
@[simp] theorem outstanding_setSess (n k : Nat) (v : Option Sess) (s : State) : outstanding (setSess n v s) k = outstanding s k := rfl

/-- A session that is set reads back. -/
@[simp] theorem sessOf_setSess (n : Nat) (v : Option Sess) (s : State) : sessOf (setSess n v s) n = v :=
  Tbl.look_upd_self none s.ads.sess n v

@[simp] theorem sessOf_enqueueMsg (n : Nat) (m : InMsg) (s : State) : sessOf (enqueueMsg m s) n = sessOf s n := rfl
@[simp] theorem sessOf_emit (n : Nat) (x : Output) (s : State) : sessOf (emit x s) n = sessOf s n := rfl

@[simp] theorem emit_appends (x : Output) (s : State) : (emit x s).out = s.out ++ [x] := rfl

@[simp] theorem endSession_store (n : Nat) (s : State) : (endSession n s).store = s.store := rfl
@[simp] theorem endSession_out (n : Nat) (s : State) : (endSession n s).out = s.out := rfl
@[simp] theorem endSession_clk (n : Nat) (s : State) : (endSession n s).clk = s.clk := rfl

/-- The messages of a session go with it. -/
@[simp] theorem endSession_inbox (n : Nat) (s : State) : (endSession n s).ads.inbox = s.ads.inbox.filter (fun m => m.ses != some n) := rfl

/-- A session that has ended is not open. -/
@[simp] theorem sessOf_endSession (n : Nat) (s : State) : sessOf (endSession n s) n = none :=
  Tbl.look_upd_self none s.ads.sess n none

/-- Entries taken off a table one after the other: the rest has none of their keys. -/
theorem mem_foldl_upd_none {α : Type} [DecidableEq α] (gone t : Tbl (Option α)) (e : Nat × Option α) :
    e ∈ gone.foldl (fun t g => Tbl.upd none t g.1 none) t ↔ e ∈ t ∧ ∀ g ∈ gone, e.1 ≠ g.1 := by
  induction gone generalizing t with
  | nil => simp
  | cons g gone ih =>
    rw [List.foldl_cons, ih]
    simp [Tbl.upd, and_assoc]

/-- The subscriptions of a session go with it. -/
theorem endSession_subs (n : Nat) (s : State) : ∀ e ∈ (endSession n s).ads.subs, e.2.all (·.ses != n) = true := by
  intro e he
  obtain ⟨hs, hk⟩ := (mem_foldl_upd_none _ s.ads.subs e).1 he
  cases hv : e.2 with
  | none => rfl
  | some v =>
    have hn : v.ses ≠ n := fun hn => hk e (List.mem_filter.2 ⟨hs, by rw [hv]; exact beq_iff_eq.2 hn⟩) rfl
    exact bne_iff_ne.2 hn

/-- The lowest session that is not open is one of the 32. -/
theorem freeSess_some {s : State} {n : Nat} (h : freeSess s = some n) : n < 32 ∧ sessOf s n = none := by
  have hm := List.mem_of_find?_eq_some h
  have hp := List.find?_some h
  exact ⟨List.mem_range.1 hm, Option.isNone_iff_eq_none.1 hp⟩

/-- The entry of a key has that key, and its role. -/
theorem entryOf_some {s : State} {key k r : Nat} (h : entryOf s key = some (k, r)) :
    s.val o1130_01 [pRK k] = key ∧ s.val o1130_02 [pRK k] = r := by
  obtain ⟨k', hf, he⟩ := Option.map_eq_some_iff.1 h
  cases he
  have hp := List.find?_some hf
  simp only [Bool.and_eq_true, beq_iff_eq] at hp
  exact ⟨hp.1, rfl⟩

/-! ### Requests in a session -/

/-- A response in an open session goes out where the session answers, and only the kept responses change. -/
theorem sendResp_open {n : Nat} {v : Sess} {s : State} (r : AdsResp) (h : sessOf s n = some v) :
    ∃ l, sendResp n r s = emit (.adsum n v.via r) (setSess n (some { v with answered := l }) s) := by
  simp only [sendResp, h]
  exact ⟨_, rfl⟩

section
variable (n : Nat) (via : Via) (op : AdsOp) (rid : Fin 65536) (items : List AdsItem) (v : Sess) (s : State)

/-- A request that was answered before gets its response again. -/
theorem takeAdsum_answered (e : Nat × AdsResp) (h : v.answered.find? (fun e => e.1 == rid.val) = some e) :
    takeAdsum n via op rid items v s = emit (.adsum n via e.2) (setSess n (some { v with reqAt := s.clk.now }) s) := by
  simp only [takeAdsum, h]

/-- A request under way is discarded. -/
theorem takeAdsum_underWay (h : v.answered.find? (fun e => e.1 == rid.val) = none) (ho : rid.val ∈ outstanding s n) :
    takeAdsum n via op rid items v s = setSess n (some { v with reqAt := s.clk.now }) s := by
  simp [takeAdsum, h, ho]

/-- A fresh request waits where fewer than eight are outstanding. -/
theorem takeAdsum_waits (h : v.answered.find? (fun e => e.1 == rid.val) = none) (ho : rid.val ∉ outstanding s n)
    (hl : (outstanding s n).length < 8) :
    takeAdsum n via op rid items v s =
      enqueueMsg { via := via, ses := some n, msg := .adsum op rid items } (setSess n (some { v with reqAt := s.clk.now }) s) := by
  simp [takeAdsum, h, ho, Nat.not_le.2 hl]

/-- A ninth request is answered BUSY. -/
theorem takeAdsum_busy (h : v.answered.find? (fun e => e.1 == rid.val) = none) (ho : rid.val ∉ outstanding s n)
    (hl : 8 ≤ (outstanding s n).length) :
    ∃ l, takeAdsum n via op rid items v s = emit (.adsum n v.via { st := .busy, rid := rid.val, time := tbNs s % 2 ^ 64 })
      (setSess n (some { v with reqAt := s.clk.now, answered := l }) (setSess n (some { v with reqAt := s.clk.now }) s)) := by
  obtain ⟨l, hr⟩ := sendResp_open (n := n) (s := setSess n (some { v with reqAt := s.clk.now }) s)
    { st := .busy, rid := rid.val, time := tbNs s % 2 ^ 64 } (sessOf_setSess _ _ _)
  refine ⟨l, ?_⟩
  rw [← hr]
  simp [takeAdsum, h, ho, hl]

/-- Whatever becomes of a request, no object changes, and the session stays open with its transport, its role and its record numbers. -/
theorem takeAdsum_keeps :
    (takeAdsum n via op rid items v s).store = s.store ∧ ∃ w, sessOf (takeAdsum n via op rid items v s) n = some w ∧
      w.via = v.via ∧ w.recAt = v.recAt ∧ w.role = v.role ∧ w.high = v.high := by
  cases hf : v.answered.find? (fun e => e.1 == rid.val) with
  | some e =>
    rw [takeAdsum_answered n via op rid items v s e hf]
    exact ⟨rfl, _, sessOf_setSess _ _ _, rfl, rfl, rfl, rfl⟩
  | none =>
    by_cases ho : rid.val ∈ outstanding s n
    · rw [takeAdsum_underWay n via op rid items v s hf ho]
      exact ⟨rfl, _, sessOf_setSess _ _ _, rfl, rfl, rfl, rfl⟩
    · obtain hl | hl := Nat.lt_or_ge (outstanding s n).length 8
      · rw [takeAdsum_waits n via op rid items v s hf ho hl]
        exact ⟨rfl, _, (sessOf_enqueueMsg _ _ _).trans (sessOf_setSess _ _ _), rfl, rfl, rfl, rfl⟩
      · obtain ⟨l, hb⟩ := takeAdsum_busy n via op rid items v s hf ho hl
        rw [hb]
        exact ⟨rfl, _, sessOf_setSess _ _ _, rfl, rfl, rfl, rfl⟩

/-- What becomes of a request: one answered before gets its response again, one under way nothing, a fresh one waits, and a ninth gets BUSY. -/
theorem takeAdsum_ends (hv : v.via = via) :
    let t := takeAdsum n via op rid items v s
    (∀ r, v.answered.find? (fun e => e.1 == rid.val) = some r → t.ads.inbox = s.ads.inbox ∧ t.out = s.out ++ [Output.adsum n via r.2]) ∧
    (v.answered.find? (fun e => e.1 == rid.val) = none →
      (rid.val ∈ outstanding s n → t.ads.inbox = s.ads.inbox ∧ t.out = s.out) ∧
      (rid.val ∉ outstanding s n → (outstanding s n).length < 8 →
        t.ads.inbox = s.ads.inbox ++ [(⟨via, some n, .adsum op rid items⟩ : InMsg)] ∧ t.out = s.out) ∧
      (rid.val ∉ outstanding s n → 8 ≤ (outstanding s n).length → t.ads.inbox = s.ads.inbox ∧
        t.out = s.out ++ [Output.adsum n via { st := .busy, rid := rid.val, time := tbNs s % 2 ^ 64 }])) := by
  refine ⟨fun r h => ?_, fun h => ⟨fun ho => ?_, fun ho hl => ?_, fun ho hl => ?_⟩⟩
  · rw [takeAdsum_answered n via op rid items v s r h]
    exact ⟨rfl, rfl⟩
  · rw [takeAdsum_underWay n via op rid items v s h ho]
    exact ⟨rfl, rfl⟩
  · rw [takeAdsum_waits n via op rid items v s h ho hl]
    exact ⟨rfl, rfl⟩
  · obtain ⟨l, hb⟩ := takeAdsum_busy n via op rid items v s h ho hl
    rw [hb, hv]
    exact ⟨rfl, rfl⟩

end

/-! ### Frames and records -/

@[simp] theorem acceptRecord_via (v : Sess) (via : Via) (seq now : Nat) : (acceptRecord v via seq now).via = via := rfl
@[simp] theorem acceptRecord_recAt (v : Sess) (via : Via) (seq now : Nat) : (acceptRecord v via seq now).recAt = now := rfl
@[simp] theorem acceptRecord_role (v : Sess) (via : Via) (seq now : Nat) : (acceptRecord v via seq now).role = v.role := rfl

/-- The highest number accepted is no lower than the record's. -/
theorem le_acceptRecord_high (v : Sess) (via : Via) (seq now : Nat) : seq ≤ (acceptRecord v via seq now).high.getD 0 :=
  Nat.le_max_left _ _

/-- A frame is lost: it is counted, and nothing else changes. -/
def FrameLost (s t : State) : Prop :=
  t.val o1120_06 [] = min (s.val o1120_06 [] + 1) o1120_06.hi ∧ ObjsKept s t [(o1120_06, [])] ∧ OnlyStore s t ∧ t.out = s.out

theorem discardFrame_lost (s : State) : FrameLost s (discardFrame s) :=
  ⟨put_val_self _ _ _ s, put_objsKept _ _ _ s, put_onlyStore _ _ _ s, bump_out _ _ _ s⟩

/-- The frame is of the size and the header that the endpoint takes. -/
def WholeFrame (via : Via) (f : AdsFrame) : Prop := oversize via f = false ∧ f.magic = 0xAD5F ∧ f.ver = 1

section
variable {via : Via} {f : AdsFrame} {s : State} {v : Sess}

theorem frameReceive_unheard (hh : hears s via f = false) : execAdsumFrameReceive via f s = .next s := by
  simp [execAdsumFrameReceive, hh]

theorem frameReceive_notWhole (hh : hears s via f = true) (hw : ¬ WholeFrame via f) :
    execAdsumFrameReceive via f s = .next (discardFrame s) := by
  have hw' : oversize via f = true ∨ f.magic ≠ 0xAD5F ∨ f.ver ≠ 1 := by
    by_cases ho : oversize via f = true
    · exact .inl ho
    · by_cases hm : f.magic = 0xAD5F
      · exact .inr (.inr fun hv => hw ⟨Bool.eq_false_iff.2 ho, hm, hv⟩)
      · exact .inr (.inl hm)
  simp [execAdsumFrameReceive, hh, hw']

theorem frameReceive_otherType (hh : hears s via f = true) (hw : WholeFrame via f) (h1 : f.ftype ≠ 1) (h2 : f.ftype ≠ 2) :
    execAdsumFrameReceive via f s = .next (discardFrame s) := by
  obtain ⟨ho, hm, hv⟩ := hw
  simp [execAdsumFrameReceive, hh, ho, hm, hv, h1, h2]

theorem frameReceive_noSession (hh : hears s via f = true) (hw : WholeFrame via f) (h2 : f.ftype = 2) (hs : sessOf s f.ses = none) :
    execAdsumFrameReceive via f s = .next (discardFrame s) := by
  obtain ⟨ho, hm, hv⟩ := hw
  simp [execAdsumFrameReceive, hh, ho, hm, hv, h2, hs]

/-- An SPDM request outside a session waits for its execution. -/
theorem frameReceive_spdm (hh : hears s via f = true) (hw : WholeFrame via f) (h1 : f.ftype = 1)
    (hm : f.msg = .getMeasurements ∨ ∃ b, f.msg = .keyExchange b) :
    execAdsumFrameReceive via f s = .next (enqueueMsg ⟨via, none, f.msg⟩ s) := by
  obtain ⟨ho, hm', hv⟩ := hw
  obtain hm | ⟨b, hm⟩ := hm <;> simp [execAdsumFrameReceive, hh, ho, hm', hv, h1, hm]

theorem frameReceive_record (hh : hears s via f = true) (hw : WholeFrame via f) (h2 : f.ftype = 2) (hs : sessOf s f.ses = some v) :
    execAdsumFrameReceive via f s = .next (takeRecord f.ses via f v s) := by
  obtain ⟨ho, hm, hv⟩ := hw
  simp [execAdsumFrameReceive, hh, ho, hm, hv, h2, hs]

/-- A record that is untagged or replayed is discarded. -/
theorem takeRecord_discarded (n : Nat) (h : f.tag = false ∨ fresh v f.seq = false) : takeRecord n via f v s = discardFrame s := by
  obtain h | h := h <;> simp [takeRecord, h]

/-- A valid record of a session that is set up carries its request into the session. -/
theorem takeRecord_adsum {op : AdsOp} {rid : Fin 65536} {items : List AdsItem} (n : Nat) (hm : f.msg = .adsum op rid items)
    (ht : f.tag = true) (hf : fresh v f.seq = true) (hr : v.ready = true) :
    takeRecord n via f v s = takeAdsum n via op rid items (acceptRecord v via f.seq s.clk.now)
      (setSess n (some (acceptRecord v via f.seq s.clk.now)) s) := by
  simp [takeRecord, hm, ht, hf, hr]

end

/-! ### The oldest message -/

/-- The state with the messages that are left once the oldest is taken. -/
def withInbox (r : List InMsg) (s : State) : State := { s with ads := { s.ads with inbox := r } }

@[simp] theorem withInbox_store (r : List InMsg) (s : State) : (withInbox r s).store = s.store := rfl
@[simp] theorem withInbox_out (r : List InMsg) (s : State) : (withInbox r s).out = s.out := rfl
@[simp] theorem withInbox_clk (r : List InMsg) (s : State) : (withInbox r s).clk = s.clk := rfl
@[simp] theorem withInbox_boot (r : List InMsg) (s : State) : (withInbox r s).boot = s.boot := rfl
@[simp] theorem withInbox_inbox (r : List InMsg) (s : State) : (withInbox r s).ads.inbox = r := rfl
@[simp] theorem sessOf_withInbox (r : List InMsg) (s : State) (n : Nat) : sessOf (withInbox r s) n = sessOf s n := rfl
@[simp] theorem freeSess_withInbox (r : List InMsg) (s : State) : freeSess (withInbox r s) = freeSess s := rfl
@[simp] theorem entryOf_withInbox (r : List InMsg) (s : State) (key : Nat) : entryOf (withInbox r s) key = entryOf s key := rfl

/-- The oldest message is taken where it meets the test. -/
theorem takeMsg_front {s : State} {m : InMsg} {r : List InMsg} (h : s.ads.inbox = m :: r) (p : InMsg → Bool) :
    takeMsg p s = if p m = true then some (m, withInbox r s) else none := by
  simp [takeMsg, h, withInbox]

section
variable {via : Via} {ses : Option Nat} {rest : List InMsg} {s : State}

theorem spdmGetMeasurements_front (h : s.ads.inbox = ⟨via, ses, .getMeasurements⟩ :: rest) :
    execSpdmGetMeasurements s =
      .next (emit (.spdm via 2 ses ((List.range 6).map fun k => Tbl.look 0 s.boot.meas (k + 1))) (withInbox rest s)) := by
  simp [execSpdmGetMeasurements, takeMsg_front h]

theorem spdmKeyExchange_full {b : Bool} (h : s.ads.inbox = ⟨via, ses, .keyExchange b⟩ :: rest) (hf : freeSess s = none) :
    execSpdmKeyExchange s = .next (emit (.spdm via 1 none []) (withInbox rest s)) := by
  simp [execSpdmKeyExchange, takeMsg_front h, hf]

theorem spdmKeyExchange_oneSided {n : Nat} (h : s.ads.inbox = ⟨via, ses, .keyExchange false⟩ :: rest) (hf : freeSess s = some n) :
    execSpdmKeyExchange s = .next (emit (.spdm via 0 none []) (withInbox rest s)) := by
  simp [execSpdmKeyExchange, takeMsg_front h, hf]

theorem spdmKeyExchange_opens {n : Nat} (h : s.ads.inbox = ⟨via, ses, .keyExchange true⟩ :: rest) (hf : freeSess s = some n) :
    execSpdmKeyExchange s = .next (emit (.spdm via 3 (some n) [])
      (setSess n (some { via := via, recAt := s.clk.now, reqAt := s.clk.now }) (withInbox rest s))) := by
  simp [execSpdmKeyExchange, takeMsg_front h, hf]

theorem spdmFinish_granted {n key k r : Nat} {v : Sess} (h : s.ads.inbox = ⟨via, some n, .finish key true⟩ :: rest)
    (hs : sessOf s n = some v) (he : entryOf s key = some (k, r)) :
    execSpdmFinish s = .next (emit (.spdm via 4 (some n) [])
      (setSess n (some { v with ready := true, role := r, rk := k, high := none, seen := [] }) (withInbox rest s))) := by
  simp [execSpdmFinish, takeMsg_front h, hs, he]

theorem spdmFinish_refused {n key : Nat} {ok : Bool} {v : Sess} (h : s.ads.inbox = ⟨via, some n, .finish key ok⟩ :: rest)
    (hs : sessOf s n = some v) (he : ok = false ∨ entryOf s key = none) :
    execSpdmFinish s = .next (emit (.spdm via 0 (some n) []) (endSession n (withInbox rest s))) := by
  have hn : (if ok = true then entryOf s key else none) = none := by
    obtain he | he := he <;> simp [he]
  simp [execSpdmFinish, takeMsg_front h, hs, hn]

theorem spdmHeartbeat_front (h : s.ads.inbox = ⟨via, ses, .heartbeat⟩ :: rest) :
    execSpdmHeartbeat s = .next (emit (.spdm via 5 ses []) (withInbox rest s)) := by
  simp [execSpdmHeartbeat, takeMsg_front h]

theorem spdmKeyUpdate_front {n : Nat} {v : Sess} (h : s.ads.inbox = ⟨via, some n, .keyUpdate⟩ :: rest) (hs : sessOf s n = some v) :
    execSpdmKeyUpdate s = .next (emit (.spdm via 6 (some n) []) (setSess n (some { v with keys := v.keys + 1 }) (withInbox rest s))) := by
  simp [execSpdmKeyUpdate, takeMsg_front h, hs]

theorem spdmEndSession_front {n : Nat} (h : s.ads.inbox = ⟨via, some n, .endSession⟩ :: rest) :
    execSpdmEndSession s = .next (emit (.spdm via 7 (some n) []) (endSession n (withInbox rest s))) := by
  simp [execSpdmEndSession, takeMsg_front h]

end

/-! ### Sessions that end, and I3C addresses -/

/-- Time has passed up to an instant, and no further. -/
@[simp] theorem advanceTo_now (t : Nat) (s : State) : (advanceTo t s).clk.now = max s.clk.now t := by
  unfold advanceTo
  split
  · change s.clk.now + (t - s.clk.now) = max s.clk.now t
    omega
  · omega

theorem sessionIdleTimeout_ends {n : Fin 32} {v : Sess} {s : State} (h : sessOf s n.val = some v) :
    execSessionIdleTimeout n s = .next (endSession n.val
      (advanceTo (min (v.recAt + sec (2 * s.val o1120_09 [])) (v.reqAt + sec (s.val o1120_01 []))) s)) := by
  simp only [execSessionIdleTimeout, h]

/-- An admitted write of SESSION_END is answered as its value decides. -/
theorem sessionEnd_admitted {role : Role} {n : Fin 32} {w : Nat} {s : State} (hg : writeGate role o1120_08 [pSES n.val] s = none) :
    execSessionEnd role n w s =
      .next (answered (if 1 < w then (.refused, s) else (.ok, if w = 1 then endSession n.val s else s))) := by
  rw [execSessionEnd, managed_open _ _ _ _ _ hg, sessionEnd]

/-- The port takes an address: ENTDAA's where it has none, SETDASA's where its static address is the one named. -/
def i3cTakes (k : Fin 2) (s : State) : Option (Fin 128) → Prop
  | none => s.val o1110_02 [pI3C k.val] = 0
  | some x => x.val ≠ 0 ∧ x.val = s.val o1110_01 [pI3C k.val]

theorem i3cDynamicAddress_taken {k : Fin 2} {st : Option (Fin 128)} {a : Fin 128} {s : State} (hv : s.pwr.vsb = true)
    (h : i3cTakes k s st) : execI3cDynamicAddress k st a s = .next (s.put o1110_02 [pI3C k.val] a.val) := by
  cases st with
  | none => simp [execI3cDynamicAddress, hv, show s.val o1110_02 [pI3C k.val] = 0 from h]
  | some x =>
    obtain ⟨hx, he⟩ := h
    have ho : s.val o1110_01 [pI3C k.val] ≠ 0 := he ▸ hx
    simp [execI3cDynamicAddress, hv, he, ho]

theorem i3cDynamicAddress_kept {k : Fin 2} {st : Option (Fin 128)} {a : Fin 128} {s : State} (h : ¬ i3cTakes k s st) :
    execI3cDynamicAddress k st a s = .next s := by
  cases st with
  | none =>
    simp [execI3cDynamicAddress, show s.val o1110_02 [pI3C k.val] ≠ 0 from h]
  | some x =>
    simp only [execI3cDynamicAddress]
    rw [if_neg fun hc => h (by simpa [i3cTakes] using hc.2)]

/-- A command has one next state. -/
theorem next_unique {o : Host.Outcome State Fault Refusal} {t u : State} (ht : o = .next t) (hu : o = .next u) : t = u :=
  Host.Outcome.next.inj (ht.symm.trans hu)

/-- A plain object's value on a standalone device is taken or refused, and what else turns a write away. -/
theorem registerWrite_ends (role : Role) (i : Fin 65536) (k : Fin 256) (p : Path) (v : Nat) (x : Extra) (s : State)
    (ha : 16 ≤ s.val o4200_01 []) (hp : p.head?.map (·.1) ≠ some 1) :
    ∃ t, execRegisterWrite role i k p v x s = .next t ∧
      (∀ o, objAt i.val k.val = some o → (instances s o p = none → TurnedAway s t .notFound) ∧
        (∀ st, instances s o p = some (true, [p]) → writeGate role o p s = some st → TurnedAway s t st) ∧
        (o ∈ plainObjects → instances s o p = some (true, [p]) → writeGate role o p s = none →
          (inRange o v = true → Writes s t o p (v &&& o.mask)) ∧ (inRange o v = false → TurnedAway s t .refused))) ∧
      (objAt i.val k.val = none → TurnedAway s t (if k.val = 255 ∧ objsAt i.val ≠ [] then .refused else .notFound)) := by
  cases ho : objAt i.val k.val with
  | none =>
    refine ⟨_, registerWrite_unknown role i k p v x s ho, fun _ h => (by cases h), fun _ => ?_⟩
    simp [List.isEmpty_eq_false_iff, TurnedAway, answer, emit]
  | some o =>
    refine ⟨_, registerWrite_standalone role i k p v x s o ha hp ho, ?_, nofun⟩
    rintro o' ⟨⟩
    refine ⟨fun hi => ?_, fun st hi hg => ?_, fun hpl hi hg => ?_⟩
    · rw [setObject_missing _ _ _ _ _ _ _ hi]
      exact settleWrite_turnedAway s .notFound (by simp)
    · rw [setObject_closed _ _ _ _ _ _ _ _ _ hi hg]
      exact settleWrite_turnedAway s st fun h => writeGate_ne_held role o p s (h ▸ hg)
    · rw [setObject_plain _ _ _ _ _ _ _ _ hpl hi hg]
      exact settleWrite_plainWrite o p v s

/-! ### Which meaning a command has -/

theorem exec_registerWrite (role : Role) (i : Fin 65536) (k : Fin 256) (p : Path) (v : Nat) (x : Extra) (s : State) :
    exec (.registerWrite role i k p v x) s = execRegisterWrite role i k p v x s := rfl
theorem exec_adsumFrameReceive (via : Via) (f : AdsFrame) (s : State) :
    exec (.adsumFrameReceive via f) s = execAdsumFrameReceive via f s := rfl
theorem exec_spdmGetMeasurements (s : State) : exec .spdmGetMeasurements s = execSpdmGetMeasurements s := rfl
theorem exec_spdmKeyExchange (s : State) : exec .spdmKeyExchange s = execSpdmKeyExchange s := rfl
theorem exec_spdmFinish (s : State) : exec .spdmFinish s = execSpdmFinish s := rfl
theorem exec_spdmHeartbeat (s : State) : exec .spdmHeartbeat s = execSpdmHeartbeat s := rfl
theorem exec_spdmKeyUpdate (s : State) : exec .spdmKeyUpdate s = execSpdmKeyUpdate s := rfl
theorem exec_spdmEndSession (s : State) : exec .spdmEndSession s = execSpdmEndSession s := rfl
theorem exec_sessionIdleTimeout (n : Fin 32) (s : State) : exec (.sessionIdleTimeout n) s = execSessionIdleTimeout n s := rfl
theorem exec_sessionEnd (role : Role) (n : Fin 32) (w : Nat) (s : State) : exec (.sessionEnd role n w) s = execSessionEnd role n w s := rfl
theorem exec_pValueDurable (s : State) : exec .pValueDurable s = execPValueDurable s := rfl
theorem exec_i3cDynamicAddress (k : Fin 2) (st : Option (Fin 128)) (a : Fin 128) (s : State) :
    exec (.i3cDynamicAddress k st a) s = execI3cDynamicAddress k st a s := rfl

/-! ### The statement -/

/-- A frame that is heard: lost, kept for its execution, or taken as a record of its session. -/
theorem frameReceive_ends {via : Via} {f : AdsFrame} {s : State} (hh : hears s via f = true) :
    ∃ t, execAdsumFrameReceive via f s = .next t ∧
      (¬ WholeFrame via f → FrameLost s t) ∧ (WholeFrame via f → f.ftype ≠ 1 → f.ftype ≠ 2 → FrameLost s t) ∧
      (WholeFrame via f → f.ftype = 2 → sessOf s f.ses = none → FrameLost s t) ∧
      (WholeFrame via f → f.ftype = 1 → f.msg = .getMeasurements ∨ (∃ b, f.msg = .keyExchange b) →
        t = enqueueMsg ⟨via, none, f.msg⟩ s) ∧
      (∀ v, WholeFrame via f → f.ftype = 2 → sessOf s f.ses = some v → t = takeRecord f.ses via f v s) := by
  obtain ⟨t, ht⟩ : ∃ t, execAdsumFrameReceive via f s = .next t := ⟨_, rfl⟩
  refine ⟨t, ht, fun hw => ?_, fun hw h1 h2 => ?_, fun hw h2 hs => ?_, fun hw h1 hm => ?_, fun v hw h2 hs => ?_⟩
  · exact next_unique (frameReceive_notWhole hh hw) ht ▸ discardFrame_lost s
  · exact next_unique (frameReceive_otherType hh hw h1 h2) ht ▸ discardFrame_lost s
  · exact next_unique (frameReceive_noSession hh hw h2 hs) ht ▸ discardFrame_lost s
  · exact next_unique ht (frameReceive_spdm hh hw h1 hm)
  · exact next_unique ht (frameReceive_record hh hw h2 hs)

/-- KEY_EXCHANGE opens the lowest free session where both sides authenticate, and is an error otherwise. -/
theorem spdmKeyExchange_ends {via : Via} {ses : Option Nat} {rest : List InMsg} {s : State} {b : Bool}
    (h : s.ads.inbox = ⟨via, ses, .keyExchange b⟩ :: rest) :
    ∃ t, execSpdmKeyExchange s = .next t ∧ t.ads.inbox = rest ∧ t.store = s.store ∧
      (freeSess s = none → t.ads.sess = s.ads.sess ∧ t.out = s.out ++ [Output.spdm via 1 none []]) ∧
      (∀ n, freeSess s = some n → b = false → t.ads.sess = s.ads.sess ∧ t.out = s.out ++ [Output.spdm via 0 none []]) ∧
      (∀ n, freeSess s = some n → b = true → n < 32 ∧ sessOf s n = none ∧ t.out = s.out ++ [Output.spdm via 3 (some n) []] ∧
        sessOf t n = some { via := via, recAt := s.clk.now, reqAt := s.clk.now }) := by
  cases hf : freeSess s with
  | none => exact ⟨_, spdmKeyExchange_full h hf, rfl, rfl, fun _ => ⟨rfl, rfl⟩, nofun, nofun⟩
  | some n =>
    cases b with
    | false => exact ⟨_, spdmKeyExchange_oneSided h hf, rfl, rfl, nofun, fun _ _ _ => ⟨rfl, rfl⟩, nofun⟩
    | true =>
      refine ⟨_, spdmKeyExchange_opens h hf, rfl, rfl, nofun, nofun, ?_⟩
      rintro n' ⟨⟩ -
      obtain ⟨hn, hs⟩ := freeSess_some hf
      exact ⟨hn, hs, rfl, sessOf_setSess _ _ _⟩

/-- FINISH gives the session the role of the matching key's entry, or ends it. -/
theorem spdmFinish_ends {via : Via} {rest : List InMsg} {s : State} {n key : Nat} {ok : Bool} {v : Sess}
    (h : s.ads.inbox = ⟨via, some n, .finish key ok⟩ :: rest) (hs : sessOf s n = some v) :
    ∃ t, execSpdmFinish s = .next t ∧ t.ads.inbox.length ≤ rest.length ∧
      (∀ k r, ok = true → entryOf s key = some (k, r) → s.val o1130_01 [pRK k] = key ∧ s.val o1130_02 [pRK k] = r ∧
        sessOf t n = some { v with ready := true, role := r, rk := k, high := none, seen := [] } ∧
        t.out = s.out ++ [Output.spdm via 4 (some n) []]) ∧
      (ok = false ∨ entryOf s key = none → sessOf t n = none ∧ t.out = s.out ++ [Output.spdm via 0 (some n) []]) := by
  by_cases he : ok = false ∨ entryOf s key = none
  · refine ⟨_, spdmFinish_refused h hs he, List.length_filter_le _ _, fun k r hok hk => ?_, fun _ => ⟨sessOf_endSession _ _, rfl⟩⟩
    simp [hok, hk] at he
  · obtain ⟨rfl, hn⟩ : ok = true ∧ entryOf s key ≠ none := by simpa using he
    obtain ⟨⟨k, r⟩, hk⟩ := Option.ne_none_iff_exists'.1 hn
    refine ⟨_, spdmFinish_granted h hs hk, Nat.le_refl _, fun k' r' _ hk' => ?_, fun h => absurd h he⟩
    cases hk.symm.trans hk'
    obtain ⟨hkey, hrole⟩ := entryOf_some hk
    exact ⟨hkey, hrole, sessOf_setSess _ _ _, rfl⟩

/-- SESSION_END is turned away but for the value 1, which ends the session. -/
theorem sessionEnd_ends {role : Role} {n : Fin 32} {s : State} (w : Nat) (hg : writeGate role o1120_08 [pSES n.val] s = none) :
    ∃ t, execSessionEnd role n w s = .next t ∧ (1 < w → TurnedAway s t .refused) ∧ (w = 0 → TurnedAway s t .ok) ∧
      (w = 1 → sessOf t n.val = none ∧ t.out = s.out ++ [Output.answer .ok none] ∧ t.store = s.store) := by
  refine ⟨_, sessionEnd_admitted hg, fun hw => ?_, ?_, ?_⟩
  · rw [if_pos hw]
    rfl
  · rintro rfl
    rfl
  · rintro rfl
    exact ⟨sessOf_endSession _ s, rfl, rfl⟩

/-- A port takes an address or nothing changes. -/
theorem i3cDynamicAddress_ends (k : Fin 2) (st : Option (Fin 128)) (a : Fin 128) {s : State} (hv : s.pwr.vsb = true) :
    ∃ t, execI3cDynamicAddress k st a s = .next t ∧ t.out = s.out ∧
      (i3cTakes k s st → t.val o1110_02 [pI3C k.val] = a.val) ∧ (¬ i3cTakes k s st → t = s) ∧
      ObjsKept s t [(o1110_02, [pI3C k.val])] := by
  by_cases h : i3cTakes k s st
  · exact ⟨_, i3cDynamicAddress_taken hv h, put_out _ _ _ _, fun _ => put_val_self _ _ _ _, fun hn => absurd h hn, put_objsKept _ _ _ _⟩
  · exact ⟨_, i3cDynamicAddress_kept h, rfl, fun hy => absurd hy h, fun _ => rfl, fun _ _ _ => rfl⟩

/-- Settles O55: each command by the equations of its branches. -/
theorem writesFramesAndSessions : Obligations.WritesFramesAndSessions := by
  unfold Obligations.WritesFramesAndSessions
  simp only [exec_registerWrite, exec_adsumFrameReceive, exec_spdmGetMeasurements, exec_spdmKeyExchange, exec_spdmFinish,
    exec_spdmHeartbeat, exec_spdmKeyUpdate, exec_spdmEndSession, exec_sessionIdleTimeout, exec_sessionEnd, exec_pValueDurable,
    exec_i3cDynamicAddress]
  refine ⟨registerWrite_ends, fun via f s => ⟨frameReceive_unheard, fun hh => ?_⟩, fun via ses msg rest s h => ⟨?_, ?_, ?_, ?_, ?_, ?_⟩,
    fun role n w v s hv => ⟨?_, sessionEnd_ends w⟩, fun s => ⟨fun h => ?_, fun h => ?_⟩, fun k st a s hv => ?_⟩
  · obtain ⟨t, ht, hpart, htype, hnone, hspdm, hrec⟩ := frameReceive_ends hh
    refine ⟨t, ht, hpart, htype, hnone, hspdm, fun v hw h2 hs => ?_⟩
    obtain rfl := hrec v hw h2 hs
    refine ⟨fun h => takeRecord_discarded (s := s) f.ses h ▸ discardFrame_lost s, fun op rid items hm htag hf hr => ?_⟩
    rw [takeRecord_adsum f.ses hm htag hf hr, hm]
    obtain ⟨hstore, w, hw, hvia, hat, hrole, hhigh⟩ := takeAdsum_keeps f.ses via op rid items
      (acceptRecord v via f.seq s.clk.now) (setSess f.ses (some (acceptRecord v via f.seq s.clk.now)) s)
    refine ⟨?_, hstore, takeAdsum_ends f.ses via op rid items
      (acceptRecord v via f.seq s.clk.now) (setSess f.ses (some (acceptRecord v via f.seq s.clk.now)) s) rfl⟩
    simp [hw, hvia, hat, hrole, hhigh, le_acceptRecord_high]
  · rintro rfl
    exact ⟨_, spdmGetMeasurements_front h, rfl, rfl, rfl⟩
  · rintro b rfl
    exact spdmKeyExchange_ends h
  · rintro n key ok v rfl rfl hs
    exact spdmFinish_ends h hs
  · rintro rfl
    exact spdmHeartbeat_front h
  · rintro n v rfl rfl hs
    exact ⟨_, spdmKeyUpdate_front h hs, sessOf_setSess _ _ _, rfl, rfl⟩
  · rintro n rfl rfl
    exact ⟨_, spdmEndSession_front h, by simp, by simp, by simp, endSession_subs n _, by simp⟩
  · exact ⟨_, sessionIdleTimeout_ends hv, sessOf_endSession _ _, by simp, by simp [sec]⟩
  · simp [execPValueDurable, h]
  · simp [execPValueDurable, h]
  · obtain ⟨t, ht, hout, hyes, hno, hkept⟩ := i3cDynamicAddress_ends k st a hv
    refine ⟨t, ht, hout, ?_, ?_, hkept⟩
    · rintro rfl
      split
      · exact hyes ‹_›
      · exact hno ‹_›
    · rintro x rfl
      split
      · exact hyes ‹_›
      · exact hno ‹_›

end Sys2Proof.Machine
end
